-- ==== Sys2Proof/Word.lean ====
section
/-! DEFINITION. The words the part handles and the index ranges its manual numbers things by (00 section 3, Numbering). -/

namespace Sys2Proof

/-- One byte on a serial line (10 section 10.1). -/
abbrev Byte := BitVec 8

/-- A 16-bit word: the status word, a round count, a conversion count, a check word. -/
abbrev Word := BitVec 16

/-- Outlets O0 to O23; the drive channel, DRV and FB line of an outlet share its index. -/
abbrev OutletId := Fin 24

/-- Branches B0 to B5. -/
abbrev BranchId := Fin 6

/-- Ratio channels M0 to M5. -/
abbrev RatioId := Fin 6

/-- Pulse channels F0 to F7. -/
abbrev PulseId := Fin 8

/-- Stores S0 and S1. -/
abbrev StoreId := Fin 2

/-- Boilers 0 and 1. -/
abbrev BoilerId := Fin 2

/-- Ports A, B and C by their port codes 0, 1 and 2 (R171). -/
abbrev Port := Fin 3

/-- Tiers 0 (most essential) to 3. -/
abbrev Tier := Fin 4

/-- A table of n entries by its rule. It is irreducible so that no proof unfolds a whole table to look at one entry. -/
@[irreducible] def tabulate {n : Nat} {α : Type} (f : Fin n → α) : Vector α n := Vector.ofFn f

/-- Profiles QUIET (0), PEAK (1), DAY (2), EVENING (3) (01 section 1.7). -/
abbrev Profile := Fin 4

end Sys2Proof
end

