-- ==== Sys2Proof/Syntax.lean ====
section
/-! DEFINITION. The commands of the part: one constructor for each row of spec/opcode_table.json. -/

namespace Sys2Proof

/-- The four plant inputs (03 section 3.7). -/
inductive PlantInput where
  | trip0 | trip1 | lowpr | lockout
  deriving DecidableEq, Repr

/-- The commands. A framed command is a good frame of its code that completes at a port: its operands are the port and the payload bytes of the frame (10, table 10-4; log 13). The other rows carry what they concern and what the outside world supplies. -/
inductive Instr where
  /-- IDENTIFY, code 01h. -/
  | identify (p : Port) (payload : List Byte)
  /-- READ STATUS, code 02h. -/
  | readStatus (p : Port) (payload : List Byte)
  /-- READ OUTLET, code 03h. -/
  | readOutlet (p : Port) (payload : List Byte)
  /-- READ POOL, code 04h. -/
  | readPool (p : Port) (payload : List Byte)
  /-- READ STORE, code 05h. -/
  | readStore (p : Port) (payload : List Byte)
  /-- READ CHANNEL, code 06h. -/
  | readChannel (p : Port) (payload : List Byte)
  /-- READ BURSTS, code 07h. -/
  | readBursts (p : Port) (payload : List Byte)
  /-- READ EVENTS, code 08h. -/
  | readEvents (p : Port) (payload : List Byte)
  /-- READ RIGHTS, code 09h. -/
  | readRights (p : Port) (payload : List Byte)
  /-- SET DEMAND, code 10h. -/
  | setDemand (p : Port) (payload : List Byte)
  /-- SET LIMITS, code 11h. -/
  | setLimits (p : Port) (payload : List Byte)
  /-- SET OUTLET CONFIG, code 12h. -/
  | setOutletConfig (p : Port) (payload : List Byte)
  /-- PARK OUTLET, code 13h. -/
  | parkOutlet (p : Port) (payload : List Byte)
  /-- UNPARK OUTLET, code 14h. -/
  | unparkOutlet (p : Port) (payload : List Byte)
  /-- CLEAR ABSENT, code 15h. -/
  | clearAbsent (p : Port) (payload : List Byte)
  /-- SENSE START, code 16h. -/
  | senseStart (p : Port) (payload : List Byte)
  /-- SENSE END, code 17h. -/
  | senseEnd (p : Port) (payload : List Byte)
  /-- REQUEST BURST, code 18h. -/
  | requestBurst (p : Port) (payload : List Byte)
  /-- END BURST, code 19h. -/
  | endBurst (p : Port) (payload : List Byte)
  /-- POST CAPACITY, code 20h. -/
  | postCapacity (p : Port) (payload : List Byte)
  /-- POST MARGIN, code 21h. -/
  | postMargin (p : Port) (payload : List Byte)
  /-- POST PUMP FLOW, code 22h. -/
  | postPumpFlow (p : Port) (payload : List Byte)
  /-- SET PROFILE, code 28h. -/
  | setProfile (p : Port) (payload : List Byte)
  /-- SET STORE, code 29h. -/
  | setStore (p : Port) (payload : List Byte)
  /-- SET CHANNEL, code 2Ah. -/
  | setChannel (p : Port) (payload : List Byte)
  /-- SET BRANCH, code 2Bh. -/
  | setBranch (p : Port) (payload : List Byte)
  /-- MASK EVENTS, code 30h. -/
  | maskEvents (p : Port) (payload : List Byte)
  /-- SET WINDOW, code 31h. -/
  | setWindow (p : Port) (payload : List Byte)
  /-- ENGINE START, code 40h. -/
  | engineStart (p : Port) (payload : List Byte)
  /-- ENGINE STOP, code 41h. -/
  | engineStop (p : Port) (payload : List Byte)
  /-- SERVICE ENTER, code 42h. -/
  | serviceEnter (p : Port) (payload : List Byte)
  /-- SERVICE LEAVE, code 43h. -/
  | serviceLeave (p : Port) (payload : List Byte)
  /-- SERVICE DRIVE, form SET, code 44h. -/
  | serviceDriveSet (p : Port) (payload : List Byte)
  /-- SERVICE DRIVE, form RELEASE, code 44h. -/
  | serviceDriveRelease (p : Port) (payload : List Byte)
  /-- ENGINE RESET, code 45h. -/
  | engineReset (p : Port) (payload : List Byte)
  /-- TABLE RESET, code 46h. -/
  | tableReset (p : Port) (payload : List Byte)
  /-- TEST TABLE, code 47h. -/
  | testTable (p : Port) (payload : List Byte)
  /-- SAVE CONFIG, code 48h. -/
  | saveConfig (p : Port) (payload : List Byte)
  /-- A good frame with an undefined command code (R140). -/
  | unknownCommand (p : Port) (code : Byte) (payload : List Byte)
  /-- A good frame completes while a command of the same port is outstanding (R139). -/
  | overrun (p : Port)
  /-- A byte is received, with or without its stop bit (R137). -/
  | receiveByte (p : Port) (b : Byte) (stopBit : Bool)
  /-- More than 5 ms pass inside a frame with no next byte (R137). -/
  | interByteTimeout (p : Port)
  /-- The line stays quiet for more than 5 ms in DISCARD (R137). -/
  | discardQuietExpiry (p : Port)
  /-- The last byte of the response has gone (R139). -/
  | responseSent (p : Port)
  /-- The arbiter hands the free table to the next waiting requester (R20). -/
  | tableHandover
  /-- The steam round timer expires (R27). -/
  | steamRoundTimerExpiry
  /-- The water round timer expires (R27). -/
  | waterRoundTimerExpiry
  /-- SPE, handed the table, runs a steam round and releases the table (R37 to R42). -/
  | steamRound
  /-- WPE, handed the table, runs a water round and releases the table (R43 to R45). -/
  | waterRound
  /-- The silence timer of a port expires (R148). -/
  | silenceTimerExpiry (p : Port)
  /-- The silence timer of a port reaches half its time (R147). -/
  | lapseWarning (p : Port)
  /-- The table part of a pending lapse is applied (R149). -/
  | applyLapse (p : Port)
  /-- A plant input pin goes to a level, low or high (R64). -/
  | plantInputLevelChange (i : PlantInput) (low : Bool)
  /-- A debounce interval completes (R64). -/
  | debounceExpiry (i : PlantInput)
  /-- The establishment interval of an input ends (R65). -/
  | inputEstablished (i : PlantInput)
  /-- The gate of a reference conversion completes with a count, or none on overflow (R85, R86). -/
  | referenceConversion (count : Option Word)
  /-- The gate of a ratio conversion completes with a count, or none on overflow (R85, R87). -/
  | ratioConversion (m : RatioId) (count : Option Word)
  /-- The 30 s reference hold expires (R91). -/
  | holdTimerExpiry
  /-- A high-to-low transition of a pulse input (R94). -/
  | pulseCount (f : PulseId)
  /-- A drive channel's period ends and the next begins (R117). -/
  | periodBoundary (n : OutletId)
  /-- The dwell remaining of a warming channel reaches 0 (R122). -/
  | dwellExpiry (n : OutletId)
  /-- A branch settle timer expires (R124). -/
  | settleTimerExpiry (b : BranchId)
  /-- The feedback watch confirms loss (R127). -/
  | feedbackLossConfirmed (n : OutletId)
  /-- The pending ABSENT write of an outlet is applied or dropped (R15, R22). -/
  | applyAbsentWrite (n : OutletId)
  /-- The 10 s hold limit of a sense expires (R130). -/
  | senseHoldExpiry (n : OutletId)
  /-- The pending sense-expiry write of an outlet is applied or dropped (R18, R22). -/
  | applySenseExpiryWrite (n : OutletId)
  /-- The remaining time of the outlet's CLEARED entry reaches 0 (R108). -/
  | burstDurationExpiry (n : OutletId)
  /-- The wait time of the outlet's QUEUED entry reaches its limit (R109). -/
  | burstWaitExpiry (n : OutletId)
  /-- The pending removal of the outlet's entry is applied or dropped (R107 to R109). -/
  | applyBurstRemoval (n : OutletId)
  /-- The pending engine-state write is applied (R157). -/
  | applyEngineStateWrite
  /-- The self-test is handed the table (R161). -/
  | selfTestStart
  /-- The self-test ends; the operand says whether a word failed to read back a pattern (R162, R163). -/
  | selfTestEnd (memoryFails : Bool)
  /-- The Configuration Store is handed the table for a save (R166). -/
  | saveStart
  /-- The save ends; the operand says whether the read-back check word equals the one written (R166). -/
  | saveEnd (readBackMatches : Bool)
  /-- The deferred steps of an ENGINE RESET are carried out (R169). -/
  | engineResetDeferred
  /-- The deferred steps of a TABLE RESET are carried out and the load begins (R170). -/
  | tableResetLoadStart
  /-- The 100 ms load of the image ends (R168, R170). -/
  | configLoadEnd
  /-- Power-on (R168). -/
  | powerOn
  /-- The reset line is released (R168). -/
  | resetLine
  /-- A 10 ms tick of a drive channel, with the level of its feedback input (R126, R129). -/
  | driveTick (n : OutletId) (fb : Bool)
  deriving DecidableEq, Repr

end Sys2Proof
end

