-- ==== Sys2Proof/Config.lean ====
section
/-! DEFINITION. The working configuration: the settings that SAVE CONFIG saves and a load restores (R164), their built-in defaults (R165), and the one value the manual leaves open, the bytes of the image. -/

namespace Sys2Proof

/-- Pool of an outlet (01 section 1.1). -/
inductive Pool where
  | steam | water | unused
  deriving DecidableEq, Repr

/-- Role of an outlet; a RECHARGE outlet is bound to a store (R3). -/
inductive Role where
  | plain
  | recharge (store : StoreId)
  deriving DecidableEq, Repr

/-- Drive polarity (R117). -/
inductive Polarity where
  | activeHigh | activeLow
  deriving DecidableEq, Repr

/-- Safe state (R131). -/
inductive SafeState where
  | closed | opened | hold
  deriving DecidableEq, Repr

/-- What a confirmed loss of feedback does (R15). -/
inductive AbsentAction where
  | forceOff | reportOnly
  deriving DecidableEq, Repr

/-- The structure fields of an outlet record (01 section 1.1, R2). Periods and on times in ticks, cold time and dwell in seconds, cap in percent. -/
structure OutletStructure where
  pool : Pool
  role : Role
  branch : Option BranchId
  meter : Option PulseId
  period : Nat
  minOn : Nat
  polarity : Polarity
  safeState : SafeState
  coldTime : Nat
  dwell : Nat
  warmCap : Nat
  absentAction : AbsentAction
  deriving DecidableEq, Repr

/-- What a lapse does to an owned demand (R149). -/
inductive LapseAction where
  | hold | fallback | zero
  deriving DecidableEq, Repr

/-- The limit fields of an outlet record (R5). -/
structure Limits where
  tiers : Vector Tier 4
  weight : Nat
  floor : Nat
  ceiling : Nat
  lapseAction : LapseAction
  fallback : Nat
  tolerance : Nat
  deriving DecidableEq, Repr

/-- Start condition saved for an outlet (R23, R164). -/
inductive StartCondition where
  | active | parked
  deriving DecidableEq, Repr

/-- Settings of one store (R68). Setpoint and low point in dC. -/
structure StoreSettings where
  primary : Option RatioId
  secondary : Option RatioId
  setpoint : Int
  lowPoint : Int
  gain : Nat
  fallback : Nat
  deriving DecidableEq, Repr

/-- Reference fault action (05 section 5.5). -/
inductive FaultAction where
  | hold | invalid | safe
  deriving DecidableEq, Repr

/-- Rights held per outlet (08 section 8.2). -/
structure OutletRights where
  read : Bool
  demand : Bool
  limits : Bool
  park : Bool
  burst : Bool
  deriving DecidableEq, Repr

/-- Rights held for the part as a whole (08 section 8.2). -/
structure GlobalRights where
  capacity : Bool
  profile : Bool
  store : Bool
  admin : Bool
  deriving DecidableEq, Repr

/-- Size code of a rights window: 1, 2, 4, 8, 16 outlets or ALL (08 section 8.2). -/
inductive SizeCode where
  | one | two | four | eight | sixteen | all
  deriving DecidableEq, Repr

/-- Pool filter of a rights window (R142). -/
inductive PoolFilter where
  | steam | water | both | off
  deriving DecidableEq, Repr

/-- A rights window (R142). -/
structure Window where
  base : Nat
  size : SizeCode
  filter : PoolFilter
  rights : OutletRights
  deriving DecidableEq, Repr

/-- The rights configuration of one port (R145). Silence time in seconds, 0 for off. -/
structure PortConfig where
  windows : Vector Window 4
  defaultRights : OutletRights
  globalRights : GlobalRights
  silence : Nat
  deriving DecidableEq, Repr

/-- What the image holds for one outlet (R164, item 1). -/
structure OutletConfig where
  struct : OutletStructure
  limits : Limits
  start : StartCondition
  deriving DecidableEq, Repr

/-- The working configuration in the order R164 lists it. -/
structure WorkingConfig where
  outlets : Vector OutletConfig 24
  profile : Profile
  margin : Nat
  lowFraction : Nat
  lapseCapacity : Vector Nat 2
  lapseFlow : Nat
  stores : Vector StoreSettings 2
  dLow : Nat
  failDerate : Nat
  faultAction : FaultAction
  ratioEnable : Vector Bool 6
  ratioTrim : Vector Int 6
  pulseWeight : Vector Nat 8
  settle : Vector Nat 6
  ports : Vector PortConfig 3
  deriving DecidableEq, Repr

/-- FREE VALUE. The bytes of an image, in the order of R164. No file gives the bytes an item takes in the image, so they are left uninterpreted: log 11. -/
opaque Config.imageBytes : WorkingConfig → List Byte

namespace Config

/-- Default structure of an outlet (R165). -/
def defaultStructure : OutletStructure :=
  { pool := .unused, role := .plain, branch := none, meter := none, period := 1000, minOn := 0,
    polarity := .activeHigh, safeState := .closed, coldTime := 600, dwell := 0, warmCap := 50,
    absentAction := .forceOff }

/-- Default limits of an outlet (R165). -/
def defaultLimits : Limits :=
  { tiers := Vector.replicate 4 3, weight := 1, floor := 0, ceiling := 0, lapseAction := .zero,
    fallback := 0, tolerance := 10 }

/-- Default settings of a store: M0 measures S0 and M1 measures S1 (R68). -/
def defaultStore (i : StoreId) : StoreSettings :=
  { primary := some (if i = 0 then 0 else 1), secondary := none, setpoint := 600, lowPoint := 500,
    gain := 100, fallback := 0 }

/-- No right on an outlet. -/
def noRights : OutletRights := ⟨false, false, false, false, false⟩

/-- Default rights of a port: READ on every outlet; Port A alone holds CAPACITY and ADMIN (R145). -/
def defaultPort (p : Port) : PortConfig :=
  { windows := Vector.replicate 4 { base := 0, size := .one, filter := .off, rights := noRights },
    defaultRights := { noRights with read := true },
    globalRights := { capacity := p = 0, profile := false, store := false, admin := p = 0 },
    silence := 0 }

/-- The built-in defaults in full (R165, with R19, R60, R68, R99, R123 and R145). -/
def defaults : WorkingConfig :=
  { outlets := Vector.replicate 24 { struct := defaultStructure, limits := defaultLimits, start := .parked },
    profile := 0, margin := 10, lowFraction := 50, lapseCapacity := Vector.replicate 2 0, lapseFlow := 0,
    stores := tabulate defaultStore, dLow := 60, failDerate := 50, faultAction := .hold,
    ratioEnable := Vector.replicate 6 true, ratioTrim := Vector.replicate 6 0,
    pulseWeight := Vector.replicate 8 10, settle := Vector.replicate 6 10,
    ports := tabulate defaultPort }

end Config

end Sys2Proof
end

