-- ==== Sys2Proof/Machine/State.lean ====
section
/-! DEFINITION. The state of the part as plain data, block by block, and the state right after reset. -/

namespace Sys2Proof.Machine

/-! ## Outlet Table (chapter 1) -/

/-- Demand owner (R9). -/
inductive Owner where
  | port (p : Port)
  | engine
  | none
  deriving DecidableEq, Repr

/-- Grant status (R11). -/
inductive GrantStatus where
  | idle | full | partially | shed | burst
  deriving DecidableEq, Repr

/-- The condition a sense was started from (R17). -/
inductive Prior where
  | parked | absent
  deriving DecidableEq, Repr

/-- Outlet condition (01 section 1.6). -/
inductive Condition where
  | active | parked | absent
  | sensing (prior : Prior)
  deriving DecidableEq, Repr

/-- Continuity result (R18). -/
inductive Continuity where
  | none | present | absent | unknown
  deriving DecidableEq, Repr

/-- One outlet record (01 section 1.1). The burst reference, when present, names the one entry of this outlet in the burst list (R12, R100). -/
structure Outlet where
  struct : OutletStructure
  limits : Limits
  demand : Nat
  owner : Owner
  grant : Nat
  status : GrantStatus
  condition : Condition
  trim : Nat
  overStreak : Nat
  underStreak : Nat
  continuity : Continuity
  burstRef : Bool
  deriving DecidableEq, Repr

/-! ## Table arbiter (01 section 1.8) -/

/-- The seven requesters of the table (R20). -/
inductive Requester where
  | port (p : Port)
  | spe | wpe | selfTest | store
  deriving DecidableEq, Repr

/-- Engine-state write waiting for the table (R157). -/
inductive EngineWrite where
  | none | grants | grantsAndBursts
  deriving DecidableEq, Repr

/-- Reset whose remaining steps wait for a port's release of the table (R169, R170). -/
inductive DeferredReset where
  | none | engine | table
  deriving DecidableEq, Repr

/-- Kind of a pending Burst List removal (R108, R109). -/
inductive RemovalKind where
  | duration | waitLimit
  deriving DecidableEq, Repr

/-- The arbiter: the holder of the table, the last holder, the engines' waiting requests and the writes that wait for the table. The waiting port commands stand with their ports, the waiting self-test and save with the operation in progress, the drive-unit writes with their channels and the lapses with their links. -/
structure Arbiter where
  holder : Option Requester
  lastHolder : Requester
  steamRequest : Bool
  waterRequest : Bool
  removals : List (OutletId × RemovalKind)
  engineWrite : EngineWrite
  deferred : DeferredReset
  deriving DecidableEq, Repr

/-! ## Burst List (chapter 6) -/

/-- State of a burst entry with what its state carries: the wait time of a QUEUED entry, the remaining time and clearance order of a CLEARED one (R100). Times in milliseconds. -/
inductive BurstState where
  | queued (waited : Nat)
  | cleared (remaining : Nat) (rank : Nat)
  deriving DecidableEq, Repr

/-- One entry of the burst list (R100). Duration and wait limit in seconds. -/
structure BurstEntry where
  outlet : OutletId
  requester : Port
  amount : Nat
  duration : Nat
  waitLimit : Nat
  state : BurstState
  deriving DecidableEq, Repr

/-! ## Pool engines (chapters 2 and 3) -/

/-- Round outcome (R46). -/
inductive RoundOutcome where
  | normal | floorOverload | noCapacity
  deriving DecidableEq, Repr

/-- Boiler record (R51). -/
structure Boiler where
  postedKw : Nat
  armed : Bool
  poster : Option Port
  lapseCapacity : Nat
  deriving DecidableEq, Repr

/-- Steam pool record with its round timer, in milliseconds; none when stopped (02 section 2.1, R26). -/
structure SteamPool where
  boilers : Vector Boiler 2
  margin : Nat
  lowFraction : Nat
  lowpr : Bool
  lastC : Nat
  lastU : Nat
  sumGrants : Nat
  roundCount : Word
  skipped : Nat
  outcome : RoundOutcome
  pointers : Vector OutletId 4
  timer : Option Nat
  deriving DecidableEq, Repr

/-- Water pool record with its round timer. firstRound says that the first water round since an entry to RUN is still to come (R44). -/
structure WaterPool where
  flow : Nat
  poster : Option Port
  lapseFlow : Nat
  dLow : Nat
  failDerate : Nat
  lastDerate : Nat
  lastUsable : Nat
  sumGrants : Nat
  roundCount : Word
  skipped : Nat
  outcome : RoundOutcome
  pointers : Vector OutletId 4
  timer : Option Nat
  firstRound : Bool
  deriving DecidableEq, Repr

/-! ## Store Monitor (chapter 4) -/

/-- A store's reading, its validity and its source (R71). -/
inductive StoreReading where
  | notValid
  | primary (t : Int)
  | secondary (t : Int)
  deriving DecidableEq, Repr

/-- Where a recharge demand came from (R74, R75). -/
inductive DemandOrigin where
  | reading | fallback
  deriving DecidableEq, Repr

/-- The demand the last completed steam round wrote for a store's recharge outlet (R73). -/
structure RechargeRecord where
  outlet : OutletId
  demand : Nat
  origin : DemandOrigin
  deriving DecidableEq, Repr

/-- Store record (R68, R73). -/
structure Store where
  settings : StoreSettings
  reading : StoreReading
  lastRecharge : Option RechargeRecord
  deriving DecidableEq, Repr

/-! ## Measurement Unit (chapter 5) -/

/-- Last count of a channel (R85). -/
inductive LastCount where
  | none
  | count (c : Word)
  | overflow
  deriving DecidableEq, Repr

/-- Reference state; a VALID reference holds its count c_r (R86). -/
inductive RefState where
  | pending
  | valid (count : Nat)
  | refFault
  deriving DecidableEq, Repr

/-- The reference channel, with the hold timer in milliseconds (R86, R90, R91). -/
structure Reference where
  state : RefState
  lastCount : LastCount
  action : FaultAction
  hold : Option Nat
  deriving DecidableEq, Repr

/-- Ratio channel state; a channel is enabled exactly when it is not DISABLED (05 section 5.4, R97). -/
inductive ChannelState where
  | disabled | suspect | valid | fault
  deriving DecidableEq, Repr

/-- Cause of an invalid conversion (R87). -/
inductive Cause where
  | none | short | opened | ref | range
  deriving DecidableEq, Repr

/-- A ratio channel (R89, R91, R96). -/
structure RatioChannel where
  state : ChannelState
  strikes : Nat
  reading : Option Int
  stale : Bool
  lastCount : LastCount
  lastCause : Cause
  trim : Int
  deriving DecidableEq, Repr

/-- A pulse channel (05 section 5.6). -/
structure PulseChannel where
  weight : Nat
  count : Nat
  overflow : Bool
  lastFlow : Nat
  lastSaturated : Bool
  deriving DecidableEq, Repr

/-- What the scan is converting (R84). -/
inductive ScanSlot where
  | reference
  | ratio (m : RatioId)
  deriving DecidableEq, Repr

/-- The scan: the conversion in progress and what its gate has left, in milliseconds (R84, R85). -/
structure Scan where
  slot : ScanSlot
  gateLeft : Nat
  deriving DecidableEq, Repr

/-! ## Plant Input Unit (03 section 3.7) -/

/-- What the debouncer of an input is doing: establishing its first state, watching, or timing a difference (R64, R65). Milliseconds. -/
inductive Debounce where
  | establishing (left : Nat) (lowSeen : Bool)
  | steady
  | differing (left : Nat)
  deriving DecidableEq, Repr

/-- One plant input: its pin level and its debounced state (R64). -/
structure InputPin where
  low : Bool
  asserted : Bool
  debounce : Debounce
  deriving DecidableEq, Repr

/-- The four plant inputs. -/
structure PlantInputs where
  trip0 : InputPin
  trip1 : InputPin
  lowpr : InputPin
  lockout : InputPin
  deriving DecidableEq, Repr

/-! ## Drive Unit (chapter 7) -/

/-- Drive phase (07 section 7.3). -/
inductive Phase where
  | off | settleWait | warming | cycling | held | test | safePattern
  deriving DecidableEq, Repr

/-- Level of a drive output, before polarity: at neither level until the first load has ended (R136). -/
inductive DriveOutput where
  | neither | off | on
  deriving DecidableEq, Repr

/-- One drive channel (R116). copy is the structure as last handed over, inUse the structure the period in progress runs on (R117). Dwell and hold times in milliseconds, closed time in seconds with its part of a second in ticks. -/
structure Channel where
  grant : Nat
  trim : Nat
  ceiling : Nat
  copy : OutletStructure
  inUse : OutletStructure
  condition : Condition
  phase : Phase
  applied : Nat
  position : Nat
  output : DriveOutput
  closedTime : Nat
  closedTicks : Nat
  dwellLeft : Nat
  watchCount : Nat
  watchLatch : Bool
  pendingAbsence : Bool
  override : Option Nat
  finding : Option Bool
  holdLeft : Option Nat
  testTick : Nat
  heldDuty : Nat
  pendingSenseEnd : Bool
  deriving DecidableEq, Repr

/-- One branch record (R123). Interval in seconds, timer in milliseconds, none when idle. -/
structure Branch where
  interval : Nat
  timer : Option Nat
  queue : List OutletId
  deriving DecidableEq, Repr

/-! ## Port Units (chapter 8) -/

/-- Why an entry was refused or revoked (06 section 6.4). -/
inductive BurstCause where
  | timeout | capacity | lockout | lapse | park | absent | reset
  deriving DecidableEq, Repr

/-- Self-test outcome (R162). -/
inductive TestOutcome where
  | pass | failMemory | failContent
  deriving DecidableEq, Repr

/-- Outcome of a configuration operation (R166, R170). -/
inductive ConfigOutcome where
  | saved | saveFailed | loaded | defaulted
  deriving DecidableEq, Repr

/-- The nineteen event flags of a port with their values (08 section 8.4). A flag with an index is set when it is some; a counted flag is set when its count is not 0. -/
structure EventFlags where
  outletShed : Option OutletId
  outletRestored : Option OutletId
  outletAbsent : Option OutletId
  senseDone : Option OutletId
  overdraw : Option OutletId
  burstCleared : Option OutletId
  burstEnded : Option OutletId
  burstWithdrawn : Option OutletId
  burstRefused : Option (OutletId × BurstCause)
  burstRevoked : Option (OutletId × BurstCause)
  sensorFault : Bool
  capacityChange : Bool
  lockoutChange : Bool
  engineState : Bool
  testDone : Option TestOutcome
  configDone : Option ConfigOutcome
  lapseWarning : Bool
  overrun : Nat
  frameError : Nat
  deriving DecidableEq, Repr

/-- Result codes (10, table 10-5). -/
inductive Result where
  | ok | accepted | clamped | tripActive | denied | badIndex | badState | busy | role | queueFull
  | duplicate | unknown | badLength
  deriving DecidableEq, Repr

/-- A response frame's contents (10 section 10.1). -/
structure Response where
  code : Byte
  result : Result
  status : Word
  payload : List Byte
  deriving DecidableEq, Repr

/-- The one command a port unit holds (R139): its frame held for a pending lapse (R148), a table command waiting at the arbiter (R21), or answered, its response being sent. revived says that the frame brought a LAPSED port back, which its response shows (R150). -/
inductive Outstanding where
  | held (code : Byte) (payload : List Byte)
  | waiting (code : Byte) (payload : List Byte) (revived : Bool)
  | answered (r : Response) (transmitting : Bool)
  deriving DecidableEq, Repr

/-- Frame receiver; IN_FRAME keeps the bytes taken since the start byte (R137). -/
inductive Receiver where
  | idle
  | inFrame (bytes : List Byte)
  | discard
  deriving DecidableEq, Repr

/-- Link state (08 section 8.3). -/
inductive Link where
  | active | lapsing | lapsed
  deriving DecidableEq, Repr

/-- A silence timer that is not stopped: time left, the time it was last loaded with, and whether LAPSE_WARNING has been given since (R147). Milliseconds. -/
structure SilenceTimer where
  left : Nat
  loaded : Nat
  warned : Bool
  deriving DecidableEq, Repr

/-- One port unit (chapter 8). quiet is the time since the last byte, in milliseconds. -/
structure PortUnit where
  receiver : Receiver
  quiet : Nat
  outstanding : Option Outstanding
  config : PortConfig
  link : Link
  silence : Option SilenceTimer
  flags : EventFlags
  mask : BitVec 19
  deriving DecidableEq, Repr

/-! ## Engine Control and Configuration Store (chapter 9) -/

/-- Engine state. -/
inductive EngineState where
  | standby | run | service | safe
  deriving DecidableEq, Repr

/-- Operation in progress. -/
inductive Operation where
  | none | selfTest | save | load
  deriving DecidableEq, Repr

/-- Reset cause. -/
inductive ResetCause where
  | powerOn | resetLine | tableReset | engineReset
  deriving DecidableEq, Repr

/-- Engine Control (chapter 9). opLeft is what the operation has left once it holds the table, in milliseconds; starting says that the sequence of R168 is in progress. -/
structure EngineControl where
  state : EngineState
  op : Operation
  opLeft : Nat
  cause : ResetCause
  defaulted : Bool
  starting : Bool
  deriving DecidableEq, Repr

/-- The Configuration Store: the image, its stored check word (none once marked invalid, R166) and the configuration a save in progress has taken. -/
structure ConfigStore where
  image : WorkingConfig
  check : Option Word
  saving : Option WorkingConfig
  deriving DecidableEq, Repr

/-! ## The part -/

/-- The state of the part. pending is the queue of commands that wait, first in, first out. -/
structure State where
  outlets : Vector Outlet 24
  profile : Profile
  arbiter : Arbiter
  bursts : List BurstEntry
  steam : SteamPool
  water : WaterPool
  stores : Vector Store 2
  reference : Reference
  ratio : Vector RatioChannel 6
  pulse : Vector PulseChannel 8
  scan : Scan
  inputs : PlantInputs
  channels : Vector Channel 24
  branches : Vector Branch 6
  ports : Vector PortUnit 3
  engine : EngineControl
  store : ConfigStore
  pending : List Instr
  deriving DecidableEq, Repr

/-- No event of the manual stops the part: every command is answered or taken in and the part goes on (INVENTORY, Faults). No fault is ever raised, so the type is empty. -/
inductive Fault where
  deriving DecidableEq, Repr

/-- Why the model gives no meaning. -/
inductive Refusal where
  /-- Raised by exec for a command not modelled yet; safe. No arm raises it. -/
  | notModelled (mnemonic : String)
  deriving DecidableEq, Repr

/-! ## Reset (R168 at the end of its load, with the reset table of each block)

The state below is that of a new part when the power-on sequence has just ended: its image has failed its check word, so the working configuration is the built-in defaults (11 section 11.1, R165; log 9). -/

/-- An outlet record after power-on, from its configuration (R23). -/
def Outlet.ofConfig (c : OutletConfig) : Outlet :=
  { struct := c.struct, limits := c.limits, demand := 0,
    owner := match c.struct.role with
      | .recharge _ => .engine
      | .plain => .none,
    grant := 0, status := .idle,
    condition := match c.start with
      | .active => .active
      | .parked => .parked,
    trim := 100, overStreak := 0, underStreak := 0, continuity := .none, burstRef := false }

/-- A drive channel after a reset, idle in the safe pattern with its output off (R136). -/
def Channel.ofOutlet (o : Outlet) : Channel :=
  { grant := 0, trim := o.trim, ceiling := o.limits.ceiling, copy := o.struct, inUse := o.struct,
    condition := o.condition, phase := .safePattern, applied := 0, position := 0, output := .off,
    closedTime := 0, closedTicks := 0, dwellLeft := 0, watchCount := 0, watchLatch := false,
    pendingAbsence := false, override := none, finding := none, holdLeft := none, testTick := 0,
    heldDuty := 0, pendingSenseEnd := false }

/-- Every event flag clear (R154). -/
def EventFlags.clear : EventFlags :=
  { outletShed := none, outletRestored := none, outletAbsent := none, senseDone := none,
    overdraw := none, burstCleared := none, burstEnded := none, burstWithdrawn := none,
    burstRefused := none, burstRevoked := none, sensorFault := false, capacityChange := false,
    lockoutChange := false, engineState := false, testDone := none, configDone := none,
    lapseWarning := false, overrun := 0, frameError := 0 }

/-- The silence timer freshly loaded with a silence time in seconds; a time of 0 runs no timer (R147). -/
def SilenceTimer.load (seconds : Nat) : Option SilenceTimer :=
  if seconds = 0 then none
  else some { left := seconds * 1000, loaded := seconds * 1000, warned := false }

/-- A port unit after power-on, from its configuration (R154). -/
def PortUnit.ofConfig (c : PortConfig) : PortUnit :=
  { receiver := .idle, quiet := 0, outstanding := none, config := c, link := .active,
    silence := SilenceTimer.load c.silence, flags := .clear, mask := BitVec.allOnes 19 }

/-- A store record after power-on: no channel holds a reading yet (R68, R73). -/
def Store.ofSettings (c : StoreSettings) : Store :=
  { settings := c, reading := .notValid, lastRecharge := none }

/-- A ratio channel after power-on (R99). -/
def RatioChannel.ofConfig (enable : Bool) (trim : Int) : RatioChannel :=
  { state := if enable then .suspect else .disabled, strikes := 0, reading := none, stale := false,
    lastCount := .none, lastCause := .none, trim := trim }

/-- A pulse channel after power-on (R99). -/
def PulseChannel.ofWeight (w : Nat) : PulseChannel :=
  { weight := w, count := 0, overflow := false, lastFlow := 0, lastSaturated := false }

/-- A plant input while it is being established, its pin high (R65; log 10). -/
def InputPin.establishing (left : Nat) (low : Bool) : InputPin :=
  { low := low, asserted := true, debounce := .establishing left low }

/-- The steam pool record after power-on (R25, R51). -/
def SteamPool.ofConfig (c : WorkingConfig) : SteamPool :=
  { boilers := tabulate fun b =>
      { postedKw := 0, armed := false, poster := none, lapseCapacity := c.lapseCapacity[b] },
    margin := c.margin, lowFraction := c.lowFraction, lowpr := true, lastC := 0, lastU := 0,
    sumGrants := 0, roundCount := 0, skipped := 0, outcome := .normal,
    pointers := Vector.replicate 4 0, timer := none }

/-- The water pool record after power-on (R25, R61). -/
def WaterPool.ofConfig (c : WorkingConfig) : WaterPool :=
  { flow := 0, poster := none, lapseFlow := c.lapseFlow, dLow := c.dLow, failDerate := c.failDerate,
    lastDerate := 0, lastUsable := 0, sumGrants := 0, roundCount := 0, skipped := 0,
    outcome := .normal, pointers := Vector.replicate 4 0, timer := none, firstRound := false }

/-- The part right after reset (R168; log 9, log 10). -/
def State.reset : State :=
  { outlets := tabulate fun n => Outlet.ofConfig Config.defaults.outlets[n]
    profile := Config.defaults.profile
    arbiter := { holder := none, lastHolder := .store, steamRequest := false, waterRequest := false,
                 removals := [], engineWrite := .none, deferred := .none }
    bursts := []
    steam := SteamPool.ofConfig Config.defaults
    water := WaterPool.ofConfig Config.defaults
    stores := tabulate fun i => Store.ofSettings Config.defaults.stores[i]
    reference := { state := .pending, lastCount := .none, action := Config.defaults.faultAction, hold := none }
    ratio := tabulate fun m =>
      RatioChannel.ofConfig Config.defaults.ratioEnable[m] Config.defaults.ratioTrim[m]
    pulse := tabulate fun f => PulseChannel.ofWeight Config.defaults.pulseWeight[f]
    scan := { slot := .reference, gateLeft := 0 }
    inputs := { trip0 := .establishing 0 false, trip1 := .establishing 0 false,
                lowpr := .establishing 0 false, lockout := .establishing 0 false }
    channels := tabulate fun n => Channel.ofOutlet (Outlet.ofConfig Config.defaults.outlets[n])
    branches := tabulate fun b => { interval := Config.defaults.settle[b], timer := none, queue := [] }
    ports := tabulate fun p => PortUnit.ofConfig Config.defaults.ports[p]
    engine := { state := .standby, op := .none, opLeft := 0, cause := .powerOn, defaulted := true, starting := false }
    store := { image := Config.defaults, check := none, saving := none }
    pending := [] }

end Sys2Proof.Machine
end

