-- ==== Sys2Proof/Machine/Operands.lean ====
section
/-! DEFINITION. The bytes of chapter 10: numbers and codes in payloads, command codes and their accepted lengths, the frame CRC (R138, R171). -/

namespace Sys2Proof.Machine

/-! ## Numbers (R171) -/

/-- The byte at a position of a payload; payloads are read only after their length has been checked. -/
def byteAt (pl : List Byte) (i : Nat) : Byte := pl.getD i 0

/-- The unsigned one-byte number at a position. -/
def u8At (pl : List Byte) (i : Nat) : Nat := (byteAt pl i).toNat

/-- The unsigned two-byte number at a position, high byte first. -/
def u16At (pl : List Byte) (i : Nat) : Nat := u8At pl i * 256 + u8At pl (i + 1)

/-- The signed one-byte number at a position, in two's complement. -/
def s8At (pl : List Byte) (i : Nat) : Int := (byteAt pl i).toInt

/-- The signed two-byte number at a position, high byte first. -/
def s16At (pl : List Byte) (i : Nat) : Int := (byteAt pl i ++ byteAt pl (i + 1)).toInt

/-- A number as one byte. -/
def be8 (n : Nat) : List Byte := [BitVec.ofNat 8 n]

/-- A number as two bytes, high byte first. -/
def be16 (n : Nat) : List Byte := [BitVec.ofNat 8 (n / 256), BitVec.ofNat 8 n]

/-- A number as three bytes, high byte first. -/
def be24 (n : Nat) : List Byte := BitVec.ofNat 8 (n / 65536) :: be16 n

/-- A signed number as one byte. -/
def sbe8 (n : Int) : List Byte := [BitVec.ofInt 8 n]

/-- A signed number as two bytes, high byte first. -/
def sbe16 (n : Int) : List Byte := be16 (BitVec.ofInt 16 n).toNat

/-- A flag as a bit value. -/
def bit (b : Bool) : Nat := if b then 1 else 0

/-- Bits, the first of them bit 0, as a number. -/
def ofBits : List Bool → Nat
  | [] => 0
  | b :: bs => bit b + 2 * ofBits bs

/-- Clamping of a number to a range (00 section 3). -/
def clampNat (lo hi n : Nat) : Nat := max lo (min n hi)

/-- Clamping of a signed number to a range. -/
def clampInt (lo hi n : Int) : Int := max lo (min n hi)

/-- An index below n, or nothing for a number that is none. -/
def index? (n : Nat) (v : Nat) : Option (Fin n) := if h : v < n then some ⟨v, h⟩ else none

/-! ## Codes of the layout tables (10 section 10.3) -/

/-- An optional index: a code below n, or FFh for none; anything else is undefined. -/
def optIndex? (n : Nat) (b : Byte) : Option (Option (Fin n)) :=
  if b = 0xFF then some none else (index? n b.toNat).map some

/-- The code of an optional index, FFh for none. -/
def optCode {n : Nat} : Option (Fin n) → Nat
  | some i => i.val
  | none => 0xFF

/-- Pool codes. -/
def pool? : Byte → Option Pool
  | 0 => some .steam
  | 1 => some .water
  | 2 => some .unused
  | _ => none

/-- The code of a pool. -/
def poolCode : Pool → Nat
  | .steam => 0
  | .water => 1
  | .unused => 2

/-- Role and store codes. -/
def role? : Byte → Option Role
  | 0 => some .plain
  | 1 => some (.recharge 0)
  | 2 => some (.recharge 1)
  | _ => none

/-- The code of a role with its store. -/
def roleCode : Role → Nat
  | .plain => 0
  | .recharge s => s.val + 1

/-- Polarity, safe state and absent action as one byte packs them; a set bit above bit 3 is an undefined code (log 15). -/
def driveByte? (b : Byte) : Option (Polarity × SafeState × AbsentAction) :=
  if 16 ≤ b.toNat then none
  else
    let pol := if b.getLsbD 0 then Polarity.activeLow else .activeHigh
    let act := if b.getLsbD 3 then AbsentAction.reportOnly else .forceOff
    match b.toNat / 2 % 4 with
    | 0 => some (pol, .closed, act)
    | 1 => some (pol, .opened, act)
    | 2 => some (pol, .hold, act)
    | _ => none

/-- The byte that packs polarity, safe state and absent action. -/
def driveByte (s : OutletStructure) : Nat :=
  (match s.polarity with
    | .activeHigh => 0
    | .activeLow => 1) +
  2 * (match s.safeState with
    | .closed => 0
    | .opened => 1
    | .hold => 2) +
  8 * (match s.absentAction with
    | .forceOff => 0
    | .reportOnly => 1)

/-- Lapse action codes. -/
def lapseAction? : Byte → Option LapseAction
  | 0 => some .hold
  | 1 => some .fallback
  | 2 => some .zero
  | _ => none

/-- The code of a lapse action. -/
def lapseCode : LapseAction → Nat
  | .hold => 0
  | .fallback => 1
  | .zero => 2

/-- Reference fault action codes. -/
def faultAction? : Byte → Option FaultAction
  | 0 => some .hold
  | 1 => some .invalid
  | 2 => some .safe
  | _ => none

/-- The code of a reference fault action. -/
def faultActionCode : FaultAction → Nat
  | .hold => 0
  | .invalid => 1
  | .safe => 2

/-- Size codes of a rights window. -/
def size? : Byte → Option SizeCode
  | 0 => some .one
  | 1 => some .two
  | 2 => some .four
  | 3 => some .eight
  | 4 => some .sixteen
  | 5 => some .all
  | _ => none

/-- The code of a window size. -/
def sizeCode : SizeCode → Nat
  | .one => 0
  | .two => 1
  | .four => 2
  | .eight => 3
  | .sixteen => 4
  | .all => 5

/-- Pool filter codes. -/
def filter? : Byte → Option PoolFilter
  | 0 => some .steam
  | 1 => some .water
  | 2 => some .both
  | 3 => some .off
  | _ => none

/-- The code of a pool filter. -/
def filterCode : PoolFilter → Nat
  | .steam => 0
  | .water => 1
  | .both => 2
  | .off => 3

/-- An outlet rights set; a set bit above BURST is a right of the wrong kind (R145, R171). -/
def outletRights? (b : Byte) : Option OutletRights :=
  if 32 ≤ b.toNat then none
  else some ⟨b.getLsbD 0, b.getLsbD 1, b.getLsbD 2, b.getLsbD 3, b.getLsbD 4⟩

/-- The byte of an outlet rights set. -/
def outletRightsCode (r : OutletRights) : Nat := ofBits [r.read, r.demand, r.limits, r.park, r.burst]

/-- A global rights set; a set bit above ADMIN is a right of the wrong kind. -/
def globalRights? (b : Byte) : Option GlobalRights :=
  if 16 ≤ b.toNat then none
  else some ⟨b.getLsbD 0, b.getLsbD 1, b.getLsbD 2, b.getLsbD 3⟩

/-- The byte of a global rights set. -/
def globalRightsCode (r : GlobalRights) : Nat := ofBits [r.capacity, r.profile, r.store, r.admin]

/-- The channel a channel code names: 00h the reference, 10h to 15h M0 to M5, 20h to 27h F0 to F7 (10 section 10.2). -/
inductive ChannelName where
  | reference
  | ratio (m : RatioId)
  | pulse (f : PulseId)
  deriving DecidableEq, Repr

/-- Channel codes. -/
def channel? (b : Byte) : Option ChannelName :=
  if b = 0 then some .reference
  else if 0x10 ≤ b.toNat ∧ b.toNat < 0x20 then (index? 6 (b.toNat - 0x10)).map .ratio
  else if 0x20 ≤ b.toNat then (index? 8 (b.toNat - 0x20)).map .pulse
  else none

/-- The code of a demand owner (R171). -/
def ownerCode : Owner → Nat
  | .port p => p.val
  | .engine => 0xFE
  | .none => 0xFF

/-- The code of a grant status. -/
def statusCode : GrantStatus → Nat
  | .idle => 0
  | .full => 1
  | .partially => 2
  | .shed => 3
  | .burst => 4

/-- The byte of a condition with its prior condition. -/
def conditionCode : Condition → Nat
  | .active => 0
  | .parked => 1
  | .absent => 2
  | .sensing .parked => 3 + 16
  | .sensing .absent => 3 + 32

/-- The code of a continuity result. -/
def continuityCode : Continuity → Nat
  | .none => 0
  | .present => 1
  | .absent => 2
  | .unknown => 3

/-- The code of a drive phase. -/
def phaseCode : Phase → Nat
  | .off => 0
  | .settleWait => 1
  | .warming => 2
  | .cycling => 3
  | .held => 4
  | .test => 5
  | .safePattern => 6

/-- The code of a round outcome. -/
def outcomeCode : RoundOutcome → Nat
  | .normal => 0
  | .floorOverload => 1
  | .noCapacity => 2

/-- The code of a ratio channel state. -/
def channelStateCode : ChannelState → Nat
  | .disabled => 0
  | .suspect => 1
  | .valid => 2
  | .fault => 3

/-- The code of a reference state. -/
def refStateCode : RefState → Nat
  | .pending => 0
  | .valid _ => 1
  | .refFault => 2

/-- The code of a conversion cause. -/
def causeCode : Cause → Nat
  | .none => 0
  | .short => 1
  | .opened => 2
  | .ref => 3
  | .range => 4

/-- The code of a burst cause. -/
def burstCauseCode : BurstCause → Nat
  | .timeout => 1
  | .capacity => 2
  | .lockout => 3
  | .lapse => 4
  | .park => 5
  | .absent => 6
  | .reset => 7

/-- The code of a self-test outcome. -/
def testOutcomeCode : TestOutcome → Nat
  | .pass => 0
  | .failMemory => 1
  | .failContent => 2

/-- The code of the outcome of a configuration operation. -/
def configOutcomeCode : ConfigOutcome → Nat
  | .saved => 0
  | .saveFailed => 1
  | .loaded => 2
  | .defaulted => 3

/-- Result codes (10, table 10-5). -/
def resultCode : Result → Byte
  | .ok => 0x00
  | .accepted => 0x01
  | .clamped => 0x02
  | .tripActive => 0x03
  | .denied => 0x10
  | .badIndex => 0x11
  | .badState => 0x12
  | .busy => 0x13
  | .role => 0x14
  | .queueFull => 0x15
  | .duplicate => 0x16
  | .unknown => 0x17
  | .badLength => 0x18

/-- The last count of a channel as two bytes' worth: 0 on overflow or when none. -/
def lastCountValue : LastCount → Nat
  | .count c => c.toNat
  | .none | .overflow => 0

/-- Bit 0 the last conversion overflowed, bit 1 there has been none. -/
def lastCountFlags : LastCount → Nat
  | .count _ => 0
  | .overflow => 1
  | .none => 2

/-! ## Commands (10, table 10-4) -/

/-- The defined command codes. -/
inductive Code where
  | identify | readStatus | readOutlet | readPool | readStore | readChannel | readBursts | readEvents
  | readRights | setDemand | setLimits | setOutletConfig | parkOutlet | unparkOutlet | clearAbsent
  | senseStart | senseEnd | requestBurst | endBurst | postCapacity | postMargin | postPumpFlow
  | setProfile | setStore | setChannel | setBranch | maskEvents | setWindow | engineStart | engineStop
  | serviceEnter | serviceLeave | serviceDrive | engineReset | tableReset | testTable | saveConfig
  deriving DecidableEq, Repr

/-- The code byte of a command. -/
def Code.byte : Code → Byte
  | .identify => 0x01
  | .readStatus => 0x02
  | .readOutlet => 0x03
  | .readPool => 0x04
  | .readStore => 0x05
  | .readChannel => 0x06
  | .readBursts => 0x07
  | .readEvents => 0x08
  | .readRights => 0x09
  | .setDemand => 0x10
  | .setLimits => 0x11
  | .setOutletConfig => 0x12
  | .parkOutlet => 0x13
  | .unparkOutlet => 0x14
  | .clearAbsent => 0x15
  | .senseStart => 0x16
  | .senseEnd => 0x17
  | .requestBurst => 0x18
  | .endBurst => 0x19
  | .postCapacity => 0x20
  | .postMargin => 0x21
  | .postPumpFlow => 0x22
  | .setProfile => 0x28
  | .setStore => 0x29
  | .setChannel => 0x2A
  | .setBranch => 0x2B
  | .maskEvents => 0x30
  | .setWindow => 0x31
  | .engineStart => 0x40
  | .engineStop => 0x41
  | .serviceEnter => 0x42
  | .serviceLeave => 0x43
  | .serviceDrive => 0x44
  | .engineReset => 0x45
  | .tableReset => 0x46
  | .testTable => 0x47
  | .saveConfig => 0x48

/-- The command a code byte stands for; nothing for an undefined code. -/
def Code.ofByte (b : Byte) : Option Code :=
  match b with
  | 0x01 => some .identify
  | 0x02 => some .readStatus
  | 0x03 => some .readOutlet
  | 0x04 => some .readPool
  | 0x05 => some .readStore
  | 0x06 => some .readChannel
  | 0x07 => some .readBursts
  | 0x08 => some .readEvents
  | 0x09 => some .readRights
  | 0x10 => some .setDemand
  | 0x11 => some .setLimits
  | 0x12 => some .setOutletConfig
  | 0x13 => some .parkOutlet
  | 0x14 => some .unparkOutlet
  | 0x15 => some .clearAbsent
  | 0x16 => some .senseStart
  | 0x17 => some .senseEnd
  | 0x18 => some .requestBurst
  | 0x19 => some .endBurst
  | 0x20 => some .postCapacity
  | 0x21 => some .postMargin
  | 0x22 => some .postPumpFlow
  | 0x28 => some .setProfile
  | 0x29 => some .setStore
  | 0x2A => some .setChannel
  | 0x2B => some .setBranch
  | 0x30 => some .maskEvents
  | 0x31 => some .setWindow
  | 0x40 => some .engineStart
  | 0x41 => some .engineStop
  | 0x42 => some .serviceEnter
  | 0x43 => some .serviceLeave
  | 0x44 => some .serviceDrive
  | 0x45 => some .engineReset
  | 0x46 => some .tableReset
  | 0x47 => some .testTable
  | 0x48 => some .saveConfig
  | _ => none

/-- The payload lengths SET CHANNEL accepts, by the channel its first byte names; of an undefined channel code, either length of the forms (log 17). -/
def setChannelLengthOk (pl : List Byte) : Bool :=
  match channel? (byteAt pl 0) with
  | some .reference | some (.pulse _) => pl.length == 2
  | some (.ratio _) => pl.length == 3
  | none => pl.length == 2 || pl.length == 3

/-- The payload lengths SERVICE DRIVE accepts, by its form byte; of an undefined form, either length (log 17). -/
def serviceDriveLengthOk (pl : List Byte) : Bool :=
  if pl.length = 4 then decide (byteAt pl 1 ≠ 1)
  else if pl.length = 2 then decide (byteAt pl 1 ≠ 0)
  else false

/-- Whether a command accepts a payload by its length (10, table 10-4). -/
def Code.lengthOk (c : Code) (pl : List Byte) : Bool :=
  match c with
  | .identify | .readStatus | .readEvents | .engineStart | .engineStop | .serviceEnter
  | .serviceLeave | .engineReset | .tableReset | .testTable | .saveConfig => pl.length == 0
  | .readStore | .readChannel | .readBursts | .parkOutlet | .unparkOutlet | .clearAbsent
  | .senseStart | .senseEnd | .endBurst | .setProfile => pl.length == 1
  | .readOutlet | .readPool | .readRights | .setBranch => pl.length == 2
  | .setDemand | .maskEvents => pl.length == 3
  | .setWindow => pl.length == 6
  | .requestBurst => pl.length == 7
  | .setLimits => pl.length == 14
  | .setOutletConfig => pl.length == 15
  | .postCapacity => pl.length == 3 || pl.length == 5
  | .postMargin => pl.length == 1 || pl.length == 2
  | .postPumpFlow => pl.length == 2 || pl.length == 4
  | .setStore => pl.length == 10 || pl.length == 12
  | .setChannel => setChannelLengthOk pl
  | .serviceDrive => serviceDriveLengthOk pl

/-- The table commands (R21). -/
def Code.isTable : Code → Bool
  | .readOutlet | .readBursts | .setDemand | .setLimits | .setOutletConfig | .parkOutlet
  | .unparkOutlet | .clearAbsent | .senseStart | .senseEnd | .requestBurst | .endBurst
  | .setProfile => true
  | .identify | .readStatus | .readPool | .readStore | .readChannel | .readEvents | .readRights
  | .postCapacity | .postMargin | .postPumpFlow | .setStore | .setChannel | .setBranch | .maskEvents
  | .setWindow | .engineStart | .engineStop | .serviceEnter | .serviceLeave | .serviceDrive
  | .engineReset | .tableReset | .testTable | .saveConfig => false

/-! ## The CRC (R138) -/

/-- One bit of the CRC with polynomial 1021h. -/
def crcBit (c : Word) : Word := if c.msb then (c <<< 1) ^^^ 0x1021 else c <<< 1

/-- One byte of the CRC, most significant bit first. -/
def crcByte (c : Word) (b : Byte) : Word :=
  Nat.repeat crcBit 8 (c ^^^ (b ++ (0 : Byte)))

/-- The CRC of a run of bytes, from FFFFh, with no final inversion. -/
def crc (bs : List Byte) : Word := bs.foldl crcByte 0xFFFF

/-- The check word of an image: the CRC of R138 over the whole image (R164). -/
def imageCheck (c : WorkingConfig) : Word := crc (Config.imageBytes c)

/-- The bytes of a response frame on the line (10 section 10.1). -/
def Response.frame (r : Response) : List Byte :=
  let body := BitVec.ofNat 8 r.payload.length :: r.code :: resultCode r.result ::
    (be16 r.status.toNat ++ r.payload)
  0xA5 :: body ++ be16 (crc body).toNat

/-- The bytes of a command frame on the line (10 section 10.1). -/
def commandFrame (code : Byte) (pl : List Byte) : List Byte :=
  let body := BitVec.ofNat 8 pl.length :: code :: pl
  0xA5 :: body ++ be16 (crc body).toNat

end Sys2Proof.Machine
end

