-- ==== Sys2Proof/Machine/Ops.lean ====
section
/-! DEFINITION. Reading and updating one record of the state by its index, and the plain tests on the state that many rules share. -/

namespace Sys2Proof.Machine

namespace State

/-- The record of outlet On. -/
def outlet (s : State) (n : OutletId) : Outlet := s.outlets[n]

/-- Change the record of one outlet. -/
def modOutlet (s : State) (n : OutletId) (f : Outlet → Outlet) : State :=
  { s with outlets := s.outlets.set n (f s.outlets[n]) }

/-- Change every outlet record. -/
def mapOutlets (s : State) (f : OutletId → Outlet → Outlet) : State :=
  { s with outlets := tabulate fun n => f n s.outlets[n] }

/-- The drive channel of outlet On. -/
def channel (s : State) (n : OutletId) : Channel := s.channels[n]

/-- Change one drive channel. -/
def modChannel (s : State) (n : OutletId) (f : Channel → Channel) : State :=
  { s with channels := s.channels.set n (f s.channels[n]) }

/-- Change every drive channel. -/
def mapChannels (s : State) (f : OutletId → Channel → Channel) : State :=
  { s with channels := tabulate fun n => f n s.channels[n] }

/-- The record of a branch. -/
def branch (s : State) (b : BranchId) : Branch := s.branches[b]

/-- Change one branch record. -/
def modBranch (s : State) (b : BranchId) (f : Branch → Branch) : State :=
  { s with branches := s.branches.set b (f s.branches[b]) }

/-- Change every branch record. -/
def mapBranches (s : State) (f : BranchId → Branch → Branch) : State :=
  { s with branches := tabulate fun b => f b s.branches[b] }

/-- A port unit. -/
def port (s : State) (p : Port) : PortUnit := s.ports[p]

/-- Change one port unit. -/
def modPort (s : State) (p : Port) (f : PortUnit → PortUnit) : State :=
  { s with ports := s.ports.set p (f s.ports[p]) }

/-- Change every port unit. -/
def mapPorts (s : State) (f : Port → PortUnit → PortUnit) : State :=
  { s with ports := tabulate fun p => f p s.ports[p] }

/-- A ratio channel. -/
def ratioChannel (s : State) (m : RatioId) : RatioChannel := s.ratio[m]

/-- Change one ratio channel. -/
def modRatio (s : State) (m : RatioId) (f : RatioChannel → RatioChannel) : State :=
  { s with ratio := s.ratio.set m (f s.ratio[m]) }

/-- Change every ratio channel. -/
def mapRatio (s : State) (f : RatioId → RatioChannel → RatioChannel) : State :=
  { s with ratio := tabulate fun m => f m s.ratio[m] }

/-- A pulse channel. -/
def pulseChannel (s : State) (f : PulseId) : PulseChannel := s.pulse[f]

/-- Change one pulse channel. -/
def modPulse (s : State) (i : PulseId) (f : PulseChannel → PulseChannel) : State :=
  { s with pulse := s.pulse.set i (f s.pulse[i]) }

/-- Change every pulse channel. -/
def mapPulse (s : State) (f : PulseId → PulseChannel → PulseChannel) : State :=
  { s with pulse := tabulate fun i => f i s.pulse[i] }

/-- A store record. -/
def storeRec (s : State) (i : StoreId) : Store := s.stores[i]

/-- Change one store record. -/
def modStore (s : State) (i : StoreId) (f : Store → Store) : State :=
  { s with stores := s.stores.set i (f s.stores[i]) }

/-- Change every store record. -/
def mapStores (s : State) (f : StoreId → Store → Store) : State :=
  { s with stores := tabulate fun i => f i s.stores[i] }

/-- A boiler record. -/
def boiler (s : State) (b : BoilerId) : Boiler := s.steam.boilers[b]

/-- Change one boiler record. -/
def modBoiler (s : State) (b : BoilerId) (f : Boiler → Boiler) : State :=
  { s with steam := { s.steam with boilers := s.steam.boilers.set b (f s.steam.boilers[b]) } }

/-- Apply an operation for each outlet in ascending index. -/
def forOutlets (s : State) (f : OutletId → State → State) : State :=
  (List.finRange 24).foldl (fun t n => f n t) s

/-- Apply an operation for each port, A, B, C. -/
def forPorts (s : State) (f : Port → State → State) : State :=
  (List.finRange 3).foldl (fun t p => f p t) s

/-- Change the arbiter. -/
def modArbiter (s : State) (f : Arbiter → Arbiter) : State := { s with arbiter := f s.arbiter }

/-- Change Engine Control. -/
def modEngine (s : State) (f : EngineControl → EngineControl) : State := { s with engine := f s.engine }

/-- A plant input. -/
def input (s : State) : PlantInput → InputPin
  | .trip0 => s.inputs.trip0
  | .trip1 => s.inputs.trip1
  | .lowpr => s.inputs.lowpr
  | .lockout => s.inputs.lockout

/-- Change one plant input. -/
def modInput (s : State) (i : PlantInput) (f : InputPin → InputPin) : State :=
  match i with
  | .trip0 => { s with inputs := { s.inputs with trip0 := f s.inputs.trip0 } }
  | .trip1 => { s with inputs := { s.inputs with trip1 := f s.inputs.trip1 } }
  | .lowpr => { s with inputs := { s.inputs with lowpr := f s.inputs.lowpr } }
  | .lockout => { s with inputs := { s.inputs with lockout := f s.inputs.lockout } }

/-- Whether the trip input of a boiler is asserted (03 section 3.1); an input not yet established is (R65). -/
def tripAsserted (s : State) (b : BoilerId) : Bool :=
  if b = 0 then s.inputs.trip0.asserted else s.inputs.trip1.asserted

/-- Whether LOCKOUT is asserted (R144). -/
def lockout (s : State) : Bool := s.inputs.lockout.asserted

/-- Whether the engine shows a safe pattern, in STANDBY and SAFE (R131). -/
def inPattern (s : State) : Bool := s.engine.state = .standby || s.engine.state = .safe

end State

/-- A 16-bit count that saturates at 65535 (R28). -/
def saturate16 (n : Nat) : Nat := min (n + 1) 65535

end Sys2Proof.Machine
end

