-- ==== Sys2Proof/Machine/Flags.lean ====
section
/-! DEFINITION. Events, the flags they set, the attention line and the status word (R141, R151 to R153, 10 table 10-3). -/

namespace Sys2Proof.Machine

/-- An event as it is posted, with the value its flag keeps (08 section 8.4). -/
inductive Event where
  | outletShed (n : OutletId)
  | outletRestored (n : OutletId)
  | outletAbsent (n : OutletId)
  | senseDone (n : OutletId)
  | overdraw (n : OutletId)
  | burstCleared (n : OutletId)
  | burstEnded (n : OutletId)
  | burstWithdrawn (n : OutletId)
  | burstRefused (n : OutletId) (c : BurstCause)
  | burstRevoked (n : OutletId) (c : BurstCause)
  | sensorFault
  | capacityChange
  | lockoutChange
  | engineState
  | testDone (o : TestOutcome)
  | configDone (o : ConfigOutcome)
  | lapseWarning
  | overrun
  | frameError
  deriving DecidableEq, Repr

/-- The lower of the index a flag holds and the index of an event (R151). -/
def lowerIndex (held : Option OutletId) (n : OutletId) : Option OutletId :=
  match held with
  | none => some n
  | some m => some (min m n)

/-- The index and cause a flag keeps: a lower index replaces both, the same index replaces the cause, a higher index changes neither (R107, R151). -/
def lowerCause (held : Option (OutletId × BurstCause)) (n : OutletId) (c : BurstCause) :
    Option (OutletId × BurstCause) :=
  match held with
  | none => some (n, c)
  | some (m, d) => if m < n then some (m, d) else some (n, c)

/-- Post an event into the flags of one port (R151). -/
def EventFlags.post (f : EventFlags) : Event → EventFlags
  | .outletShed n => { f with outletShed := lowerIndex f.outletShed n }
  | .outletRestored n => { f with outletRestored := lowerIndex f.outletRestored n }
  | .outletAbsent n => { f with outletAbsent := lowerIndex f.outletAbsent n }
  | .senseDone n => { f with senseDone := lowerIndex f.senseDone n }
  | .overdraw n => { f with overdraw := lowerIndex f.overdraw n }
  | .burstCleared n => { f with burstCleared := lowerIndex f.burstCleared n }
  | .burstEnded n => { f with burstEnded := lowerIndex f.burstEnded n }
  | .burstWithdrawn n => { f with burstWithdrawn := lowerIndex f.burstWithdrawn n }
  | .burstRefused n c => { f with burstRefused := lowerCause f.burstRefused n c }
  | .burstRevoked n c => { f with burstRevoked := lowerCause f.burstRevoked n c }
  | .sensorFault => { f with sensorFault := true }
  | .capacityChange => { f with capacityChange := true }
  | .lockoutChange => { f with lockoutChange := true }
  | .engineState => { f with engineState := true }
  | .testDone o => { f with testDone := some o }
  | .configDone o => { f with configDone := some o }
  | .lapseWarning => { f with lapseWarning := true }
  | .overrun => { f with overrun := min (f.overrun + 1) 255 }
  | .frameError => { f with frameError := min (f.frameError + 1) 255 }

/-- Which kinds are set, kind 0 first (10 section 10.3, READ EVENTS). -/
def EventFlags.kinds (f : EventFlags) : List Bool :=
  [f.outletShed.isSome, f.outletRestored.isSome, f.outletAbsent.isSome, f.senseDone.isSome,
   f.overdraw.isSome, f.burstCleared.isSome, f.burstEnded.isSome, f.burstWithdrawn.isSome,
   f.burstRefused.isSome, f.burstRevoked.isSome, f.sensorFault, f.capacityChange, f.lockoutChange,
   f.engineState, f.testDone.isSome, f.configDone.isSome, f.lapseWarning, decide (f.overrun ≠ 0),
   decide (f.frameError ≠ 0)]

/-- The set kinds as bits, kind k at bit k. -/
def EventFlags.bits (f : EventFlags) : BitVec 19 := BitVec.ofNat 19 (ofBits f.kinds)

/-- The attention line of a port: asserted while a flag is set whose kind is not masked (R153). -/
def PortUnit.attention (u : PortUnit) : Bool := decide (u.flags.bits &&& ~~~u.mask ≠ 0)

/-- The level of the ATN line of a port: driven low when asserted, released high when not (R153). -/
def PortUnit.atnHigh (u : PortUnit) : Bool := !u.attention

/-- The nineteen bytes of a READ EVENTS response (10 section 10.3). -/
def EventFlags.payload (f : EventFlags) : List Byte :=
  let idx (o : Option OutletId) : Nat := (o.map Fin.val).getD 0
  let idxC (o : Option (OutletId × BurstCause)) : Nat := (o.map fun x => x.1.val).getD 0
  let cause (o : Option (OutletId × BurstCause)) : Nat := (o.map fun x => burstCauseCode x.2).getD 0
  be24 f.bits.toNat ++
  [idx f.outletShed, idx f.outletRestored, idx f.outletAbsent, idx f.senseDone, idx f.overdraw,
   idx f.burstCleared, idx f.burstEnded, idx f.burstWithdrawn, idxC f.burstRefused,
   idxC f.burstRevoked, cause f.burstRefused, cause f.burstRevoked,
   (f.testDone.map testOutcomeCode).getD 0, (f.configDone.map configOutcomeCode).getD 0,
   f.overrun, f.frameError].map (BitVec.ofNat 8)

namespace State

/-- Post an event into the flags of one port. -/
def postTo (s : State) (p : Port) (e : Event) : State :=
  s.modPort p fun u => { u with flags := u.flags.post e }

/-- Post a global event into the flags of all three ports (R152). -/
def postAll (s : State) (e : Event) : State :=
  s.mapPorts fun _ u => { u with flags := u.flags.post e }

/-- The code of the engine state (10, table 10-3). -/
def engineStateCode (s : State) : Nat :=
  match s.engine.state with
  | .standby => 0
  | .run => 1
  | .service => 2
  | .safe => 3

/-- The code of the reset cause (10, table 10-3). -/
def resetCauseCode (s : State) : Nat :=
  match s.engine.cause with
  | .powerOn => 0
  | .resetLine => 1
  | .tableReset => 2
  | .engineReset => 3

/-- The busy indication: an operation is in progress (R21, chapter 9). -/
def busy (s : State) : Bool := decide (s.engine.op ≠ .none)

/-- The round-parity bit, the lowest bit of the steam round count (R50). -/
def parity (s : State) : Bool := s.steam.roundCount.getLsbD 0

/-- The status word of a response of a port, formed when the response is (R141, 10 table 10-3). The link item shows LAPSED in the response to the frame that revived the port (R150). -/
def statusWord (s : State) (p : Port) (revived : Bool) : Word :=
  BitVec.ofNat 16
    (s.engineStateCode + 4 * bit s.busy + 8 * bit s.parity + 16 * bit (s.port p).attention +
      32 * bit (revived || decide ((s.port p).link ≠ .active)) + 64 * bit s.lockout +
      128 * bit s.inputs.lowpr.asserted + 256 * bit s.engine.defaulted + 512 * s.resetCauseCode)

end State

end Sys2Proof.Machine
end

