-- ==== Sys2Proof/Machine/Rights.lean ====
section
/-! DEFINITION. Rights windows, the rights a port holds on an outlet, LOCKOUT, and the routing of outlet events (R142 to R144, R152). -/

namespace Sys2Proof.Machine

/-- The number of outlets a window size covers; ALL covers the whole table. -/
def windowSize : SizeCode → Nat
  | .one => 1
  | .two => 2
  | .four => 4
  | .eight => 8
  | .sixteen => 16
  | .all => 24

/-- Whether a filter admits a pool (R142). -/
def filterAdmits : PoolFilter → Pool → Bool
  | .steam, p => decide (p = .steam)
  | .water, p => decide (p = .water)
  | .both, _ => true
  | .off, _ => false

/-- Whether an outlet lies in the range of a window: base to base plus size minus 1, ALL from O0 (08 section 8.2). -/
def windowCovers (w : Window) (n : OutletId) : Bool :=
  decide (w.size = .all) || (decide (w.base ≤ n.val) && decide (n.val < w.base + windowSize w.size))

/-- Whether a window matches an outlet of a pool (R142). -/
def windowMatches (w : Window) (n : OutletId) (pool : Pool) : Bool :=
  filterAdmits w.filter pool && windowCovers w n

/-- The rights of the first matching window, or the default set (R142). -/
def rightsOn (c : PortConfig) (n : OutletId) (pool : Pool) : OutletRights :=
  match c.windows.toList.find? fun w => windowMatches w n pool with
  | some w => w.rights
  | none => c.defaultRights

namespace State

/-- The global rights of a port (R143). -/
def globals (s : State) (p : Port) : GlobalRights := (s.port p).config.globalRights

/-- The rights a port holds on an outlet at this moment: the windows, reduced on STEAM outlets by LOCKOUT unless the port holds CAPACITY (R142, R144). -/
def rights (s : State) (p : Port) (n : OutletId) : OutletRights :=
  let r := rightsOn (s.port p).config n (s.outlet n).struct.pool
  if s.lockout && !(s.globals p).capacity && decide ((s.outlet n).struct.pool = .steam) then
    { r with demand := false, limits := false, burst := false }
  else r

/-- Post an outlet event into the flags of every port that holds READ on the outlet now (R152). -/
def postOutlet (s : State) (n : OutletId) (e : Event) : State :=
  s.mapPorts fun p u => if (s.rights p n).read then { u with flags := u.flags.post e } else u

end State

end Sys2Proof.Machine
end

