-- ==== Sys2Proof/Machine/Bursts.lean ====
section
/-! DEFINITION. The burst list and what every change of it does to the outlet records (chapter 6, R10). -/

namespace Sys2Proof.Machine

/-- Whether an entry is CLEARED. -/
def BurstEntry.isCleared (e : BurstEntry) : Bool :=
  match e.state with
  | .cleared _ _ => true
  | .queued _ => false

/-- The clearance order of an entry, 0 for a QUEUED one (R174). -/
def BurstEntry.rank (e : BurstEntry) : Nat :=
  match e.state with
  | .cleared _ r => r
  | .queued _ => 0

/-- Close up the clearance order behind a removed rank (R100). -/
def closeRank (r : Nat) (e : BurstEntry) : BurstEntry :=
  match e.state with
  | .cleared t k => if r < k then { e with state := .cleared t (k - 1) } else e
  | .queued _ => e

/-- The list without the entry of an outlet: the entries behind it move up, and a CLEARED entry's removal closes up the clearance order (R100, R107 step 1). -/
def dropEntry (l : List BurstEntry) (e : BurstEntry) : List BurstEntry :=
  let rest := l.filter fun x => decide (x.outlet ≠ e.outlet)
  if e.isCleared then rest.map (closeRank e.rank) else rest

namespace State

/-- The entry of an outlet in the burst list. -/
def entryOf (s : State) (n : OutletId) : Option BurstEntry := s.bursts.find? fun e => decide (e.outlet = n)

/-- The amount of an outlet's CLEARED burst, if it has one. -/
def clearedAmount (s : State) (n : OutletId) : Option Nat :=
  match s.entryOf n with
  | some e => if e.isCleared then some e.amount else none
  | none => none

/-- The number of CLEARED entries. -/
def clearedCount (s : State) : Nat := (s.bursts.filter BurstEntry.isCleared).length

/-- The effective demand of an outlet: its burst amount while the entry is CLEARED, its demand otherwise (R10). -/
def effectiveDemand (s : State) (n : OutletId) : Nat := (s.clearedAmount n).getD (s.outlet n).demand

/-- Write an outlet's grant and hand it to its drive channel, in one event (R10, R116). -/
def setGrant (s : State) (n : OutletId) (g : Nat) : State :=
  (s.modOutlet n fun o => { o with grant := g }).modChannel n fun c => { c with grant := g }

/-- Lower a grant to the effective demand when it stands above it; never raise it (R10). -/
def enforceEffective (s : State) (n : OutletId) : State :=
  if s.effectiveDemand n < (s.outlet n).grant then s.setGrant n (s.effectiveDemand n) else s

/-- The entry of an outlet leaves the list: the common effect of every removal, with the notice to its requester (R107). An outlet without an entry is left alone. -/
def removeEntry (s : State) (n : OutletId) (notice : BurstEntry → Event) : State :=
  match s.entryOf n with
  | none => s
  | some e =>
    let s1 := { s with bursts := dropEntry s.bursts e }
    let s2 := s1.modOutlet n fun o => { o with burstRef := false }
    let s3 := if e.isCleared then s2.enforceEffective n else s2
    s3.postTo e.requester (notice e)

/-- The notice BURST_REVOKED with a cause. -/
def revoked (c : BurstCause) (e : BurstEntry) : Event := .burstRevoked e.outlet c

/-- Revoke, in list order, every entry that a test picks (R112 to R114). -/
def revokeWhere (s : State) (pick : BurstEntry → Bool) (c : BurstCause) : State :=
  (s.bursts.filter pick).foldl (fun t e => t.removeEntry e.outlet (revoked c)) s

/-- Empty the burst list with cause RESET and drop its pending removals (R114). -/
def emptyBursts (s : State) : State :=
  (s.revokeWhere (fun _ => true) .reset).modArbiter fun a => { a with removals := [] }

/-- Change the entry of one outlet in its place. -/
def modEntry (s : State) (n : OutletId) (f : BurstEntry → BurstEntry) : State :=
  { s with bursts := s.bursts.map fun e => if e.outlet = n then f e else e }

/-- Append a QUEUED entry (R103). -/
def appendEntry (s : State) (n : OutletId) (p : Port) (amount duration waitLimit : Nat) : State :=
  let e : BurstEntry := { outlet := n, requester := p, amount := amount, duration := duration,
                          waitLimit := waitLimit, state := .queued 0 }
  State.modOutlet { s with bursts := s.bursts ++ [e] } n fun o => { o with burstRef := true }

/-- Apply a pending removal of the Burst List, or drop it: a duration removal acts on a CLEARED entry, a wait-limit removal on one still QUEUED (R108, R109). -/
def applyRemoval (s : State) (n : OutletId) (k : RemovalKind) : State :=
  match s.entryOf n, k with
  | some e, .duration => if e.isCleared then s.removeEntry n fun e => .burstEnded e.outlet else s
  | some e, .waitLimit =>
    if e.isCleared then s else s.removeEntry n fun e => .burstRefused e.outlet .timeout
  | none, _ => s

end State

end Sys2Proof.Machine
end

