-- ==== Sys2Proof/Machine/Drive.lean ====
section
/-! DEFINITION. The drive channels and branches: duties, starts, closes, warm-up, settle, the safe pattern and the tests (chapter 7). -/

namespace Sys2Proof.Machine

/-! ## Duties -/

/-- The raw duty of a grant (R118). -/
def rawDuty (grant trim period ceiling : Nat) : Nat :=
  if ceiling = 0 then 0 else grant * trim * period / (ceiling * 100)

/-- The duty D formed from a raw duty, by the first line of R118's table that applies. -/
def formDuty (raw period minOn : Nat) : Nat :=
  if raw = 0 then 0
  else if period < raw + minOn then period
  else if raw < minOn then 0
  else raw

/-- The duty D of a channel on its structure copy: from its service override, or from its drive grant (R118, R135). -/
def Channel.duty (c : Channel) : Nat :=
  formDuty (c.override.getD (rawDuty c.grant c.trim c.copy.period c.ceiling)) c.copy.period c.copy.minOn

/-- The warm-up cap in ticks (R122). -/
def capTicks (st : OutletStructure) : Nat := st.period * st.warmCap / 100

/-- The applied duty of a warming channel whose D is d, above 0 (R122). -/
def warmDuty (st : OutletStructure) (d : Nat) : Nat :=
  if d ≤ capTicks st then d
  else if st.minOn ≤ capTicks st ∧ capTicks st + st.minOn ≤ st.period then capTicks st
  else 0

/-- The output of a period that begins with an applied duty: on from position 0 when it is above 0 (R117). -/
def outputOf (applied : Nat) : DriveOutput := if applied = 0 then .off else .on

/-- The pin level of a drive output, none at neither level (R117, R136). -/
def Channel.pinHigh (c : Channel) : Option Bool :=
  match c.output, c.inUse.polarity with
  | .neither, _ => none
  | .on, .activeHigh | .off, .activeLow => some true
  | .off, .activeHigh | .on, .activeLow => some false

/-- The feedback watch starts afresh (R126). -/
def Channel.resetWatch (c : Channel) : Channel := { c with watchCount := 0, watchLatch := false }

/-- A new condition reaches the channel's copy, in the event that changes the record (R116); the watch starts afresh (R126). -/
def Channel.setCondition (c : Channel) (k : Condition) : Channel := Channel.resetWatch { c with condition := k }

/-- The duty of the safe pattern for a structure: of SAFE when inSafe, of STANDBY otherwise (R131). -/
def Channel.patternDuty (c : Channel) (st : OutletStructure) (inSafe : Bool) : Nat :=
  if st.pool = .unused then 0
  else if c.condition ≠ .active ∨ c.pendingAbsence then 0
  else match st.safeState with
    | .closed => 0
    | .opened => st.period
    | .hold => if inSafe then c.heldDuty else 0

namespace State

/-- The duty D of an outlet's channel now. While an engine-state write waits at the arbiter, D is formed as from the grant 0 that the write brings (R133, R157, R175; log 41). -/
def dutyNow (s : State) (n : OutletId) : Nat :=
  Channel.duty (if s.arbiter.engineWrite = .none then s.channel n else { s.channel n with grant := 0 })

/-! ## Branches -/

/-- Restart the settle timer of a branch with its interval. With an interval of 0 an idle timer stays idle; one that runs expires now (R124; log 27). -/
def restartSettle (s : State) (b : Option BranchId) : State :=
  match b with
  | none => s
  | some b => s.modBranch b fun r =>
      { r with timer := if r.interval = 0 then r.timer.map fun _ => 0 else some (r.interval * 1000) }

/-- Take an outlet out of every start queue; those behind it move up (R125). -/
def leaveQueues (s : State) (n : OutletId) : State :=
  s.mapBranches fun _ r => { r with queue := r.queue.filter fun m => decide (m ≠ n) }

/-- Whether a start on a branch must wait: its timer runs or its queue is not empty (R120). -/
def mustQueue (s : State) (b : BranchId) : Bool :=
  (s.branch b).timer.isSome || !(s.branch b).queue.isEmpty

/-! ## Starts and closes -/

/-- The channel as a start with the duty d leaves it: HELD under an override, WARMING after standing cold, CYCLING otherwise, a new period begun (R120, R122). -/
def startedChannel (d : Nat) (c : Channel) : Channel :=
  let st := c.copy
  if c.override.isSome then
    { c with inUse := st, position := 0, phase := .held, applied := d, output := outputOf d }
  else if st.coldTime < c.closedTime ∧ 0 < st.dwell then
    { c with inUse := st, position := 0, phase := .warming, dwellLeft := st.dwell * 1000,
             applied := warmDuty st d, output := outputOf (warmDuty st d) }
  else
    { c with inUse := st, position := 0, phase := .cycling, applied := d, output := outputOf d }

/-- A channel starts now and restarts its branch's settle timer (R120, R124). -/
def startNow (s : State) (n : OutletId) : State :=
  (s.modChannel n (startedChannel (s.dutyNow n))).restartSettle (s.channel n).copy.branch

/-- The output of a channel goes off at once, the period in progress running on; a close when the output was on in that period (R119). The service override, the warm-up and the held duty end with it (R122, R131, R135). -/
def turnOffNow (s : State) (n : OutletId) : State :=
  let c := s.channel n
  let s1 := s.modChannel n fun c =>
    Channel.resetWatch
    { c with phase := if s.inPattern then .safePattern else .off, applied := 0,
             output := if c.output = .neither then .neither else .off, dwellLeft := 0, override := none,
             heldDuty := 0 }
  let s2 := s1.leaveQueues n
  if c.applied = 0 then s2 else s2.restartSettle c.inUse.branch

/-- Test pulses stop and the channel leaves TEST (R130). -/
def endTest (s : State) (n : OutletId) : State :=
  s.modChannel n fun c =>
    { c with phase := if s.inPattern then .safePattern else .off, output := .off, applied := 0,
             holdLeft := none }

/-! ## Period boundary (R117 to R122) -/

/-- A boundary of a channel in OFF: a start, a place in the branch queue, or another period off (R120). -/
def boundaryOff (s : State) (n : OutletId) : State :=
  let c := s.channel n
  let quiet := fun (c : Channel) =>
    { c with inUse := c.copy, position := 0, applied := 0, output := .off }
  if c.condition = .active ∧ ¬ c.pendingAbsence ∧ 0 < s.dutyNow n then
    match c.copy.branch with
    | some b =>
      if s.mustQueue b then
        (s.modChannel n fun c => { quiet c with phase := .settleWait }).modBranch b
          fun r => { r with queue := r.queue ++ [n] }
      else s.startNow n
    | none => s.startNow n
  else s.modChannel n quiet

/-- A boundary of a channel in SETTLE_WAIT: it leaves the queue when its D is 0 and waits on otherwise (R125). -/
def boundaryWaiting (s : State) (n : OutletId) : State :=
  let quiet := fun (c : Channel) =>
    { c with inUse := c.copy, position := 0, applied := 0, output := .off }
  if s.dutyNow n = 0 then
    (s.modChannel n fun c => { quiet c with phase := .off }).leaveQueues n
  else s.modChannel n quiet

/-- A boundary of a channel in WARMING, CYCLING or HELD: a close when its D is 0, the new duty otherwise (R121, R122, R135). Under an override a WARMING channel whose capped duty is 0 enters HELD like one that is on (log 36). The close is one of the branch that the structure taken at this boundary names (log 46). -/
def boundaryRunning (s : State) (n : OutletId) : State :=
  let c := s.channel n
  let d := s.dutyNow n
  if d = 0 then
    (s.modChannel n fun c =>
      { c with inUse := c.copy, position := 0, phase := .off, applied := 0, output := .off,
               dwellLeft := 0 }).restartSettle c.copy.branch
  else if c.override.isSome then
    s.modChannel n fun c =>
      { c with inUse := c.copy, position := 0, phase := .held, applied := d, output := outputOf d,
               dwellLeft := 0 }
  else if c.phase = .warming then
    s.modChannel n fun c =>
      { c with inUse := c.copy, position := 0, applied := warmDuty c.copy d,
               output := outputOf (warmDuty c.copy d) }
  else
    s.modChannel n fun c =>
      { c with inUse := c.copy, position := 0, phase := .cycling, applied := d, output := outputOf d }

/-- A boundary of a channel in SAFE_PATTERN: it shows its pattern line; from on to off is a close (R131), of the branch that the structure taken at this boundary names (log 46). -/
def boundaryPattern (s : State) (n : OutletId) : State :=
  let c := s.channel n
  let d := c.patternDuty c.copy (s.engine.state = .safe)
  let s1 := s.modChannel n fun c =>
    { c with inUse := c.copy, position := 0, applied := d, output := outputOf d }
  if c.applied ≠ 0 ∧ d = 0 then s1.restartSettle c.copy.branch else s1

/-- A channel's period ends and the next begins (R117). In TEST the boundary does not change the output (R129). -/
def boundary (s : State) (n : OutletId) : State :=
  match (s.channel n).phase with
  | .off => s.boundaryOff n
  | .settleWait => s.boundaryWaiting n
  | .warming | .cycling | .held => s.boundaryRunning n
  | .test => s.modChannel n fun c => { c with inUse := c.copy, position := 0 }
  | .safePattern => s.boundaryPattern n

/-- Take a start queue from its head: heads whose D is 0 leave, the first other head starts, and with an interval of 0, where no start is deferred, so do those behind it (R124; log 27). -/
def takeQueue (s : State) (b : BranchId) : List OutletId → State
  | [] => s
  | n :: rest =>
    let s1 := s.modBranch b fun r => { r with queue := rest }
    if s.dutyNow n = 0 then
      takeQueue (s1.modChannel n fun c => { c with phase := .off, applied := 0, output := .off }) b rest
    else if (s.branch b).interval = 0 then takeQueue (s1.startNow n) b rest
    else s1.startNow n

/-- A settle timer expires (R124). -/
def settleExpiry (s : State) (b : BranchId) : State :=
  (s.modBranch b fun r => { r with timer := none }).takeQueue b (s.branch b).queue

/-! ## The safe pattern (R131, R132, R136) -/

/-- A channel takes the pattern of STANDBY or SAFE at once, for the rest of its period (R131, R132). In SAFE the held duty is that of the period it was in. A pattern that is off is an immediate turning off, which starts the watch afresh, also where the output was off already (log 39). -/
def patternChannel (inSafe : Bool) (c : Channel) : Channel :=
  let held := if inSafe ∧ (c.phase = .warming ∨ c.phase = .cycling ∨ c.phase = .held) then c.applied else 0
  let c1 := { c with phase := .safePattern, heldDuty := held, override := none, dwellLeft := 0 }
  let d := c1.patternDuty c1.inUse inSafe
  if d = 0 then Channel.resetWatch { c1 with applied := 0, output := .off }
  else if c1.inUse.safeState = .opened then { c1 with applied := d, output := .on }
  else { c1 with applied := d }

/-- One channel enters the safe pattern; an output turned off by it is a close (R132). -/
def enterPattern (s : State) (n : OutletId) : State :=
  if (s.channel n).phase = .test then s
  else
    let s1 := s.modChannel n (patternChannel (s.engine.state = .safe))
    if (s.channel n).applied ≠ 0 ∧ (s1.channel n).applied = 0 then
      s1.restartSettle (s.channel n).inUse.branch
    else s1

/-- Every channel outside TEST enters the safe pattern of the engine state; queues are emptied (R132). -/
def enterPatternAll (s : State) : State :=
  (s.forOutlets fun n t => t.enterPattern n).mapBranches fun _ r => { r with queue := [] }

/-- A channel as an ENGINE RESET or TABLE RESET leaves it: the pattern of STANDBY at once from its structure copy, its period begun, its other state at the reset values (R136). -/
def resetChannel (c : Channel) : Channel :=
  let c1 := Channel.resetWatch
            { c with grant := 0, inUse := c.copy, phase := .safePattern, position := 0, closedTime := 0,
                     closedTicks := 0, dwellLeft := 0, pendingAbsence := false, override := none,
                     finding := none, holdLeft := none, testTick := 0, heldDuty := 0,
                     pendingSenseEnd := false }
  let d := c1.patternDuty c1.inUse false
  { c1 with applied := d, output := outputOf d }

/-- Every channel takes its reset values; outputs turned off are closes and restart the settle timers of the branches in use before it (log 46), queues are emptied (R136). -/
def resetDrive (s : State) : State :=
  (s.forOutlets fun n t =>
    let t1 := t.modChannel n resetChannel
    if (t.channel n).applied ≠ 0 ∧ (t1.channel n).applied = 0 then
      t1.restartSettle (t.channel n).inUse.branch
    else t1).mapBranches fun _ r => { r with queue := [] }

/-- A channel leaves SAFE_PATTERN at ENGINE START: shown on it cycles at full duty to its next boundary, shown off it is OFF (R133). -/
def leavePattern (c : Channel) : Channel :=
  if c.phase = .safePattern then
    if c.output = .on then { c with phase := .cycling, applied := c.inUse.period }
    else { c with phase := .off, applied := 0 }
  else c

/-- A channel at SERVICE LEAVE: its override goes, and HELD becomes CYCLING with the duty it has (R134). -/
def leaveService (c : Channel) : Channel :=
  { c with override := none, phase := if c.phase = .held then .cycling else c.phase }

/-! ## Ticks (R117, R120, R126, R129) -/

/-- The closed time after a tick: 0 when the output is on apart from test pulses, counting seconds otherwise (R120). -/
def tickClosed (c : Channel) (on : Bool) : Channel :=
  if on then { c with closedTime := 0, closedTicks := 0 }
  else if c.closedTicks + 1 < 100 then { c with closedTicks := c.closedTicks + 1 }
  else { c with closedTicks := 0, closedTime := min (c.closedTime + 1) 65535 }

/-- The feedback watch after a tick at which the output is on (R126). -/
def tickWatch (c : Channel) (fb : Bool) : Channel :=
  if c.watchLatch then
    if fb then { c with watchLatch := false, watchCount := 0 } else c
  else if fb then { c with watchCount := 0 }
  else { c with watchCount := min (c.watchCount + 1) 100 }

/-- A tick of a channel in TEST: a test pulse that ends is judged, and a new one begins every 50 ticks (R129). -/
def tickTest (c : Channel) (fb : Bool) : Channel :=
  let next := (c.testTick + 1) % 50
  { c with finding := if c.testTick = 0 then some fb else c.finding, testTick := next,
           output := if next = 0 then .on else .off }

/-- The position advances and the output goes off when the applied duty is reached; a position equal to the period says that the boundary is due (R117; log 22). -/
def tickPosition (c : Channel) : Channel :=
  let p := min (c.position + 1) c.inUse.period
  { c with position := p,
           output := if c.phase ≠ .test ∧ c.applied ≤ p ∧ c.applied < c.inUse.period then .off else c.output }

/-- One 10 ms tick of a drive channel with its feedback level. -/
def tickChannel (fb : Bool) (c : Channel) : Channel :=
  let on := decide (c.output = .on ∧ c.phase ≠ .test)
  let c1 := tickClosed c on
  let c2 := if on ∧ c.condition = .active then tickWatch c1 fb else c1
  tickPosition (if c.phase = .test then tickTest c2 fb else c2)

end State

end Sys2Proof.Machine
end

