-- ==== Sys2Proof/Machine/Table.lean ====
section
/-! DEFINITION. The table arbiter: its rotation, the writes that wait for the table and what applying each of them does (01 section 1.8, R148, R149, R157, R176). -/

namespace Sys2Proof.Machine

/-- The cyclic order of the requesters (R20). -/
def requesters : List Requester := [.port 0, .port 1, .port 2, .spe, .wpe, .selfTest, .store]

/-- The place of a requester in the cyclic order. -/
def Requester.place : Requester → Nat
  | .port p => p.val
  | .spe => 3
  | .wpe => 4
  | .selfTest => 5
  | .store => 6

/-- Whether a requester is a port unit. -/
def Requester.isPort : Requester → Bool
  | .port _ => true
  | .spe | .wpe | .selfTest | .store => false

/-- The requesters in the order the arbiter looks at them, from the one after the last holder (R20). -/
def rotation (last : Requester) : List Requester :=
  requesters.drop (last.place + 1) ++ requesters.take (last.place + 1)

/-- A write that waits for the table (R22, R108, R148, R157). -/
inductive PendingWrite where
  | absent (n : OutletId)
  | senseEnd (n : OutletId)
  | removal (n : OutletId)
  | lapse (p : Port)
  | engineState
  deriving DecidableEq, Repr

namespace State

/-- Whether a port holds a table command that waits at the arbiter (R21). -/
def portWaits (s : State) (p : Port) : Bool :=
  match (s.port p).outstanding with
  | some (.waiting _ _ _) => true
  | some (.held _ _) | some (.answered _ _) | none => false

/-- Whether a requester waits for the table (R20). -/
def waits (s : State) : Requester → Bool
  | .port p => s.portWaits p
  | .spe => s.arbiter.steamRequest
  | .wpe => s.arbiter.waterRequest
  | .selfTest => decide (s.engine.op = .selfTest) && decide (s.arbiter.holder ≠ some .selfTest)
  | .store => decide (s.engine.op = .save) && decide (s.arbiter.holder ≠ some .store)

/-- The requester that is handed the table next (R20). -/
def nextRequester (s : State) : Option Requester := (rotation s.arbiter.lastHolder).find? s.waits

/-- The lowest outlet with a pending drive-unit write, and the write (R22). -/
def nextDriveWrite (s : State) : Option PendingWrite :=
  ((List.finRange 24).find? fun n => (s.channel n).pendingAbsence || (s.channel n).pendingSenseEnd).map
    fun n => if (s.channel n).pendingAbsence then .absent n else .senseEnd n

/-- The outlet of the next pending Burst List removal, in list order; one whose entry has gone comes after those (R108). -/
def nextRemoval (s : State) : Option OutletId :=
  let due := s.arbiter.removals.map Prod.fst
  match s.bursts.find? fun e => due.contains e.outlet with
  | some e => some e.outlet
  | none => due.head?

/-- The port of the next pending lapse (R148). -/
def nextLapse (s : State) : Option Port :=
  (List.finRange 3).find? fun p => decide ((s.port p).link = .lapsing)

/-- The next waiting write in the order of one release: drive unit, burst removals, lapses, engine-state write (R148, R157, R176). -/
def nextWrite (s : State) : Option PendingWrite :=
  match s.nextDriveWrite, s.nextRemoval, s.nextLapse with
  | some w, _, _ => some w
  | none, some n, _ => some (.removal n)
  | none, none, some p => some (.lapse p)
  | none, none, none => if s.arbiter.engineWrite = .none then none else some .engineState

/-- The table is free: nobody holds it and nothing is waiting to be written at its release. -/
def tableFree (s : State) : Bool :=
  decide (s.arbiter.holder = none) && decide (s.arbiter.deferred = .none) && decide (s.nextWrite = none)

/-- Whether nobody but a port whose command has been carried out holds the table (R20; log 6). -/
def atRelease (s : State) : Bool :=
  match s.arbiter.holder with
  | none => true
  | some r => r.isPort

/-- The end of a port's hold: its command has been carried out and its response is ready (R20; log 6). -/
def releasePort (s : State) : State :=
  if s.atRelease then s.modArbiter fun a => { a with holder := none } else s

/-- Whether a waiting write may be applied now: the table is free or at a port's release, no deferred reset comes first, and the write is the next in order (R22, R169, R176). -/
def mayApply (s : State) (w : PendingWrite) : Bool :=
  s.atRelease && decide (s.arbiter.deferred = .none) && decide (s.nextWrite = some w)

/-! ## What the writes do -/

/-- The ABSENT write of an outlet: applied when the outlet is still ACTIVE, dropped otherwise (R15, R22, R127). -/
def writeAbsent (s : State) (n : OutletId) : State :=
  let s1 := s.modChannel n fun c => { c with pendingAbsence := false }
  if (s.outlet n).condition = .active then
    let s2 := s1.modOutlet n fun o => { o with condition := .absent, grant := 0, status := .idle }
    let s3 := s2.modChannel n fun c => Channel.setCondition { c with grant := 0 } .absent
    (s3.removeEntry n (revoked .absent)).postOutlet n (.outletAbsent n)
  else s1

/-- The condition a sense goes back to (R18). -/
def priorOf : Condition → Condition
  | .sensing .parked => .parked
  | .sensing .absent => .absent
  | c => c

/-- A sense ends in the record with a result and SENSE_DONE, the condition returning to the prior one (R18). -/
def endSense (s : State) (n : OutletId) (r : Continuity) : State :=
  let k := priorOf (s.outlet n).condition
  let s1 := s.modOutlet n fun o => { o with condition := k, continuity := r }
  let s2 := s1.modChannel n fun c => c.setCondition k
  s2.postOutlet n (.senseDone n)

/-- Whether a condition is SENSING. -/
def isSensing : Condition → Bool
  | .sensing _ => true
  | .active | .parked | .absent => false

/-- The sense-expiry write of an outlet: applied when the outlet is still SENSING, dropped otherwise (R18, R22). -/
def writeSenseEnd (s : State) (n : OutletId) : State :=
  let s1 := s.modChannel n fun c => { c with pendingSenseEnd := false }
  if isSensing (s.outlet n).condition then s1.endSense n .unknown else s1

/-- A pending removal of the Burst List leaves the arbiter and is applied or dropped (R108, R109). -/
def writeRemoval (s : State) (n : OutletId) : State :=
  match s.arbiter.removals.find? fun r => decide (r.1 = n) with
  | some r => (s.modArbiter fun a => { a with removals := a.removals.erase r }).applyRemoval n r.2
  | none => s

/-- The lapse action of one outlet the lapsing port owns (R149). -/
def lapseDemand (o : Outlet) : Outlet :=
  match o.limits.lapseAction with
  | .hold => { o with owner := .none }
  | .fallback => { o with demand := min o.limits.fallback o.limits.ceiling, owner := .none }
  | .zero => { o with demand := 0, owner := .none }

/-- The table part of a lapse: lapse actions, bursts revoked, link LAPSED (R149). -/
def writeLapse (s : State) (p : Port) : State :=
  let s1 := s.forOutlets fun n t =>
    if (t.outlet n).owner = .port p then (t.modOutlet n lapseDemand).enforceEffective n else t
  let s2 := s1.revokeWhere (fun e => decide (e.requester = p)) .lapse
  s2.modPort p fun u => { u with link := .lapsed }

/-- Every drive grant becomes 0 (R116). -/
def zeroDriveGrants (s : State) : State := s.mapChannels fun _ c => { c with grant := 0 }

/-- Every grant becomes 0 in the records and in the channels (R157). -/
def zeroGrants (s : State) : State := (s.mapOutlets fun _ o => { o with grant := 0 }).zeroDriveGrants

/-- An engine-state write is applied: every grant 0 and, for SAFE, the burst list emptied (R157). Statuses are kept. -/
def writeEngine (s : State) (w : EngineWrite) : State :=
  let s1 := s.modArbiter fun a => { a with engineWrite := .none }
  match w with
  | .none => s1
  | .grants => s1.zeroGrants
  | .grantsAndBursts => s1.zeroGrants.emptyBursts

/-! ## Raising a write: applied at once when the table is free, waiting otherwise (R22) -/

/-- Raise the ABSENT write of an outlet (R127). -/
def raiseAbsent (s : State) (n : OutletId) : State :=
  let s1 := s.modChannel n fun c => { c with pendingAbsence := true }
  if s.tableFree then s1.writeAbsent n else s1

/-- Raise the sense-expiry write of an outlet (R130). -/
def raiseSenseEnd (s : State) (n : OutletId) : State :=
  let s1 := s.modChannel n fun c => { c with pendingSenseEnd := true }
  if s.tableFree then s1.writeSenseEnd n else s1

/-- Raise a removal of the Burst List (R108, R109). -/
def raiseRemoval (s : State) (n : OutletId) (k : RemovalKind) : State :=
  if s.tableFree then s.applyRemoval n k
  else if s.arbiter.removals.contains (n, k) then s
  else s.modArbiter fun a => { a with removals := a.removals ++ [(n, k)] }

/-- Raise the table part of a lapse; the link is LAPSING until it is applied (R148). -/
def raiseLapse (s : State) (p : Port) : State :=
  let s1 := s.modPort p fun u => { u with link := .lapsing }
  if s.tableFree then s1.writeLapse p else s1

/-- The write that does what two waiting engine-state writes do (R157; log 12). -/
def EngineWrite.join : EngineWrite → EngineWrite → EngineWrite
  | .grantsAndBursts, _ | _, .grantsAndBursts => .grantsAndBursts
  | .grants, _ | _, .grants => .grants
  | .none, .none => .none

/-- Raise an engine-state write (R157). -/
def raiseEngineWrite (s : State) (w : EngineWrite) : State :=
  if s.tableFree then s.writeEngine w
  else s.modArbiter fun a => { a with engineWrite := EngineWrite.join a.engineWrite w }

end State

end Sys2Proof.Machine
end

