-- ==== Sys2Proof/Machine/Engine.lean ====
section
/-! DEFINITION. Engine state changes, entry to SAFE, and the self-test's content pass (chapter 9). -/

namespace Sys2Proof.Machine

namespace State

/-- The engine takes a state; a change posts ENGINE_STATE to all ports (R155). -/
def setEngine (s : State) (e : EngineState) : State :=
  if s.engine.state = e then s
  else (s.modEngine fun g => { g with state := e }).postAll .engineState

/-- Withdraw the rounds' requests that wait at the arbiter, uncounted (R29). -/
def withdrawRequests (s : State) : State :=
  s.modArbiter fun a => { a with steamRequest := false, waterRequest := false }

/-- Both round timers stop and waiting requests are withdrawn (R26, R29). -/
def stopRounds (s : State) : State :=
  ({ s with steam := { s.steam with timer := none }, water := { s.water with timer := none } } : State).withdrawRequests

/-- Every sense in progress ends with UNKNOWN and SENSE_DONE, in the record and at the channel (R18, R130, R160 step 3). A record that is SENSING still, its test stopped by a reset that has yet to reach the record, is ended so too (log 45). -/
def endAllSenses (s : State) : State :=
  s.forOutlets fun n t =>
    if isSensing (t.outlet n).condition then (t.endTest n).endSense n .unknown else t

/-- Entry to SAFE from STANDBY, RUN or SERVICE, but for the pending removals; in SAFE it has no effect (R160). -/
def enterSafe (s : State) : State :=
  if s.engine.state = .safe then s
  else
    let s1 := s.setEngine .safe
    let s2 := s1.stopRounds
    let s3 := s2.endAllSenses
    let s4 := s3.enterPatternAll
    s4.raiseEngineWrite .grantsAndBursts

/-- A SAFE request of the Measurement Unit: the entry to SAFE drops the pending removals of the Burst List (R93, R114, R160; log 40). -/
def requestSafe (s : State) : State :=
  if s.engine.state = .safe then s else (s.modArbiter fun a => { a with removals := [] }).enterSafe

/-! ## The content pass of the self-test (R162) -/

/-- The checks of R162's table on one outlet: ceilings, the effective demand, PARKED, trim, and the burst reference. -/
def outletSound (s : State) (n : OutletId) : Bool :=
  let o := s.outlet n
  let amountOk := match s.entryOf n with
    | some e => decide (e.amount ≤ o.limits.ceiling)
    | none => true
  decide (o.demand ≤ o.limits.ceiling) && decide (o.grant ≤ o.limits.ceiling) && amountOk &&
  decide (o.grant ≤ s.effectiveDemand n) &&
  (decide (o.condition ≠ .parked) || (decide (o.grant = 0) && !o.burstRef)) &&
  decide (o.trim % 5 = 0) && decide (50 ≤ o.trim) && decide (o.trim ≤ 100) &&
  (o.struct.meter.isSome || decide (o.trim = 100)) &&
  decide (o.burstRef = (s.entryOf n).isSome)

/-- Whether the burst list keeps its laws: at most 8 entries, no two for one outlet, each on a STEAM outlet (R162). -/
def burstsSound (s : State) : Bool :=
  decide (s.bursts.length ≤ 8) && decide ((s.bursts.map BurstEntry.outlet).Nodup) &&
  s.bursts.all fun e => decide ((s.outlet e.outlet).struct.pool = .steam)

/-- The store an outlet's structure binds. -/
def boundStore (st : OutletStructure) : Option StoreId :=
  match st.role with
  | .recharge i => some i
  | .plain => none

end State

/-- Whether the structures of a table bind each store and name each pulse channel at most once (R3, R162, R165). -/
def bindingsSound (sts : List OutletStructure) : Bool :=
  decide ((sts.filterMap State.boundStore).Nodup) && decide ((sts.filterMap OutletStructure.meter).Nodup)

namespace State

/-- Whether the content pass finds no failure (R162). -/
def contentSound (s : State) : Bool :=
  (List.finRange 24).all s.outletSound && s.burstsSound &&
  bindingsSound (s.outlets.toList.map Outlet.struct)

/-- The outcome of a self-test (R162). -/
def testOutcome (s : State) (memoryFails : Bool) : TestOutcome :=
  if memoryFails then .failMemory else if s.contentSound then .pass else .failContent

end State

end Sys2Proof.Machine
end

