-- ==== Sys2Proof/Machine/Measure.lean ====
section
/-! DEFINITION. The Measurement Unit and the Store Monitor: conversions, channel states, reference faults, the scan and the forming of the store readings (chapters 4 and 5). -/

namespace Sys2Proof.Machine

/-! ## Store readings (R71, R72) -/

/-- The reading a channel offers: a VALID or SUSPECT channel offers the one it holds (R71). -/
def RatioChannel.offers (c : RatioChannel) : Option Int :=
  match c.state with
  | .valid | .suspect => c.reading
  | .fault | .disabled => none

namespace State

/-- What a named channel offers to a store. -/
def offered (s : State) (m : Option RatioId) : Option Int := m.bind fun i => (s.ratioChannel i).offers

/-- The reading formed for a store's settings (R71). -/
def formReading (s : State) (c : StoreSettings) : StoreReading :=
  match s.offered c.primary, s.offered c.secondary with
  | some t, _ => .primary t
  | none, some t => .secondary t
  | none, none => .notValid

/-- Whether a store names a channel. -/
def namesChannel (c : StoreSettings) (m : RatioId) : Bool :=
  decide (c.primary = some m) || decide (c.secondary = some m)

/-- Every store that names a channel forms its reading again (R72). -/
def reformFor (s : State) (m : RatioId) : State :=
  s.mapStores fun _ r => if namesChannel r.settings m then { r with reading := s.formReading r.settings } else r

/-- Every store forms its reading again. -/
def reformAll (s : State) : State :=
  s.mapStores fun _ r => { r with reading := s.formReading r.settings }

end State

/-- The reading of a store when it is valid (R71). -/
def StoreReading.value? : StoreReading → Option Int
  | .primary t | .secondary t => some t
  | .notValid => none

/-! ## Judging a conversion (R87, R88) -/

/-- What a conversion found. -/
inductive Finding where
  | good (t : Int)
  | invalid (c : Cause)
  deriving DecidableEq, Repr

/-- The ratio of the counts (R88 step 1). -/
def ratioOf (cr cs : Nat) : Nat := 1000 * cr / cs

/-- The temperature of a ratio, before the trim; the division rounds toward minus infinity (R88 step 2). -/
def temperatureOf (ratio : Nat) : Int := ((ratio : Int) - 1000) * 1000 / 385

/-- Judge a ratio conversion by the first line of R87 that applies. A PENDING reference offers no count; R86 says no channel is converted against one. -/
def judge (ref : RefState) (trim : Int) : Option Word → Finding
  | none => .invalid .short
  | some w =>
    if w.toNat < 100 then .invalid .opened
    else match ref with
      | .refFault | .pending => .invalid .ref
      | .valid cr =>
        let r := ratioOf cr w.toNat
        if r < 900 ∨ 1600 < r then .invalid .range else .good (temperatureOf r + trim)

/-- The last count a conversion leaves (R85). -/
def lastCountOf : Option Word → LastCount
  | none => .overflow
  | some w => .count w

/-- Strike a channel for an invalid conversion (R89). -/
def RatioChannel.strike (c : RatioChannel) : RatioChannel :=
  match c.state with
  | .valid => { c with state := .suspect, strikes := 1 }
  | .suspect =>
    if 3 ≤ c.strikes + 1 then { c with state := .fault, strikes := 3, reading := none, stale := false }
    else { c with strikes := c.strikes + 1 }
  | .fault | .disabled => c

/-- Whether a strike makes the channel FAULT, which posts SENSOR_FAULT (R89). -/
def RatioChannel.strikesOut (c : RatioChannel) : Bool :=
  decide (c.state = .suspect) && decide (3 ≤ c.strikes + 1)

/-- A channel as a good conversion leaves it (R89). -/
def RatioChannel.recover (c : RatioChannel) (t : Int) : RatioChannel :=
  { c with state := .valid, strikes := 0, reading := some t }

/-- An enabled channel put into FAULT (R91, R92). -/
def RatioChannel.toFault (c : RatioChannel) : RatioChannel :=
  { c with state := .fault, strikes := 3, reading := none, stale := false }

namespace State

/-! ## The scan (R84) -/

/-- Whether a ratio channel is enabled. -/
def enabled (s : State) (m : RatioId) : Bool := decide ((s.ratioChannel m).state ≠ .disabled)

/-- The first enabled ratio channel from an index on, or the reference of the next scan (R84). -/
def slotFrom (s : State) (i : Nat) : ScanSlot :=
  match (List.finRange 6).find? fun m => decide (i ≤ m.val) && s.enabled m with
  | some m => .ratio m
  | none => .reference

/-- The next conversion begins as the present one completes (R84). -/
def advanceScan (s : State) : State :=
  let next := match s.scan.slot with
    | .reference => s.slotFrom 0
    | .ratio m => s.slotFrom (m.val + 1)
  { s with scan := { slot := next, gateLeft := 100 } }

/-! ## Reference faults (R90 to R93) -/

/-- Mark the held channels stale and start the hold timer (R91). -/
def startHold (s : State) : State :=
  let s1 := s.mapRatio fun _ c =>
    match c.state with
    | .valid | .suspect => { c with stale := true }
    | .fault | .disabled => c
  { s1 with reference := { s1.reference with hold := some 30000 } }

/-- End any hold: the timer stops and every stale mark goes (R90). -/
def endHold (s : State) : State :=
  let s1 := s.mapRatio fun _ c => { c with stale := false }
  { s1 with reference := { s1.reference with hold := none } }

/-- Every enabled channel not already FAULT enters FAULT, and the stores form their readings again (R92, R91 at the expiry). -/
def faultAll (s : State) : State :=
  (s.mapRatio fun _ c =>
    match c.state with
    | .valid | .suspect => c.toFault
    | .fault | .disabled => c).reformAll

/-- Carry out a reference fault action (R90 to R93). -/
def faultEntry (s : State) : FaultAction → State
  | .hold => s.startHold
  | .invalid => s.faultAll
  | .safe => s.requestSafe

/-- The state a reference conversion gives (R86). -/
def refStateOf : Option Word → RefState
  | none => .refFault
  | some w => if 2000 ≤ w.toNat ∧ w.toNat ≤ 20000 then .valid w.toNat else .refFault

/-- Whether the reference is in REF_FAULT. -/
def refFaulty (s : State) : Bool := decide (s.reference.state = .refFault)

/-- A reference conversion completes (R86, R90). -/
def convertReference (s : State) (count : Option Word) : State :=
  let before := s.refFaulty
  let s1 := { s with reference := { s.reference with state := refStateOf count, lastCount := lastCountOf count } }
  let s2 :=
    if s1.refFaulty && !before then (s1.postAll .sensorFault).faultEntry s1.reference.action
    else if before && !s1.refFaulty then s1.endHold
    else s1
  s2.advanceScan

/-- What a finding makes of a channel, in or out of a hold (R89, R91). -/
def applyFinding (holding : Bool) (c : RatioChannel) : Finding → RatioChannel
  | .good t => { c.recover t with lastCause := .none }
  | .invalid k =>
    if holding ∧ k = .ref then { c with lastCause := k } else { c.strike with lastCause := k }

/-- Whether a finding posts SENSOR_FAULT (R89, R91). -/
def findingPosts (holding : Bool) (c : RatioChannel) : Finding → Bool
  | .good _ => false
  | .invalid k => !(holding && decide (k = .ref)) && c.strikesOut

/-- A ratio conversion completes: the channel is written, SENSOR_FAULT posted, then the stores formed (R87 to R89, R91). -/
def convertRatio (s : State) (m : RatioId) (count : Option Word) : State :=
  let c := s.ratioChannel m
  let f := judge s.reference.state c.trim count
  let holding := s.reference.hold.isSome
  let s1 := s.modRatio m fun c => { applyFinding holding c f with lastCount := lastCountOf count }
  let s2 := if findingPosts holding c f then s1.postAll .sensorFault else s1
  (s2.reformFor m).advanceScan

/-- The hold timer expires with the reference still in REF_FAULT (R91). -/
def expireHold (s : State) : State :=
  let s1 := { s with reference := { s.reference with hold := none } }
  (s1.postAll .sensorFault).faultAll

/-! ## Channel settings taking effect (R97) -/

/-- A reference fault action is written; a different one is carried out now when the reference is in REF_FAULT (R97). -/
def setFaultAction (s : State) (a : FaultAction) : State :=
  if s.reference.action = a then s
  else
    let s1 := { s with reference := { s.reference with action := a } }
    if s1.refFaulty then s1.endHold.faultEntry a else s1

/-- A ratio channel is disabled; a conversion of it in progress is abandoned (R97). -/
def disableRatio (s : State) (m : RatioId) : State :=
  let s1 := s.modRatio m fun c =>
    { c with state := .disabled, strikes := 0, reading := none, stale := false, lastCause := .none }
  let s2 := if s.scan.slot = .ratio m then s1.advanceScan else s1
  s2.reformFor m

/-- A DISABLED ratio channel is enabled, held with no reading when a hold runs (R97). -/
def enableRatio (s : State) (m : RatioId) : State :=
  (s.modRatio m fun c =>
    { c with state := .suspect, strikes := 0, reading := none, stale := s.reference.hold.isSome,
             lastCount := .none, lastCause := .none }).reformFor m

/-- The enable and trim of a ratio channel are written (R97). -/
def setRatio (s : State) (m : RatioId) (enable : Bool) (trim : Int) : State :=
  let s1 := s.modRatio m fun c => { c with trim := trim }
  if s.enabled m && !enable then s1.disableRatio m
  else if !s.enabled m && enable then s1.enableRatio m
  else s1

/-! ## Pulses (R94, R95) -/

/-- A pulse is counted, saturating at 4095 and setting the overflow flag on reaching it (R94). -/
def countPulse (c : PulseChannel) : PulseChannel :=
  if c.count < 4095 then { c with count := c.count + 1, overflow := c.overflow || decide (c.count + 1 = 4095) }
  else c

/-- The window of a channel is captured and its flow formed and kept (R78, R95). -/
def captureFlow (c : PulseChannel) : PulseChannel :=
  { c with count := 0, overflow := false, lastFlow := c.count * c.weight * 3, lastSaturated := c.overflow }

/-- The window of a channel is captured and discarded, at a skipped water round (R28). -/
def discardWindow (c : PulseChannel) : PulseChannel := { c with count := 0, overflow := false }

/-- Every pulse window is captured and discarded (R28). -/
def discardWindows (s : State) : State := s.mapPulse fun _ c => discardWindow c

end State

end Sys2Proof.Machine
end

