-- ==== Sys2Proof/Machine/Rounds.lean ====
section
/-! DEFINITION. The apportionment rounds: floor stage, fill, capacity, recharge, burst reservation and admission, trim, derate and close (chapters 2, 3, 4 and 6). -/

namespace Sys2Proof.Machine

/-! ## The floor stage and the fill, over the eligible outlets of a round -/

/-- An eligible outlet's part in a round: what the round read of its record and the grant built up so far. -/
structure Share where
  outlet : OutletId
  demand : Nat
  floor : Nat
  weight : Nat
  tier : Tier
  grant : Nat
  deriving DecidableEq, Repr

/-- What an outlet is owed at the floor stage (02 section 2.4). -/
def Share.owed (x : Share) : Nat := min x.floor x.demand

/-- What an outlet still needs in a fill (02 section 2.5). -/
def Share.need (x : Share) : Nat := x.demand - x.grant

/-- F_t, the sum of the amounts owed in a tier. -/
def owedIn (t : Tier) (xs : List Share) : Nat := ((xs.filter fun x => decide (x.tier = t)).map Share.owed).sum

/-- The floor stage over tiers in order; its flag says that a tier was overloaded, where the stage ends with R = 0 (R32, R33). -/
def floorStage : List Tier → Nat → List Share → List Share × Nat × Bool
  | [], r, xs => (xs, r, false)
  | t :: ts, r, xs =>
    let f := owedIn t xs
    if f ≤ r then
      floorStage ts (r - f) (xs.map fun x => if x.tier = t then { x with grant := x.owed } else x)
    else (xs.map fun x => if x.tier = t then { x with grant := x.owed * r / f } else x, 0, true)

/-- Whether an outlet is in S for the fill of a tier (02 section 2.5). -/
def Share.inFill (t : Tier) (x : Share) : Bool := decide (x.tier = t) && decide (x.grant < x.demand)

/-- The members of S in the order the remainder is handed out: from the rotation pointer upward, then from the lowest (R35). -/
def handOrder (ptr : OutletId) (s : List Share) : List OutletId :=
  (s.filter fun x => decide (ptr ≤ x.outlet)).map Share.outlet ++
  (s.filter fun x => decide (x.outlet < ptr)).map Share.outlet

/-- The fill of a tier in passes (R34, R35). Every pass but the last takes a member out of S, so the number of outlets bounds the passes. -/
def fillPasses : Nat → Tier → OutletId → Nat → List Share → List Share × Nat
  | 0, _, _, r, xs => (xs, r)
  | fuel + 1, t, ptr, r, xs =>
    let s := xs.filter (Share.inFill t)
    if s.isEmpty ∨ r = 0 then (xs, r)
    else
      let w := (s.map Share.weight).sum
      let q := fun (x : Share) => r * x.weight / w
      let capped := s.filter fun x => decide (x.need ≤ q x)
      if capped.isEmpty then
        let units := (handOrder ptr s).take (r - (s.map q).sum)
        (xs.map fun x =>
          if x.inFill t then { x with grant := x.grant + q x + bit (units.contains x.outlet) } else x, 0)
      else
        fillPasses fuel t ptr (r - (capped.map Share.need).sum)
          (xs.map fun x => if x.inFill t && decide (x.need ≤ q x) then { x with grant := x.demand } else x)

/-- The fill of one tier with the pool's rotation pointers (R34). -/
def fillTier (ptrs : Vector OutletId 4) (t : Tier) (w : List Share × Nat) : List Share × Nat :=
  fillPasses (w.1.length + 1) t ptrs[t] w.2 w.1

/-- The grant status at the end of a round, by the first line of R11 that applies. -/
def roundStatus (k : Condition) (cleared : Bool) (demand grant floor : Nat) : GrantStatus :=
  if k ≠ .active then .idle
  else if cleared then .burst
  else if demand = 0 then .idle
  else if grant = demand then .full
  else if grant < min floor demand then .shed
  else .partially

/-- A rotation pointer advances by 1, from 23 to 0 (R36). -/
def advancePointers (v : Vector OutletId 4) : Vector OutletId 4 := tabulate fun t => v[t] + 1

/-- The round outcome (R46). -/
def roundOutcome (usable : Nat) (overloaded : Bool) : RoundOutcome :=
  if usable = 0 then .noCapacity else if overloaded then .floorOverload else .normal

namespace State

/-- The eligible outlets of a round of a pool, in ascending index, their grants at 0 (R31). -/
def shares (s : State) (pool : Pool) : List Share :=
  (List.finRange 24).filterMap fun n =>
    let o := s.outlet n
    if o.struct.pool = pool ∧ o.condition = .active ∧ (pool = .steam → s.clearedAmount n = none) then
      some { outlet := n, demand := o.demand, floor := o.limits.floor, weight := o.limits.weight,
             tier := o.limits.tiers[s.profile], grant := 0 }
    else none

/-- The close for one outlet: its grant and status are set, the grant handed to its channel, and a change into or out of SHED posted (R42, R45, R47). -/
def closeOutlet (s : State) (n : OutletId) (g : Nat) : State :=
  let o := s.outlet n
  let st := roundStatus o.condition (s.clearedAmount n).isSome o.demand g o.limits.floor
  let s1 := (s.modOutlet n fun o => { o with status := st }).setGrant n g
  if st = .shed ∧ o.status ≠ .shed then s1.postOutlet n (.outletShed n)
  else if o.status = .shed ∧ st ≠ .shed then s1.postOutlet n (.outletRestored n)
  else s1

/-- The close for every outlet of a pool (R42, R45). -/
def closeOutlets (s : State) (pool : Pool) (grantOf : OutletId → Nat) : State :=
  s.forOutlets fun n t => if (t.outlet n).struct.pool = pool then t.closeOutlet n (grantOf n) else t

/-- The sum of the grants of a pool's outlets (R42, R45). -/
def sumGrants (s : State) (pool : Pool) : Nat :=
  ((s.outlets.toList.filter fun o => decide (o.struct.pool = pool)).map Outlet.grant).sum

/-! ## The steam round (R37 to R42) -/

/-- What a boiler contributes to C (R57 step 1). -/
def contribution (s : State) (b : BoilerId) : Nat :=
  if (s.boiler b).armed && !s.tripAsserted b then (s.boiler b).postedKw else 0

/-- The raw capacity C (R57). -/
def rawCapacity (s : State) : Nat :=
  let c := s.contribution 0 + s.contribution 1
  if s.steam.lowpr then c * s.steam.lowFraction / 100 else c

/-- The usable capacity U of a raw capacity (R58). -/
def usableCapacity (c margin : Nat) : Nat := c - c * margin / 100

/-- The demand of a recharge outlet from a reading (R74). -/
def rechargeDemand (c : StoreSettings) (ceiling : Nat) (t : Int) : Nat :=
  min ceiling (c.gain * (max 0 (c.setpoint - t)).toNat / 10)

/-- The demand stage 2 writes for an outlet bound to a store, and where it came from (R74, R75). -/
def rechargeOf (s : State) (i : StoreId) (ceiling : Nat) : Nat × DemandOrigin :=
  let r := s.storeRec i
  match r.reading.value? with
  | some t => (rechargeDemand r.settings ceiling t, .reading)
  | none => (min r.settings.fallback ceiling, .fallback)

/-- Stage 2 for one outlet (R38). -/
def rechargeOutlet (s : State) (o : Outlet) : Outlet :=
  match o.struct.pool, boundStore o.struct with
  | .steam, some i => { o with demand := (s.rechargeOf i o.limits.ceiling).1, owner := .engine }
  | _, _ => o

/-- The outlet whose structure binds a store, the lowest if several did (R3, R68). -/
def rechargeOutletOf (s : State) (i : StoreId) : Option OutletId :=
  (List.finRange 24).find? fun n =>
    decide ((s.outlet n).struct.pool = .steam) && decide (boundStore (s.outlet n).struct = some i)

/-- Stage 2: the demand of every recharge outlet is written, and what was written is noted for READ STORE (R38, R73). -/
def rechargeStage (s : State) : State :=
  (s.mapOutlets fun _ o => s.rechargeOutlet o).mapStores fun i r =>
    { r with lastRecharge := (s.rechargeOutletOf i).map fun n =>
        let d := s.rechargeOf i (s.outlet n).limits.ceiling
        { outlet := n, demand := d.1, origin := d.2 } }

/-- Under LOCKOUT every entry whose requester lacks CAPACITY is revoked, in list order (R112). -/
def lockoutRevocation (s : State) : State :=
  if s.lockout then s.revokeWhere (fun e => !(s.globals e.requester).capacity) .lockout else s

/-- The total of the amounts of the CLEARED entries (R39). -/
def clearedTotal (s : State) : Nat := ((s.bursts.filter BurstEntry.isCleared).map BurstEntry.amount).sum

/-- The entry with the last clearance order (R111). -/
def lastCleared (s : State) : Option BurstEntry :=
  (s.bursts.filter BurstEntry.isCleared).foldl
    (fun best e => match best with
      | none => some e
      | some b => if b.rank < e.rank then some e else some b) none

/-- Revoke CLEARED entries, latest cleared first, until the rest fit in R (R39, R111). Each step removes an entry, so their number bounds the steps. -/
def revokeUntilFits : Nat → Nat → State → State
  | 0, _, s => s
  | fuel + 1, r, s =>
    if s.clearedTotal ≤ r then s
    else match s.lastCleared with
      | none => s
      | some e => revokeUntilFits fuel r (s.removeEntry e.outlet (revoked .capacity))

/-- The head of the list: the QUEUED entry nearest position 1 (R100). -/
def headEntry (s : State) : Option BurstEntry := s.bursts.find? fun e => !e.isCleared

/-- An entry is cleared at its admission: its time starts, it takes the last clearance order, BURST_CLEARED is posted (R104). -/
def clearEntry (s : State) (e : BurstEntry) : State :=
  let rank := s.clearedCount + 1
  (s.modEntry e.outlet fun x => { x with state := .cleared (x.duration * 1000) rank }).postTo e.requester
    (.burstCleared e.outlet)

/-- Offer admission to the heads of the list in turn, stopping at the first that does not fit (R40, R104). The grant a head gives back is what the round has given its outlet so far. -/
def admitHeads : Nat → State → List Share → Nat → State × List Share × Nat
  | 0, s, xs, r => (s, xs, r)
  | fuel + 1, s, xs, r =>
    match s.headEntry with
    | none => (s, xs, r)
    | some e =>
      let back := ((xs.filter fun x => decide (x.outlet = e.outlet)).map Share.grant).sum
      if e.amount ≤ r + back then
        admitHeads fuel (s.clearEntry e) (xs.filter fun x => decide (x.outlet ≠ e.outlet)) (r + back - e.amount)
      else (s, xs, r)

/-- Whether every outlet still eligible in tiers 0 and 1 holds its demand (R41). -/
def upperTiersMet (xs : List Share) : Bool := xs.all fun x => decide (2 ≤ x.tier.val) || decide (x.demand ≤ x.grant)

/-- The grants a steam round sets: of an eligible outlet what the round gave it, of a cleared burst its amount, 0 otherwise (R42). -/
def steamGrant (s : State) (xs : List Share) (n : OutletId) : Nat :=
  match xs.find? fun x => decide (x.outlet = n) with
  | some x => x.grant
  | none => (s.clearedAmount n).getD 0

/-- Stages 3 and 4 of a steam round from the usable capacity: the state with its burst list, the shares at the end, and whether the floor stage found a tier overloaded (R32, R37, R39 to R41, R112). -/
def steamStages (s : State) (u : Nat) : State × List Share × Bool :=
  let p := s.steam.pointers
  let fl := if u = 0 then (s.shares .steam, 0, false) else floorStage [0, 1, 2, 3] u (s.shares .steam)
  let w1 := if u = 0 then (fl.1, fl.2.1) else fillTier p 1 (fillTier p 0 (fl.1, fl.2.1))
  let s1 := s.lockoutRevocation
  let s2 := revokeUntilFits s1.bursts.length w1.2 s1
  let ad := admitHeads s2.bursts.length s2 w1.1 (w1.2 - s2.clearedTotal)
  let w2 :=
    if u ≠ 0 ∧ upperTiersMet ad.2.1 then fillTier p 3 (fillTier p 2 (ad.2.1, ad.2.2)) else (ad.2.1, ad.2.2)
  (ad.1, w2.1, fl.2.2)

/-- A whole steam round, up to the release of the table (R37 to R42). -/
def runSteamRound (s : State) : State :=
  let c := s.rawCapacity
  let u := usableCapacity c s.steam.margin
  let st := s.rechargeStage.steamStages u
  let s1 := st.1.closeOutlets .steam (st.1.steamGrant st.2.1)
  { s1 with steam :=
      { s1.steam with
        lastC := c, lastU := u, sumGrants := s1.sumGrants .steam, outcome := roundOutcome u st.2.2,
        pointers := advancePointers s1.steam.pointers, roundCount := s1.steam.roundCount + 1 } }

/-! ## The water round (R43 to R45) -/

/-- Stage 1: every window is captured and its flow formed (R78). -/
def captureStage (s : State) : State := s.mapPulse fun _ c => captureFlow c

/-- The streaks and the trim of a compared outlet, and whether OVERDRAW is posted (R80, R81). -/
def stepTrim (o : Outlet) (m : Nat) : Outlet × Bool :=
  if o.grant * (100 + o.limits.tolerance) < m * 100 then
    if 3 ≤ o.overStreak + 1 then
      ({ o with overStreak := 0, underStreak := 0, trim := max 50 (o.trim - 5) }, true)
    else ({ o with overStreak := o.overStreak + 1, underStreak := 0 }, false)
  else if 10 ≤ o.underStreak + 1 then
    ({ o with overStreak := 0, underStreak := 0, trim := min 100 (o.trim + 5) }, false)
  else ({ o with overStreak := 0, underStreak := o.underStreak + 1 }, false)

/-- Stage 2 for one outlet: a metered WATER outlet is compared when it is CYCLING and its window is not saturated (R79). -/
def trimOutlet (s : State) (n : OutletId) : State :=
  let o := s.outlet n
  match o.struct.pool, o.struct.meter with
  | .water, some f =>
    if (s.channel n).phase = .cycling ∧ ¬ (s.pulseChannel f).lastSaturated then
      let t := stepTrim o (s.pulseChannel f).lastFlow
      let s1 := s.modOutlet n fun _ => t.1
      if t.2 then s1.postOutlet n (.overdraw n) else s1
    else s
  | _, _ => s

/-- Stage 2: the overdraw trim (R79 to R81). -/
def trimStage (s : State) : State := s.forOutlets fun n t => t.trimOutlet n

/-- The lower of the valid store readings (R76). -/
def coolest (s : State) : Option Int :=
  match (s.storeRec 0).reading.value?, (s.storeRec 1).reading.value? with
  | some a, some b => some (min a b)
  | some a, none => some a
  | none, b => b

/-- The derate of a coolest reading between the lower low point and the higher setpoint (R76). -/
def derateOf (dLow : Nat) (low set t : Int) : Nat :=
  if set ≤ t then 100
  else if t ≤ low then dLow
  else dLow + (((100 - dLow : Nat) : Int) * (t - low) / (set - low)).toNat

/-- The derate d of a water round (R76). -/
def derate (s : State) : Nat :=
  let a := (s.storeRec 0).settings
  let b := (s.storeRec 1).settings
  match s.coolest with
  | none => s.water.failDerate
  | some t => derateOf s.water.dLow (min a.lowPoint b.lowPoint) (max a.setpoint b.setpoint) t

/-- Floors and fills of a water round (R43 stages 4 and 5). -/
def waterStages (s : State) (uw : Nat) : List Share × Bool :=
  let p := s.water.pointers
  if uw = 0 then (s.shares .water, false)
  else
    let fl := floorStage [0, 1, 2, 3] uw (s.shares .water)
    ((fillTier p 3 (fillTier p 2 (fillTier p 1 (fillTier p 0 (fl.1, fl.2.1))))).1, fl.2.2)

/-- The grant a water round sets for an outlet (R45). -/
def waterGrant (xs : List Share) (n : OutletId) : Nat :=
  match xs.find? fun x => decide (x.outlet = n) with
  | some x => x.grant
  | none => 0

/-- The trims of the water outlets go to their channels with the grants (R116). -/
def handTrims (s : State) : State :=
  s.mapChannels fun n c => if (s.outlet n).struct.pool = .water then { c with trim := (s.outlet n).trim } else c

/-- A whole water round, up to the release of the table; the first after an entry to RUN leaves the trims alone (R43 to R45). The first is the one that runs first after the entry, also where it was handed the table before the entry (log 33). -/
def runWaterRound (s : State) : State :=
  let s1 := s.captureStage
  let s2 := if s.water.firstRound then s1 else s1.trimStage
  let d := s2.derate
  let uw := s2.water.flow * d / 100
  let st := s2.waterStages uw
  let s3 := (s2.closeOutlets .water (waterGrant st.1)).handTrims
  { s3 with water :=
      { s3.water with
        lastDerate := d, lastUsable := uw, sumGrants := s3.sumGrants .water,
        outcome := roundOutcome uw st.2, pointers := advancePointers s3.water.pointers,
        roundCount := s3.water.roundCount + 1, firstRound := false } }

/-! ## Skipped rounds (R27, R28) -/

/-- A steam round is skipped and counted. -/
def skipSteam (s : State) : State := { s with steam := { s.steam with skipped := saturate16 s.steam.skipped } }

/-- A water round is skipped and counted; the pulse windows are captured and discarded. -/
def skipWater (s : State) : State :=
  { s with water := { s.water with skipped := saturate16 s.water.skipped } }.discardWindows

end State

end Sys2Proof.Machine
end

