-- ==== Sys2Proof/Machine/TableCommands.lean ====
section
/-! DEFINITION. The table commands: the checks before the table and what each does when it is carried out (chapters 1 and 6, R21). -/

namespace Sys2Proof.Machine

/-- What carrying a command out gives: the state, the result and the response payload. -/
structure Answer where
  state : State
  result : Result
  payload : List Byte
  deriving DecidableEq, Repr

/-- A refused command: the state as it was, and no payload (R140, R172). -/
def refuse (s : State) (r : Result) : Answer := { state := s, result := r, payload := [] }

/-- A command that was carried out and returns no data. -/
def done (s : State) (clamped : Bool) : Answer :=
  { state := s, result := if clamped then .clamped else .ok, payload := [] }

/-- A read: the state as it was, and its payload. -/
def reply (s : State) (pl : List Byte) : Answer := { state := s, result := .ok, payload := pl }

/-- The outlet an outlet command names. -/
def outletArg (pl : List Byte) : Option OutletId := index? 24 (u8At pl 0)

/-- The greatest floor, ceiling or fallback demand of a pool (R5). The spec gives none for UNUSED, and a load clamps such an outlet to 4000 (log 47). -/
def poolMax : Pool → Nat
  | .water => 600
  | .steam | .unused => 4000

namespace State

/-! ## Checks made before the table is asked for (R1 checks 1 to 3, R140) -/

/-- The index check and the right an outlet command needs (R1). -/
def checkOutlet (s : State) (p : Port) (pl : List Byte) (need : OutletRights → Bool) : Option Result :=
  match outletArg pl with
  | none => some .badIndex
  | some n => if need (s.rights p n) then none else some .denied

/-- The index and rights checks of a table command (R1, R2, R19, R101, R102, R110, R173). -/
def checkRights (s : State) (c : Code) (p : Port) (pl : List Byte) : Option Result :=
  match c with
  | .readOutlet => if 2 < u8At pl 1 then some .badIndex else s.checkOutlet p pl OutletRights.read
  | .setDemand => s.checkOutlet p pl OutletRights.demand
  | .setLimits => s.checkOutlet p pl OutletRights.limits
  | .setOutletConfig => s.checkOutlet p pl fun _ => (s.globals p).admin
  | .parkOutlet | .unparkOutlet | .clearAbsent | .senseStart | .senseEnd => s.checkOutlet p pl OutletRights.park
  | .requestBurst | .endBurst => s.checkOutlet p pl OutletRights.burst
  | .setProfile => if (s.globals p).profile then none else some .denied
  | _ => none

/-- The checks of a table command before it asks for the table: index, rights, then the busy indication (R1, R21). -/
def checkTable (s : State) (c : Code) (p : Port) (pl : List Byte) : Option Result :=
  match s.checkRights c p pl with
  | some r => some r
  | none => if s.busy then some .busy else none

/-! ## READ OUTLET (R1, R173) -/

/-- The STRUCTURE part of an outlet (10 section 10.3). -/
def structurePayload (st : OutletStructure) : List Byte :=
  be8 (poolCode st.pool) ++ be8 (roleCode st.role) ++ be8 (optCode st.branch) ++ be8 (optCode st.meter) ++
  be16 st.period ++ be16 st.minOn ++ be8 (driveByte st) ++ be16 st.coldTime ++ be16 st.dwell ++ be8 st.warmCap

/-- The LIMITS part of an outlet (10 section 10.3). -/
def limitsPayload (l : Limits) : List Byte :=
  (l.tiers.toList.map fun t => BitVec.ofNat 8 t.val) ++ be8 l.weight ++ be16 l.floor ++ be16 l.ceiling ++
  be8 (lapseCode l.lapseAction) ++ be16 l.fallback ++ be8 l.tolerance

/-- The position of an outlet in its branch start queue, 0 for none (R116). -/
def queuePosition (s : State) (n : OutletId) : Nat :=
  match s.branches.toList.find? fun b => b.queue.contains n with
  | some b => b.queue.findIdx (fun m => decide (m = n)) + 1
  | none => 0

/-- The RUNTIME part of an outlet (10 section 10.3). -/
def runtimePayload (s : State) (n : OutletId) : List Byte :=
  let o := s.outlet n
  let c := s.channel n
  let burst := match s.entryOf n with
    | some e => be8 (if e.isCleared then 2 else 1) ++ be16 e.amount
    | none => be8 0 ++ be16 0
  be16 o.demand ++ be8 (ownerCode o.owner) ++ be16 o.grant ++ be8 (statusCode o.status) ++
  be8 (conditionCode o.condition) ++ be8 o.trim ++ be8 (o.overStreak * 16 + o.underStreak) ++
  be8 (continuityCode o.continuity) ++ burst ++ be8 (phaseCode c.phase) ++ be16 c.applied ++
  be16 c.closedTime ++ be8 (s.queuePosition n)

/-- READ OUTLET is carried out (R1, R173). -/
def doReadOutlet (s : State) (n : OutletId) (part : Nat) : Answer :=
  reply s (match part with
    | 0 => structurePayload (s.outlet n).struct
    | 1 => limitsPayload (s.outlet n).limits
    | _ => s.runtimePayload n)

/-! ## READ BURSTS (R101, R174) -/

/-- Whole seconds rounded up. -/
def secondsUp (ms : Nat) : Nat := (ms + 999) / 1000

/-- The thirteen bytes of a burst entry at a position (R174). -/
def burstPayload (pos : Nat) (e : BurstEntry) : List Byte :=
  be8 pos ++ be8 e.outlet.val ++ be8 e.requester.val ++ be16 e.amount ++ be16 e.duration ++ be16 e.waitLimit ++
  match e.state with
  | .queued t => be8 1 ++ be16 (t / 1000) ++ be8 0
  | .cleared t r => be8 2 ++ be16 (secondsUp t) ++ be8 r

/-- The entries with their positions, from a start position on; 0 is taken as 1 (R174). -/
def burstsFrom (s : State) (start : Nat) : List (Nat × BurstEntry) :=
  ((s.bursts.zipIdx 1).map fun x => (x.2, x.1)).filter fun x => decide (max start 1 ≤ x.1)

/-- READ BURSTS is carried out: the first two entries the port may read (R101, R174). -/
def doReadBursts (s : State) (p : Port) (start : Nat) : Answer :=
  let found := ((s.burstsFrom start).filter fun x => (s.rights p x.2.outlet).read).take 2
  let next := match found with
    | [_, (k, _)] => k + 1
    | _ => 0
  reply s (be8 s.bursts.length ++ be8 found.length ++ be8 next ++
    (found.map fun x => burstPayload x.1 x.2).flatten)

/-! ## SET DEMAND (R8) -/

/-- SET DEMAND is carried out (R1, R8, R10). The owner is the sending port also where that port has lapsed while the command waited (log 44). -/
def doSetDemand (s : State) (p : Port) (n : OutletId) (v : Nat) : Answer :=
  let o := s.outlet n
  if o.struct.pool = .unused then refuse s .badIndex
  else if o.struct.role ≠ .plain then refuse s .role
  else
    let s1 := s.modOutlet n fun o => { o with demand := min v o.limits.ceiling, owner := .port p }
    done (s1.enforceEffective n) (decide (o.limits.ceiling < v))

/-! ## SET LIMITS (R5, R6) -/

/-- A tier as carried, clamped to 0 to 3. -/
def tierOf (n : Nat) : Tier := ⟨min n 3, by omega⟩

/-- The limits a payload carries for a pool, clamped; nothing for an undefined lapse action (R5). -/
def parseLimits (pool : Pool) (pl : List Byte) : Option Limits :=
  (lapseAction? (byteAt pl 10)).map fun a =>
    let ceiling := min (u16At pl 8) (poolMax pool)
    { tiers := tabulate fun i => tierOf (u8At pl (1 + i.val)), weight := clampNat 1 15 (u8At pl 5),
      floor := min (u16At pl 6) ceiling, ceiling := ceiling, lapseAction := a,
      fallback := min (u16At pl 11) (poolMax pool), tolerance := clampNat 5 50 (u8At pl 13) }

/-- Whether clamping changed a value the payload carries (R5). -/
def limitsClamped (l : Limits) (pl : List Byte) : Bool :=
  decide (limitsPayload l ≠ pl.drop 1)

/-- The limits of an outlet are written, and demand, grant and burst amount lowered to the ceiling (R5, R6). -/
def writeLimits (s : State) (n : OutletId) (l : Limits) : State :=
  let s1 := s.modOutlet n fun o => { o with limits := l, demand := min o.demand l.ceiling }
  let s2 := s1.modEntry n fun e => { e with amount := min e.amount l.ceiling }
  let s3 := s2.modChannel n fun c => { c with ceiling := l.ceiling }
  let s4 := if l.ceiling < (s3.outlet n).grant then s3.setGrant n l.ceiling else s3
  s4.enforceEffective n

/-- SET LIMITS is carried out (R1, R5, R6). -/
def doSetLimits (s : State) (n : OutletId) (pl : List Byte) : Answer :=
  if s.engine.state = .safe then refuse s .badState
  else if (s.outlet n).struct.pool = .unused then refuse s .badIndex
  else match parseLimits (s.outlet n).struct.pool pl with
    | none => refuse s .badIndex
    | some l => done (s.writeLimits n l) (limitsClamped l pl)

/-! ## SET OUTLET CONFIG (R2 to R4) -/

/-- The structure a payload carries, unclamped; nothing when a field carries an undefined code (R2, R171). -/
def parseStructure (pl : List Byte) : Option OutletStructure := do
  let pool ← pool? (byteAt pl 1)
  let role ← role? (byteAt pl 2)
  let branch ← optIndex? 6 (byteAt pl 3)
  let meter ← optIndex? 8 (byteAt pl 4)
  let d ← driveByte? (byteAt pl 9)
  return { pool := pool, role := role, branch := branch, meter := meter, period := u16At pl 5, minOn := u16At pl 7,
           polarity := d.1, safeState := d.2.1, coldTime := u16At pl 10, dwell := u16At pl 12,
           warmCap := u8At pl 14, absentAction := d.2.2 }

/-- The numeric fields of a structure clamped to their ranges (R2). -/
def clampStructure (st : OutletStructure) : OutletStructure :=
  { st with period := clampNat 200 6000 st.period, minOn := min st.minOn 500,
            coldTime := clampNat 60 3600 st.coldTime, dwell := min st.dwell 600,
            warmCap := clampNat 10 50 st.warmCap }

/-- Whether a role is RECHARGE. -/
def isRecharge : Role → Bool
  | .recharge _ => true
  | .plain => false

/-- Whether a new structure changes the pool or the role (R3, R4). -/
def restarts (old new : OutletStructure) : Bool :=
  decide (old.pool ≠ new.pool) || decide (isRecharge old.role ≠ isRecharge new.role)

/-- Whether a structure is one its pool does not allow: the cases answering ROLE (R3). -/
def roleConflict (st : OutletStructure) : Bool :=
  (isRecharge st.role && decide (st.pool ≠ .steam)) || (st.branch.isSome && decide (st.pool ≠ .steam)) ||
  (st.meter.isSome && decide (st.pool ≠ .water)) ||
  (decide (st.safeState = .opened) && decide (st.pool = .steam))

/-- Whether another outlet's record binds the same store or names the same pulse channel (R3). -/
def duplicates (s : State) (n : OutletId) (st : OutletStructure) : Bool :=
  (List.finRange 24).any fun m =>
    decide (m ≠ n) &&
    (((boundStore st).isSome && decide (boundStore (s.outlet m).struct = boundStore st)) ||
     (st.meter.isSome && decide ((s.outlet m).struct.meter = st.meter)))

/-- The refusals of R3 in their order: BAD_STATE, ROLE, DUPLICATE. -/
def structureRefusal (s : State) (n : OutletId) (st : OutletStructure) : Option Result :=
  let o := s.outlet n
  if o.burstRef && restarts o.struct st then some .badState
  else if decide (o.struct.pool ≠ .unused) && decide (st.pool = .unused) && isSensing o.condition then some .badState
  else if roleConflict st then some .role
  else if s.duplicates n st then some .duplicate
  else none

/-- The limits of an outlet in its new pool: a WATER outlet keeps at most 600 (R4; log 18). -/
def limitsIn (pool : Pool) (l : Limits) : Limits :=
  if pool = .water then
    { l with floor := min l.floor 600, ceiling := min l.ceiling 600, fallback := min l.fallback 600 }
  else l

/-- The record of an outlet with a new structure: its runtime fields restart on a change of pool or role, and the trim on the loss of its meter (R4, R9). -/
def withStructure (o : Outlet) (st : OutletStructure) : Outlet :=
  let o1 := { o with struct := st, limits := limitsIn st.pool o.limits }
  let o2 :=
    if restarts o.struct st then
      { o1 with demand := 0, owner := if isRecharge st.role then .engine else .none, grant := 0, status := .idle,
                trim := 100, overStreak := 0, underStreak := 0 }
    else o1
  if o.struct.meter.isSome && st.meter.isNone then { o2 with trim := 100, overStreak := 0, underStreak := 0 }
  else o2

/-- A structure is written and handed to the drive channel with what changed beside it (R2, R4, R116). -/
def writeStructure (s : State) (n : OutletId) (st : OutletStructure) : State :=
  let o := withStructure (s.outlet n) st
  (s.modOutlet n fun _ => o).modChannel n fun c =>
    { c with copy := st, ceiling := o.limits.ceiling, trim := o.trim, grant := o.grant }

/-- SET OUTLET CONFIG is carried out (R1 to R4). -/
def doSetOutletConfig (s : State) (n : OutletId) (pl : List Byte) : Answer :=
  if s.engine.state ≠ .standby then refuse s .badState
  else match parseStructure pl with
    | none => refuse s .badIndex
    | some raw =>
      match s.structureRefusal n raw with
      | some r => refuse s r
      | none =>
        let st := clampStructure raw
        let limits := (s.outlet n).limits
        done (s.writeStructure n st)
          (decide (st ≠ raw) || decide (limitsIn st.pool limits ≠ limits))

/-! ## Conditions (R13 to R18) -/

/-- PARK OUTLET is carried out (R13). -/
def doPark (s : State) (n : OutletId) : Answer :=
  if (s.outlet n).struct.pool = .unused then refuse s .badIndex
  else if (s.outlet n).condition ≠ .active then refuse s .badState
  else
    let s1 := s.modOutlet n fun o => { o with condition := .parked, grant := 0, status := .idle }
    let s2 := s1.modChannel n fun c => Channel.setCondition { c with grant := 0 } .parked
    let s3 := s2.removeEntry n (revoked .park)
    done (s3.turnOffNow n) false

/-- An outlet returns to ACTIVE from a condition, for UNPARK OUTLET and CLEAR ABSENT (R14, R16). -/
def returnActive (s : State) (n : OutletId) (from' : Condition) : Answer :=
  if (s.outlet n).struct.pool = .unused then refuse s .badIndex
  else if (s.outlet n).condition ≠ from' then refuse s .badState
  else
    done ((s.modOutlet n fun o => { o with condition := .active }).modChannel n
      fun c => c.setCondition .active) false

/-- The prior condition a sense can be started from (R17). -/
def priorFor : Condition → Option Prior
  | .parked => some .parked
  | .absent => some .absent
  | .active | .sensing _ => none

/-- SENSE START is carried out: the channel enters TEST with its first pulse (R17, R129). -/
def doSenseStart (s : State) (n : OutletId) : Answer :=
  if s.engine.state = .safe then refuse s .badState
  else if (s.outlet n).struct.pool = .unused then refuse s .badIndex
  else match priorFor (s.outlet n).condition with
    | none => refuse s .badState
    | some k =>
      let s1 := s.modOutlet n fun o => { o with condition := .sensing k }
      done (s1.modChannel n fun c =>
        Channel.setCondition
          { c with phase := .test, applied := 0, output := .on, finding := some false, holdLeft := some 10000,
                   testTick := 0 }
          (.sensing k)) false

/-- SENSE END is carried out: the finding becomes the continuity result (R18, R130). -/
def doSenseEnd (s : State) (n : OutletId) : Answer :=
  if (s.outlet n).struct.pool = .unused then refuse s .badIndex
  else if ¬ isSensing (s.outlet n).condition then refuse s .badState
  else
    let r := if (s.channel n).finding = some true then Continuity.present else .absent
    let s1 := if (s.channel n).phase = .test then s.endTest n else s
    done (s1.endSense n r) false

/-! ## Bursts (R102, R103, R110) -/

/-- A burst amount as carried, clamped to 1 to the ceiling, or 0 where the ceiling is 0 (R103). -/
def burstAmount (v ceiling : Nat) : Nat := if ceiling = 0 then 0 else clampNat 1 ceiling v

/-- REQUEST BURST is carried out (R102 checks 4 to 8, R103). -/
def doRequestBurst (s : State) (p : Port) (n : OutletId) (amount duration wait : Nat) : Answer :=
  let o := s.outlet n
  if s.engine.state = .safe then refuse s .badState
  else if o.struct.pool ≠ .steam then refuse s .badIndex
  else if o.condition ≠ .active then refuse s .badState
  else if (s.entryOf n).isSome then refuse s .duplicate
  else if 8 ≤ s.bursts.length then refuse s .queueFull
  else
    let a := burstAmount amount o.limits.ceiling
    let d := clampNat 10 3600 duration
    let w := clampNat 10 600 wait
    done (s.appendEntry n p a d w) (decide (a ≠ amount) || decide (d ≠ duration) || decide (w ≠ wait))

/-- The notice END BURST sends (R110). -/
def endNotice (e : BurstEntry) : Event := if e.isCleared then .burstEnded e.outlet else .burstWithdrawn e.outlet

/-- END BURST is carried out (R110 checks 4 to 6, R107). -/
def doEndBurst (s : State) (p : Port) (n : OutletId) : Answer :=
  if (s.outlet n).struct.pool ≠ .steam then refuse s .badIndex
  else match s.entryOf n with
    | none => refuse s .badState
    | some e => if e.requester ≠ p then refuse s .denied else done (s.removeEntry n endNotice) false

/-! ## SET PROFILE (R19) -/

/-- SET PROFILE is carried out. -/
def doSetProfile (s : State) (v : Nat) : Answer :=
  match index? 4 v with
  | none => refuse s .badIndex
  | some k => done { s with profile := k } false

/-! ## Carrying out -/

/-- A table command of an outlet is carried out (R1). -/
def onOutlet (s : State) (pl : List Byte) (f : OutletId → Answer) : Answer :=
  match outletArg pl with
  | none => refuse s .badIndex
  | some n => f n

/-- A table command is carried out by the port that holds the table (R20, R21). Codes that are no table command do nothing here. -/
def runTable (s : State) (c : Code) (p : Port) (pl : List Byte) : Answer :=
  match c with
  | .readOutlet => s.onOutlet pl fun n => s.doReadOutlet n (u8At pl 1)
  | .readBursts => s.doReadBursts p (u8At pl 0)
  | .setDemand => s.onOutlet pl fun n => s.doSetDemand p n (u16At pl 1)
  | .setLimits => s.onOutlet pl fun n => s.doSetLimits n pl
  | .setOutletConfig => s.onOutlet pl fun n => s.doSetOutletConfig n pl
  | .parkOutlet => s.onOutlet pl fun n => s.doPark n
  | .unparkOutlet => s.onOutlet pl fun n => s.returnActive n .parked
  | .clearAbsent => s.onOutlet pl fun n => s.returnActive n .absent
  | .senseStart => s.onOutlet pl fun n => s.doSenseStart n
  | .senseEnd => s.onOutlet pl fun n => s.doSenseEnd n
  | .requestBurst => s.onOutlet pl fun n => s.doRequestBurst p n (u16At pl 1) (u16At pl 3) (u16At pl 5)
  | .endBurst => s.onOutlet pl fun n => s.doEndBurst p n
  | .setProfile => s.doSetProfile (u8At pl 0)
  | _ => refuse s .unknown

end State

end Sys2Proof.Machine
end

