-- ==== Sys2Proof/Machine/Reads.lean ====
section
/-! DEFINITION. The reads that do not wait for the table: what each returns (R24, R73, R98, R141, R146, R153, chapter 10). -/

namespace Sys2Proof.Machine

/-- The code of a link state in READ STATUS (10, table 10-4). -/
def linkCode : Link → Nat
  | .active => 0
  | .lapsing => 1
  | .lapsed => 2

/-- The twelve bytes of IDENTIFY for a port (10 section 10.3). -/
def identityPayload (p : Port) : List Byte :=
  [0x4A, 0x44, 0x41, 0x2D, 0x32, 0x34, 1, 1, 1, 24, 3] ++ be8 p.val

/-- The byte of a boiler with its armed bit and posting port, 3 for NONE (R171). -/
def boilerByte (r : Boiler) : Nat :=
  128 * bit r.armed + match r.poster with
    | some p => p.val
    | none => 3

/-- The five bytes of a boiler record in READ POOL. -/
def boilerPayload (r : Boiler) : List Byte := be16 r.postedKw ++ be8 (boilerByte r) ++ be16 r.lapseCapacity

/-- Rotation pointers as bytes, tiers 0 to 3. -/
def pointersPayload (v : Vector OutletId 4) : List Byte := v.toList.map fun n => BitVec.ofNat 8 n.val

/-- Whole seconds left of a running timer rounded up, at least 1, and 0 when it is idle. -/
def timerSeconds : Option Nat → Nat
  | none => 0
  | some ms => max 1 (State.secondsUp ms)

/-- A branch record in READ POOL (10 section 10.3). -/
def branchPayload (b : Branch) : List Byte :=
  be8 b.interval ++ be8 (timerSeconds b.timer) ++ be8 b.queue.length ++ b.queue.map fun n => BitVec.ofNat 8 n.val

/-- A reading and the byte of its validity and source in READ STORE. -/
def storeReadingPayload : StoreReading → List Byte
  | .notValid => sbe16 0 ++ be8 0
  | .primary t => sbe16 t ++ be8 (1 + 2)
  | .secondary t => sbe16 t ++ be8 (1 + 4)

/-- The code of the origin of a recharge demand. -/
def originCode : DemandOrigin → Nat
  | .reading => 1
  | .fallback => 2

/-- A window as READ RIGHTS and SET WINDOW carry it. -/
def windowPayload (w : Window) : List Byte :=
  be8 w.base ++ be8 (sizeCode w.size) ++ be8 (filterCode w.filter) ++ be8 (outletRightsCode w.rights)

namespace State

/-! ## Payloads -/

/-- The steam pool record, part 0 (10 section 10.3). -/
def steamPayload (s : State) : List Byte :=
  boilerPayload (s.boiler 0) ++ boilerPayload (s.boiler 1) ++ be8 s.steam.margin ++ be8 s.steam.lowFraction ++
  be8 (ofBits [s.steam.lowpr, s.tripAsserted 0, s.tripAsserted 1]) ++ be16 s.steam.lastC ++ be16 s.steam.lastU ++
  be16 s.steam.sumGrants ++ be16 s.steam.roundCount.toNat ++ be16 s.steam.skipped ++
  be8 (outcomeCode s.steam.outcome) ++ pointersPayload s.steam.pointers

/-- The water pool record (10 section 10.3). -/
def waterPayload (s : State) : List Byte :=
  be16 s.water.flow ++ be8 (optCode s.water.poster) ++ be16 s.water.lapseFlow ++ be8 s.water.dLow ++
  be8 s.water.failDerate ++ be8 s.water.lastDerate ++ be16 s.water.lastUsable ++ be16 s.water.sumGrants ++
  be16 s.water.roundCount.toNat ++ be16 s.water.skipped ++ be8 (outcomeCode s.water.outcome) ++
  pointersPayload s.water.pointers

/-- The state code of the channel a store names, FFh for NONE. -/
def namedChannelCode (s : State) (m : Option RatioId) : Nat :=
  match m with
  | some i => channelStateCode (s.ratioChannel i).state
  | none => 0xFF

/-- What the last completed steam round wrote for an outlet, from whichever store it was bound to then (R73; log 21). -/
def lastRechargeOf (s : State) (n : OutletId) : Option RechargeRecord :=
  (s.stores.toList.filterMap Store.lastRecharge).find? fun r => decide (r.outlet = n)

/-- What READ STORE shows of the last recharge demand: the one written for the outlet bound to the store now (R73; log 21). -/
def shownRecharge (s : State) (i : StoreId) : List Byte :=
  match (s.rechargeOutletOf i).bind s.lastRechargeOf with
  | some r => be16 r.demand ++ be8 (originCode r.origin)
  | none => be16 0 ++ be8 0

/-- A store record (10 section 10.3). -/
def storePayload (s : State) (i : StoreId) : List Byte :=
  let c := (s.storeRec i).settings
  be8 (optCode c.primary) ++ be8 (optCode c.secondary) ++ sbe16 c.setpoint ++ sbe16 c.lowPoint ++ be8 c.gain ++
  be16 c.fallback ++ be8 s.water.dLow ++ be8 s.water.failDerate ++ storeReadingPayload (s.storeRec i).reading ++
  be8 (s.namedChannelCode c.primary) ++ be8 (s.namedChannelCode c.secondary) ++
  be8 (optCode (s.rechargeOutletOf i)) ++ s.shownRecharge i

/-- The reference channel (10 section 10.3). -/
def referencePayload (r : Reference) : List Byte :=
  be8 (refStateCode r.state) ++ be16 (lastCountValue r.lastCount) ++ be8 (lastCountFlags r.lastCount) ++
  be8 (faultActionCode r.action) ++ be8 (timerSeconds r.hold)

/-- A ratio channel (10 section 10.3). -/
def ratioPayload (c : RatioChannel) : List Byte :=
  be8 (bit (decide (c.state ≠ .disabled))) ++ be8 (channelStateCode c.state) ++ be8 c.strikes ++
  sbe16 (c.reading.getD 0) ++ be8 (bit c.reading.isSome) ++ be8 (bit c.stale) ++
  be16 (lastCountValue c.lastCount) ++ be8 (lastCountFlags c.lastCount) ++ be8 (causeCode c.lastCause) ++ sbe8 c.trim

/-- A pulse channel (10 section 10.3). -/
def pulsePayload (c : PulseChannel) : List Byte :=
  be8 c.weight ++ be16 c.count ++ be8 (bit c.overflow) ++ be24 c.lastFlow ++ be8 (bit c.lastSaturated)

/-- The CONFIG form of READ RIGHTS (R146). -/
def configPayload (c : PortConfig) : List Byte :=
  (c.windows.toList.map windowPayload).flatten ++ be8 (outletRightsCode c.defaultRights) ++
  be8 (globalRightsCode c.globalRights) ++ be16 c.silence

/-- The EFFECTIVE form of READ RIGHTS (R146). -/
def effectivePayload (s : State) (q : Port) : List Byte :=
  ((List.finRange 24).map fun n => BitVec.ofNat 8 (outletRightsCode (s.rights q n))) ++
  be8 (globalRightsCode (s.globals q))

/-! ## The commands -/

/-- IDENTIFY (R141). -/
def doIdentify (s : State) (p : Port) : Answer := reply s (identityPayload p)

/-- READ STATUS (R141). -/
def doReadStatus (s : State) : Answer :=
  reply s (s.ports.toList.map fun u => BitVec.ofNat 8 (linkCode u.link))

/-- READ POOL (R24, R173). -/
def doReadPool (s : State) (pl : List Byte) : Answer :=
  match u8At pl 0, u8At pl 1 with
  | 0, 0 => reply s s.steamPayload
  | 0, k + 1 =>
    match index? 6 k with
    | some b => reply s (branchPayload (s.branch b))
    | none => refuse s .badIndex
  | 1, 0 => reply s s.waterPayload
  | _, _ => refuse s .badIndex

/-- READ STORE (R73). -/
def doReadStore (s : State) (pl : List Byte) : Answer :=
  match index? 2 (u8At pl 0) with
  | some i => reply s (s.storePayload i)
  | none => refuse s .badIndex

/-- READ CHANNEL (R98). -/
def doReadChannel (s : State) (pl : List Byte) : Answer :=
  match channel? (byteAt pl 0) with
  | some .reference => reply s (referencePayload s.reference)
  | some (.ratio m) => reply s (ratioPayload (s.ratioChannel m))
  | some (.pulse f) => reply s (pulsePayload (s.pulseChannel f))
  | none => refuse s .badIndex

/-- READ EVENTS: every flag of the sending port is taken and cleared (R153). -/
def doReadEvents (s : State) (p : Port) : Answer :=
  reply (s.modPort p fun u => { u with flags := .clear }) (s.port p).flags.payload

/-- READ RIGHTS: the port and form first, then ADMIN for another port (R146, R140 step 5; log 16). -/
def doReadRights (s : State) (p : Port) (pl : List Byte) : Answer :=
  match index? 3 (u8At pl 0) with
  | none => refuse s .badIndex
  | some q =>
    if 1 < u8At pl 1 then refuse s .badIndex
    else if q ≠ p ∧ ¬ (s.globals p).admin then refuse s .denied
    else reply s (if u8At pl 1 = 0 then configPayload (s.port q).config else s.effectivePayload q)

end State

end Sys2Proof.Machine
end

