-- ==== Sys2Proof/Machine/Settings.lean ====
section
/-! DEFINITION. The settings that do not wait for the table: posted capacities, stores, channels, branches, event masks and rights windows (R52 to R61, R69, R96, R97, R123, R145, R153). -/

namespace Sys2Proof.Machine

/-- The answer of a POST command that passed its checks, by the first line that applies (R52). -/
def postResult (trip clamped : Bool) : Result := if trip then .tripActive else if clamped then .clamped else .ok

/-- A silence time as SET WINDOW stores it: 1 to 4 becomes 5, above 600 becomes 600, 0 stays (R145). -/
def clampSilence (n : Nat) : Nat := if n = 0 then 0 else clampNat 5 600 n

/-- A base as SET WINDOW stores it: at most 23, then a multiple of the size, and 0 for ALL (R145). -/
def clampBase (size : SizeCode) (base : Nat) : Nat :=
  match size with
  | .all => 0
  | .one | .two | .four | .eight | .sixteen => min base 23 / windowSize size * windowSize size

/-- The settings of a store clamped as SET STORE clamps them (R69). -/
def clampStore (c : StoreSettings) : StoreSettings :=
  let set := clampInt 400 750 c.setpoint
  { c with setpoint := set, lowPoint := clampInt 300 (set - 10) c.lowPoint, gain := clampNat 1 255 c.gain,
           fallback := min c.fallback 4000 }

/-- The silence timer of a port whose silence time is written: a change to 0 stops it, a change from 0 starts it on an ACTIVE link, any other waits for the next reload (R147, R154). -/
def silenceAfter (u : PortUnit) (new : Nat) : Option SilenceTimer :=
  if new = 0 then none
  else if u.config.silence = 0 ∧ u.link = .active then SilenceTimer.load new
  else u.silence

namespace State

/-! ## Posted capacity (R52, R53, R59, R61) -/

/-- POST CAPACITY writes a boiler record; it arms the boiler unless the trip input is asserted (R53). -/
def postBoiler (s : State) (p : Port) (b : BoilerId) (out : Nat) (lapse : Option Nat) : State :=
  s.modBoiler b fun r =>
    { postedKw := min out 8000, armed := !s.tripAsserted b, poster := some p,
      lapseCapacity := match lapse with
        | some v => min v 8000
        | none => r.lapseCapacity }

/-- The second value of a long form, nothing in the short form. -/
def longField (pl : List Byte) (long : Nat) (v : Nat) : Option Nat := if pl.length = long then some v else none

/-- Whether a carried value, if any, lies above a bound. -/
def above (v : Option Nat) (hi : Nat) : Bool := v.any fun n => decide (hi < n)

/-- POST CAPACITY (R52, R53). -/
def doPostCapacity (s : State) (p : Port) (pl : List Byte) : Answer :=
  if ¬ (s.globals p).capacity then refuse s .denied
  else match index? 2 (u8At pl 0) with
    | none => refuse s .badIndex
    | some b =>
      let lapse := longField pl 5 (u16At pl 3)
      { state := s.postBoiler p b (u16At pl 1) lapse,
        result := postResult (s.tripAsserted b) (decide (8000 < u16At pl 1) || above lapse 8000), payload := [] }

/-- POST MARGIN (R52, R59). -/
def doPostMargin (s : State) (p : Port) (pl : List Byte) : Answer :=
  if ¬ (s.globals p).capacity then refuse s .denied
  else
    let m := u8At pl 0
    let f := longField pl 2 (u8At pl 1)
    let s1 := { s with steam :=
      { s.steam with margin := min m 30, lowFraction := (f.map (clampNat 20 100)).getD s.steam.lowFraction } }
    done s1 (decide (30 < m) || f.any fun v => decide (clampNat 20 100 v ≠ v))

/-- POST PUMP FLOW (R52, R61). -/
def doPostPumpFlow (s : State) (p : Port) (pl : List Byte) : Answer :=
  if ¬ (s.globals p).capacity then refuse s .denied
  else
    let v := u16At pl 0
    let l := longField pl 4 (u16At pl 2)
    let s1 := { s with water :=
      { s.water with flow := min v 2000, poster := some p,
                     lapseFlow := (l.map fun n => min n 2000).getD s.water.lapseFlow } }
    done s1 (decide (2000 < v) || above l 2000)

/-! ## SET STORE (R69, R70) -/

/-- The settings of a store are written; a change of its channels forms its reading again (R70). -/
def writeStore (s : State) (i : StoreId) (c : StoreSettings) : State :=
  let old := (s.storeRec i).settings
  s.modStore i fun r =>
    { r with settings := c,
             reading := if old.primary = c.primary ∧ old.secondary = c.secondary then r.reading
                        else s.formReading c }

/-- The settings SET STORE carries for a store, unclamped, with its channels already read. -/
def carriedStore (pl : List Byte) (primary secondary : Option RatioId) : StoreSettings :=
  { primary := primary, secondary := secondary, setpoint := s16At pl 3, lowPoint := s16At pl 5,
    gain := u8At pl 7, fallback := u16At pl 8 }

/-- SET STORE (R69). -/
def doSetStore (s : State) (p : Port) (pl : List Byte) : Answer :=
  if ¬ (s.globals p).store then refuse s .denied
  else match index? 2 (u8At pl 0), optIndex? 6 (byteAt pl 1), optIndex? 6 (byteAt pl 2) with
    | some i, some a, some b =>
      if a.isSome ∧ a = b then refuse s .duplicate
      else
        let raw := carriedStore pl a b
        let d := longField pl 12 (u8At pl 10)
        let f := longField pl 12 (u8At pl 11)
        let s1 := s.writeStore i (clampStore raw)
        let s2 := { s1 with water :=
          { s1.water with dLow := (d.map (clampNat 20 100)).getD s1.water.dLow,
                          failDerate := (f.map fun v => min v 100).getD s1.water.failDerate } }
        done s2 (decide (clampStore raw ≠ raw) || (d.any fun v => decide (clampNat 20 100 v ≠ v)) || above f 100)
    | _, _, _ => refuse s .badIndex

/-! ## SET CHANNEL (R96, R97) -/

/-- The two codes of an enable. -/
def enable? : Byte → Option Bool
  | 0 => some false
  | 1 => some true
  | _ => none

/-- SET CHANNEL (R96). -/
def doSetChannel (s : State) (p : Port) (pl : List Byte) : Answer :=
  if ¬ (s.globals p).admin then refuse s .denied
  else match channel? (byteAt pl 0) with
    | none => refuse s .badIndex
    | some .reference =>
      match faultAction? (byteAt pl 1) with
      | none => refuse s .badIndex
      | some a => if s.engine.state ≠ .standby then refuse s .badState else done (s.setFaultAction a) false
    | some (.ratio m) =>
      match enable? (byteAt pl 1) with
      | none => refuse s .badIndex
      | some e =>
        let t := s8At pl 2
        if s.engine.state ≠ .standby then refuse s .badState
        else done (s.setRatio m e (clampInt (-50) 50 t)) (decide (clampInt (-50) 50 t ≠ t))
    | some (.pulse f) =>
      let w := u8At pl 1
      if s.engine.state ≠ .standby then refuse s .badState
      else done (s.modPulse f fun c => { c with weight := clampNat 1 100 w }) (decide (clampNat 1 100 w ≠ w))

/-! ## SET BRANCH (R123) -/

/-- SET BRANCH (R123). -/
def doSetBranch (s : State) (p : Port) (pl : List Byte) : Answer :=
  if ¬ (s.globals p).admin then refuse s .denied
  else match index? 6 (u8At pl 0) with
    | none => refuse s .badIndex
    | some b =>
      if s.engine.state ≠ .standby then refuse s .badState
      else
        let v := u8At pl 1
        done (s.modBranch b fun r => { r with interval := min v 30 }) (decide (30 < v))

/-! ## MASK EVENTS (R153) -/

/-- MASK EVENTS: bit k masks kind k, bits above kind 18 are ignored (R153, R171). -/
def doMaskEvents (s : State) (p : Port) (pl : List Byte) : Answer :=
  let v := u8At pl 0 * 65536 + u8At pl 1 * 256 + u8At pl 2
  done (s.modPort p fun u => { u with mask := BitVec.ofNat 19 v }) false

/-! ## SET WINDOW (R145, R147) -/

/-- The rights configuration of a port after a write. -/
structure RightsWrite where
  config : PortConfig
  clamped : Bool
  setsSilence : Bool
  deriving DecidableEq, Repr

/-- What SET WINDOW would write into a port's configuration; nothing for an undefined selector, code or right (R145 check 3). -/
def parseWindow (c : PortConfig) (pl : List Byte) : Option RightsWrite :=
  match index? 4 (u8At pl 1) with
  | some w => do
    let size ← size? (byteAt pl 3)
    let filter ← filter? (byteAt pl 4)
    let rights ← outletRights? (byteAt pl 5)
    let base := clampBase size (u8At pl 2)
    let written : Window := { base := base, size := size, filter := filter, rights := rights }
    return { config := { c with windows := c.windows.set w written },
             clamped := decide (base ≠ u8At pl 2), setsSilence := false }
  | none =>
    if u8At pl 1 = 4 then do
      let d ← outletRights? (byteAt pl 2)
      let g ← globalRights? (byteAt pl 3)
      let t := u16At pl 4
      return { config := { c with defaultRights := d, globalRights := g, silence := clampSilence t },
               clamped := decide (clampSilence t ≠ t), setsSilence := true }
    else none

/-- Whether some port would hold ADMIN with one port's configuration replaced (R145 check 5). -/
def adminLeft (s : State) (q : Port) (c : PortConfig) : Bool :=
  (List.finRange 3).any fun r => if r = q then c.globalRights.admin else (s.globals r).admin

/-- A rights configuration is written; the target's silence timer takes a new silence time, at once when the target is the sender (R145, R147; log 30). The link stays as it is, also where a time of 0 is written to a port that is LAPSING or LAPSED (log 38). -/
def writeRights (s : State) (p q : Port) (w : RightsWrite) : State :=
  s.modPort q fun u =>
    { u with config := w.config,
             silence := if ¬ w.setsSilence then u.silence
                        else if p = q then SilenceTimer.load w.config.silence
                        else silenceAfter u w.config.silence }

/-- SET WINDOW (R145). -/
def doSetWindow (s : State) (p : Port) (pl : List Byte) : Answer :=
  if ¬ (s.globals p).admin then refuse s .denied
  else match index? 3 (u8At pl 0) with
    | none => refuse s .badIndex
    | some q =>
      match parseWindow (s.port q).config pl with
      | none => refuse s .badIndex
      | some w =>
        if s.engine.state ≠ .standby then refuse s .badState
        else if ¬ s.adminLeft q w.config then refuse s .denied
        else done (s.writeRights p q w) w.clamped

end State

end Sys2Proof.Machine
end

