-- ==== Sys2Proof/Machine/Image.lean ====
section
/-! DEFINITION. The working configuration as the part holds it, when an image is valid, and how a load clamps it (R164, R165). -/

namespace Sys2Proof.Machine

namespace State

/-- The settings of an outlet as a save takes them: the start condition is ACTIVE for an ACTIVE outlet only (R164). -/
def outletConfig (s : State) (n : OutletId) : OutletConfig :=
  let o := s.outlet n
  { struct := o.struct, limits := o.limits, start := if o.condition = .active then .active else .parked }

/-- The working configuration the part runs on, in the order of R164. -/
def workingConfig (s : State) : WorkingConfig :=
  { outlets := tabulate s.outletConfig, profile := s.profile, margin := s.steam.margin,
    lowFraction := s.steam.lowFraction, lapseCapacity := tabulate fun b => (s.boiler b).lapseCapacity,
    lapseFlow := s.water.lapseFlow, stores := tabulate fun i => (s.storeRec i).settings,
    dLow := s.water.dLow, failDerate := s.water.failDerate, faultAction := s.reference.action,
    ratioEnable := tabulate s.enabled, ratioTrim := tabulate fun m => (s.ratioChannel m).trim,
    pulseWeight := tabulate fun f => (s.pulseChannel f).weight,
    settle := tabulate fun b => (s.branch b).interval, ports := tabulate fun p => (s.port p).config }

/-- Whether a structure keeps a RECHARGE role, a branch or a meter in a pool that does not allow it (R165). -/
def misplaced (st : OutletStructure) : Bool :=
  (isRecharge st.role && decide (st.pool ≠ .steam)) || (st.branch.isSome && decide (st.pool ≠ .steam)) ||
  (st.meter.isSome && decide (st.pool ≠ .water))

/-- Whether an image with its stored check word is taken as valid (R165). Its enumerated fields carry defined codes by their types (log 11). -/
def imageValid (image : WorkingConfig) (check : Option Word) : Bool :=
  let sts := image.outlets.toList.map OutletConfig.struct
  decide (check = some (imageCheck image)) && bindingsSound sts && !sts.any misplaced

/-- Limits clamped to the ranges of a pool (R5, R165; log 18, log 47). -/
def clampLimits (pool : Pool) (l : Limits) : Limits :=
  let ceiling := min l.ceiling (poolMax pool)
  { l with weight := clampNat 1 15 l.weight, floor := min l.floor ceiling, ceiling := ceiling,
           fallback := min l.fallback (poolMax pool), tolerance := clampNat 5 50 l.tolerance }

/-- The settings of an outlet clamped (R165). -/
def clampOutlet (c : OutletConfig) : OutletConfig :=
  { c with struct := clampStructure c.struct, limits := clampLimits c.struct.pool c.limits }

/-- The rights configuration of a port clamped (R145, R165). -/
def clampPort (c : PortConfig) : PortConfig :=
  { c with windows := c.windows.map fun w => { w with base := clampBase w.size w.base },
           silence := clampSilence c.silence }

/-- Every numeric value of a configuration clamped as the command that writes it clamps it (R165). -/
def clampConfig (c : WorkingConfig) : WorkingConfig :=
  { c with
    outlets := c.outlets.map clampOutlet, margin := min c.margin 30, lowFraction := clampNat 20 100 c.lowFraction,
    lapseCapacity := c.lapseCapacity.map fun v => min v 8000, lapseFlow := min c.lapseFlow 2000,
    stores := c.stores.map clampStore, dLow := clampNat 20 100 c.dLow, failDerate := min c.failDerate 100,
    ratioTrim := c.ratioTrim.map (clampInt (-50) 50), pulseWeight := c.pulseWeight.map (clampNat 1 100),
    settle := c.settle.map fun v => min v 30, ports := c.ports.map clampPort }

/-- Whether the stored image is valid. -/
def storedValid (s : State) : Bool := imageValid s.store.image s.store.check

/-- The configuration a load gives: the clamped image, or the built-in defaults in full (R165). -/
def loadedConfig (s : State) : WorkingConfig := if s.storedValid then clampConfig s.store.image else Config.defaults

end State

end Sys2Proof.Machine
end

