-- ==== Sys2Proof/Machine/Resets.lean ====
section
/-! DEFINITION. The resets: ENGINE RESET, TABLE RESET, power-on and the reset line, and the end of a load (R23, R25, R51, R68, R99, R136, R154, R168 to R170). -/

namespace Sys2Proof.Machine

namespace State

/-! ## ENGINE RESET and TABLE RESET -/

/-- Whether a port unit holds the table for a command. -/
def portHolds (s : State) : Bool := s.arbiter.holder.any Requester.isPort

/-- The holders a reset turns out: a round and the self-test (R169, R170 step 1). -/
def abandoned : Option Requester → Bool
  | some .spe | some .wpe | some .selfTest => true
  | some (.port _) | some .store | none => false

/-- Step 1: a round or self-test holding the table is abandoned, a self-test waiting for it too; waiting round requests and an engine-state write are dropped (R169, R170). The holder of what is abandoned stays the last holder, as its hand-over wrote it (log 48). No earlier reset is deferred any more, since this one takes its place (log 49). -/
def abandonHolds (s : State) : State :=
  let s1 := s.withdrawRequests.modArbiter fun a =>
    { a with engineWrite := .none, deferred := .none, holder := if abandoned a.holder then none else a.holder }
  if s1.engine.op = .selfTest then s1.modEngine fun e => { e with op := .none, opLeft := 0 } else s1

/-- Steps 2 and 3: cause, STANDBY, round timers stopped, the safe pattern of STANDBY at once (R169, R170, R136). -/
def resetEngineState (s : State) (cause : ResetCause) : State :=
  ((s.modEngine fun e => { e with cause := cause }).setEngine .standby).stopRounds.resetDrive

/-- The record of an outlet after an ENGINE RESET: grant 0, IDLE, a sense ended without a result (R23). -/
def resetRecord (o : Outlet) : Outlet :=
  { o with grant := 0, status := .idle, condition := priorOf o.condition }

/-- The channel's copies after an ENGINE RESET, with its pending writes dropped (R23, R136). Where the step waited for a port's release, a write raised after the reset was taken is dropped with them (log 42). -/
def resetCopies (o : Outlet) (c : Channel) : Channel :=
  Channel.setCondition
    { c with grant := 0, trim := o.trim, ceiling := o.limits.ceiling, pendingAbsence := false,
             pendingSenseEnd := false } o.condition

/-- Step 4: grants 0, statuses IDLE, senses ended, the burst list emptied with RESET notices (R169, R23, R114). -/
def resetRecords (s : State) : State :=
  let s1 := s.mapOutlets fun _ o => resetRecord o
  let s2 := s1.mapChannels fun n c => resetCopies (s1.outlet n) c
  s2.emptyBursts

/-- ENGINE RESET is carried out; with a port holding the table steps 1 and 4 wait for its release (R169). The abort of a waiting self-test belongs to step 1, so the operation in progress stays SELF_TEST, with busy shown, until that release (log 43). -/
def runEngineReset (s : State) : State :=
  if s.portHolds then
    (s.resetEngineState .engineReset).modArbiter fun a => { a with deferred := .engine }
  else (s.abandonHolds.resetEngineState .engineReset).resetRecords

/-- Steps 1 and 4 of an ENGINE RESET at the release of a port (R169), which meet what waits at that moment (log 42). -/
def finishEngineReset (s : State) : State :=
  s.releasePort.abandonHolds.resetRecords

/-- A pending lapse is dropped, its port LAPSED (R148, R170). -/
def dropLapses (s : State) : State :=
  s.mapPorts fun _ u => if u.link = .lapsing then { u with link := .lapsed } else u

/-- Steps 3 and 4 of a TABLE RESET: the burst list emptied, lapses dropped, the store takes the table for the load (R170). The drive grants are 0 from the reset on, whatever grant of a record the emptying lowers (R136). -/
def startTableLoad (s : State) : State :=
  let s1 := s.emptyBursts.zeroDriveGrants.dropLapses
  (s1.modArbiter fun a => { a with holder := some .store, lastHolder := .store }).modEngine
    fun e => { e with op := .load, opLeft := 100 }

/-- Step 2 of a TABLE RESET, which also sets the operation to LOAD (R170). -/
def enterTableReset (s : State) : State :=
  (s.resetEngineState .tableReset).modEngine fun e => { e with op := .load, opLeft := 100 }

/-- TABLE RESET is carried out; with a port holding the table steps 1, 3 and 4 wait for its release (R170). -/
def runTableReset (s : State) : State :=
  if s.portHolds then s.enterTableReset.modArbiter fun a => { a with deferred := .table }
  else s.abandonHolds.enterTableReset.startTableLoad

/-- Steps 1, 3 and 4 of a TABLE RESET at the release of a port (R170). -/
def finishTableReset (s : State) : State :=
  s.releasePort.abandonHolds.startTableLoad

/-! ## Power-on and the reset line (R168 step 1) -/

/-- The part at the end of a power-on reset or reset line: everything at its reset value, the image kept, the load, the scan and the establishment of the inputs beginning, the outputs at neither level. CONFIG_DEFAULTED keeps its value until the load ends (R165, R168). -/
def powerUp (s : State) (cause : ResetCause) : State :=
  { State.reset with
    arbiter := { State.reset.arbiter with holder := some .store }
    scan := { slot := .reference, gateLeft := 100 }
    inputs := { trip0 := .establishing 100 s.inputs.trip0.low, trip1 := .establishing 100 s.inputs.trip1.low,
                lowpr := .establishing 100 s.inputs.lowpr.low,
                lockout := .establishing 100 s.inputs.lockout.low }
    channels := State.reset.channels.map fun c => { c with output := .neither }
    engine := { state := .standby, op := .load, opLeft := 100, cause := cause,
                defaulted := s.engine.defaulted, starting := true }
    store := { image := s.store.image, check := s.store.check, saving := none }
    pending := s.pending }

/-! ## The end of a load -/

/-- The load has ended: the operation is none, CONFIG_DEFAULTED is written, the store releases the table as last holder (R165, R168, R170). -/
def endLoad (s : State) (defaulted : Bool) : State :=
  (s.modArbiter fun a => { a with holder := none, lastHolder := .store }).modEngine
    fun e => { e with op := .none, opLeft := 0, defaulted := defaulted, starting := false }

/-- The end of the load of the power-on sequence: every block takes its values from the configuration, the channels begin a period in the safe pattern, the receivers are IDLE and the silence timers loaded (R168 step 3). The pulse windows keep what they counted during the load (log 35). -/
def startupValues (s : State) (c : WorkingConfig) : State :=
  { s with
    outlets := tabulate fun n => Outlet.ofConfig c.outlets[n]
    profile := c.profile
    steam := { SteamPool.ofConfig c with lowpr := s.steam.lowpr }
    water := WaterPool.ofConfig c
    stores := tabulate fun i => Store.ofSettings c.stores[i]
    reference := { s.reference with action := c.faultAction }
    ratio := tabulate fun m => RatioChannel.ofConfig c.ratioEnable[m] c.ratioTrim[m]
    pulse := tabulate fun f => { s.pulse[f] with weight := c.pulseWeight[f] }
    channels := tabulate fun n => resetChannel (Channel.ofOutlet (Outlet.ofConfig c.outlets[n]))
    branches := tabulate fun b => { interval := c.settle[b], timer := none, queue := [] }
    ports := tabulate fun p =>
      { s.ports[p] with receiver := .idle, outstanding := none, config := c.ports[p], link := .active,
                        silence := SilenceTimer.load c.ports[p].silence } }

/-- A drive channel at the end of the load of a TABLE RESET: the reloaded structure and its safe pattern at once, in the period that runs (R136, R170; log 28). -/
def reloadChannel (inSafe : Bool) (o : Outlet) (c : Channel) : Channel :=
  let c1 := Channel.setCondition
    { c with grant := 0, trim := o.trim, ceiling := o.limits.ceiling, copy := o.struct, inUse := o.struct,
             phase := .safePattern, dwellLeft := 0, pendingAbsence := false, override := none, finding := none,
             holdLeft := none, testTick := 0, heldDuty := 0, pendingSenseEnd := false } o.condition
  let d := c1.patternDuty c1.inUse inSafe
  { c1 with applied := d, output := outputOf d }

/-- Every channel takes its reloaded structure; an output turned off by it is a close of the branch in use before it (R136; log 46). -/
def reloadDrive (s : State) : State :=
  (s.forOutlets fun n t =>
    let t1 := t.modChannel n (reloadChannel (t.engine.state = .safe) (t.outlet n))
    if (t.channel n).applied ≠ 0 ∧ (t1.channel n).applied = 0 then
      t1.restartSettle (t.channel n).inUse.branch
    else t1).mapBranches fun _ r => { r with queue := [] }

/-- The channel settings reloaded at a TABLE RESET take effect by R97: the fault action first, then the ratio channels M0 to M5 one by one, then the pulse weights (log 34). -/
def reloadMeasure (s : State) (c : WorkingConfig) : State :=
  let s1 := s.setFaultAction c.faultAction
  let s2 := (List.finRange 6).foldl (fun t m => t.setRatio m c.ratioEnable[m] c.ratioTrim[m]) s1
  s2.mapPulse fun f p => { p with weight := c.pulseWeight[f] }

/-- The rights and silence time of a port reloaded at a TABLE RESET (R154). -/
def reloadPort (c : PortConfig) (u : PortUnit) : PortUnit :=
  { u with config := c, silence := silenceAfter u c.silence }

/-- The values a TABLE RESET takes at the end of its load (R23, R25, R51, R68, R99, R123, R154, R170). -/
def tableResetValues (s : State) (c : WorkingConfig) : State :=
  let s1 :=
    { s with
      outlets := tabulate fun n => Outlet.ofConfig c.outlets[n]
      profile := c.profile
      steam := { SteamPool.ofConfig c with lowpr := s.inputs.lowpr.asserted }
      water := WaterPool.ofConfig c
      stores := tabulate fun i => { settings := c.stores[i], reading := .notValid, lastRecharge := none }
      branches := tabulate fun b => { s.branches[b] with interval := c.settle[b] }
      ports := tabulate fun p => reloadPort c.ports[p] s.ports[p] }
  (s1.modArbiter fun a => { a with removals := [] }).reloadDrive.reloadMeasure c |>.reformAll

/-- The load ends: after power-on or the reset line without an event, after a TABLE RESET with CONFIG_DONE (R168, R170). -/
def finishLoad (s : State) : State :=
  let valid := s.storedValid
  let c := s.loadedConfig
  if s.engine.starting then (s.startupValues c).endLoad (!valid)
  else
    ((s.tableResetValues c).postAll (.configDone (if valid then .loaded else .defaulted))).endLoad (!valid)

end State

end Sys2Proof.Machine
end

