-- ==== Sys2Proof/Machine/EngineCommands.lean ====
section
/-! DEFINITION. The engine commands and SERVICE DRIVE (R135, R155 to R161, R166, R169, R170). -/

namespace Sys2Proof.Machine

namespace State

/-- The states an engine command is taken from (R155). -/
def engineTakenFrom : Code → EngineState → Bool
  | .engineStart, e => decide (e = .standby)
  | .engineStop, e => decide (e = .run) || decide (e = .service)
  | .serviceEnter, e => decide (e = .run)
  | .serviceLeave, e => decide (e = .service)
  | .testTable, e => decide (e ≠ .safe)
  | .saveConfig, e => decide (e = .standby)
  | _, _ => true

/-- Whether an engine command finds an operation in progress that makes it answer BUSY (R155 check 3). -/
def engineBusy (op : Operation) (c : Code) : Bool :=
  match op with
  | .none => false
  | .save | .load => true
  | .selfTest => decide (c = .testTable) || decide (c = .saveConfig)

/-- The checks of an engine command after its length (R155). -/
def checkEngine (s : State) (c : Code) (p : Port) : Option Result :=
  if ¬ (s.globals p).admin then some .denied
  else if engineBusy s.engine.op c then some .busy
  else if ¬ engineTakenFrom c s.engine.state then some .badState
  else none

/-- ENGINE START: RUN, both round timers loaded with 2.0 s, the channels out of the safe pattern (R156, R133). -/
def runEngineStart (s : State) : State :=
  let s1 := s.setEngine .run
  { s1 with steam := { s1.steam with timer := some 2000 },
            water := { s1.water with timer := some 2000, firstRound := true } }.mapChannels fun _ c => leavePattern c

/-- ENGINE STOP: STANDBY, round timers stopped, the safe pattern, the engine-state write (R158). -/
def runEngineStop (s : State) : State :=
  ((s.setEngine .standby).stopRounds.enterPatternAll).raiseEngineWrite .grants

/-- SERVICE ENTER: SERVICE, waiting round requests withdrawn; the frozen timers keep their time (R159). -/
def runServiceEnter (s : State) : State := (s.setEngine .service).withdrawRequests

/-- SERVICE LEAVE: RUN, the frozen timers run on, every override removed (R156, R134). -/
def runServiceLeave (s : State) : State :=
  let s1 := s.setEngine .run
  { s1 with water := { s1.water with firstRound := true } }.mapChannels fun _ c => leaveService c

/-- TEST TABLE: the operation is SELF_TEST and the self-test asks for the table (R161). -/
def runTestTable (s : State) : State := s.modEngine fun e => { e with op := .selfTest, opLeft := 400 }

/-- SAVE CONFIG: the operation is SAVE and the store asks for the table (R166). -/
def runSaveConfig (s : State) : State := s.modEngine fun e => { e with op := .save, opLeft := 250 }

/-- An engine command that passed its checks answers OK. -/
def engineOk (s : State) (c : Code) (p : Port) (f : State → State) : Answer :=
  match s.checkEngine c p with
  | some r => refuse s r
  | none => done (f s) false

/-- An engine command that passed its checks starts an operation and answers ACCEPTED. -/
def engineAccepted (s : State) (c : Code) (p : Port) (f : State → State) : Answer :=
  match s.checkEngine c p with
  | some r => refuse s r
  | none => { state := f s, result := .accepted, payload := [] }

/-! ## SERVICE DRIVE (R135) -/

/-- Checks 4 to 6 of SERVICE DRIVE (R135). -/
def serviceRefusal (s : State) (n : OutletId) : Option Result :=
  if s.engine.state ≠ .service then some .badState
  else if (s.outlet n).struct.pool = .unused then some .badIndex
  else if (s.channel n).condition ≠ .active ∨ (s.channel n).pendingAbsence then some .badState
  else none

/-- SERVICE DRIVE, SET: the duty becomes the override, clamped to the period of the structure copy (R135). -/
def driveSet (s : State) (n : OutletId) (v : Nat) : Answer :=
  let period := (s.channel n).copy.period
  done (s.modChannel n fun c => { c with override := some (min v period) }) (decide (period < v))

/-- SERVICE DRIVE, RELEASE: the override is removed (R135). -/
def driveRelease (s : State) (n : OutletId) : Answer := done (s.modChannel n fun c => { c with override := none }) false

/-- SERVICE DRIVE (R135). -/
def doServiceDrive (s : State) (p : Port) (pl : List Byte) : Answer :=
  if ¬ (s.globals p).admin then refuse s .denied
  else match outletArg pl with
    | none => refuse s .badIndex
    | some n =>
      if 1 < u8At pl 1 then refuse s .badIndex
      else match s.serviceRefusal n with
        | some r => refuse s r
        | none => if u8At pl 1 = 0 then s.driveSet n (u16At pl 2) else s.driveRelease n

/-! ## Carrying out a command that does not wait for the table -/

/-- A command that is no table command is carried out at once (R140 step 6). Table commands do nothing here. -/
def runDirect (s : State) (c : Code) (p : Port) (pl : List Byte) : Answer :=
  match c with
  | .identify => s.doIdentify p
  | .readStatus => s.doReadStatus
  | .readPool => s.doReadPool pl
  | .readStore => s.doReadStore pl
  | .readChannel => s.doReadChannel pl
  | .readEvents => s.doReadEvents p
  | .readRights => s.doReadRights p pl
  | .postCapacity => s.doPostCapacity p pl
  | .postMargin => s.doPostMargin p pl
  | .postPumpFlow => s.doPostPumpFlow p pl
  | .setStore => s.doSetStore p pl
  | .setChannel => s.doSetChannel p pl
  | .setBranch => s.doSetBranch p pl
  | .maskEvents => s.doMaskEvents p pl
  | .setWindow => s.doSetWindow p pl
  | .engineStart => s.engineOk c p runEngineStart
  | .engineStop => s.engineOk c p runEngineStop
  | .serviceEnter => s.engineOk c p runServiceEnter
  | .serviceLeave => s.engineOk c p runServiceLeave
  | .serviceDrive => s.doServiceDrive p pl
  | .engineReset => s.engineOk c p runEngineReset
  | .tableReset => s.engineAccepted c p runTableReset
  | .testTable => s.engineAccepted c p runTestTable
  | .saveConfig => s.engineAccepted c p runSaveConfig
  | .readOutlet | .readBursts | .setDemand | .setLimits | .setOutletConfig | .parkOutlet | .unparkOutlet
  | .clearAbsent | .senseStart | .senseEnd | .requestBurst | .endBurst | .setProfile => refuse s .unknown

end State

end Sys2Proof.Machine
end

