-- ==== Sys2Proof/Machine/Ports.lean ====
section
/-! DEFINITION. The port units: the receiver, the taking of a good frame, the way of a command to its response, and the lease (chapter 8). -/

namespace Sys2Proof.Machine

namespace State

/-! ## The lease (R147 to R150) -/

/-- A port's silence timer is reloaded with its silence time (R147). -/
def reloadSilence (s : State) (p : Port) : State :=
  s.modPort p fun u => { u with silence := SilenceTimer.load u.config.silence }

/-- Whether a good frame taken now revives the port (R150). -/
def revives (s : State) (p : Port) : Bool := decide ((s.port p).link = .lapsed)

/-- A LAPSED link becomes ACTIVE (R140 step 2, R150). -/
def revive (s : State) (p : Port) : State :=
  s.modPort p fun u => { u with link := if u.link = .lapsed then .active else u.link }

/-- The boilers and the pump flow a lapsing port posted take their lapse values, with one CAPACITY_CHANGE if there were any (R62). -/
def lapseCapacity (s : State) (p : Port) : State :=
  let hit := decide ((s.boiler 0).poster = some p) || decide ((s.boiler 1).poster = some p) ||
    decide (s.water.poster = some p)
  let drop := fun (r : Boiler) =>
    if r.poster = some p then { r with postedKw := r.lapseCapacity, poster := none } else r
  let s1 := { s with
    steam := { s.steam with boilers := s.steam.boilers.map drop }
    water := if s.water.poster = some p then { s.water with flow := s.water.lapseFlow, poster := none } else s.water }
  if hit then s1.postAll .capacityChange else s1

/-- Whether a port's silence timer runs: not stopped, the link ACTIVE, the engine not in SERVICE (R147). -/
def silenceRuns (s : State) (p : Port) : Bool :=
  (s.port p).silence.isSome && decide ((s.port p).link = .active) && decide (s.engine.state ≠ .service)

/-! ## Responses (R139, R141, R172) -/

/-- The response of a command is formed, with the status word as the part now stands (R139, R141). -/
def answer (s : State) (p : Port) (code : Byte) (revived : Bool) (r : Result) (pl : List Byte) : State :=
  let r : Response := { code := code, result := r, status := s.statusWord p revived, payload := pl }
  s.modPort p fun u => { u with outstanding := some (.answered r false) }

/-- The answer a command gave is made its response. -/
def respond (a : Answer) (p : Port) (code : Byte) (revived : Bool) : State :=
  a.state.answer p code revived a.result a.payload

/-! ## Table commands at the arbiter (R20, R21) -/

/-- A requester becomes the holder of the table and, from then on, the last holder (R20; log 7), and it stays so where an ENGINE RESET abandons its hold (R169; log 48). -/
def hold (s : State) (r : Requester) : State :=
  s.modArbiter fun a => { a with holder := some r, lastHolder := r }

/-- A port is handed the table: its waiting command is carried out and its response formed (R20), also where the port has lapsed since the command was taken (log 44). -/
def serve (s : State) (p : Port) : State :=
  match (s.port p).outstanding with
  | some (.waiting code pl revived) =>
    let s1 := s.hold (.port p)
    match Code.ofByte code with
    | some c => respond (s1.runTable c p pl) p code revived
    | none => s1.answer p code revived .unknown []
  | some (.held _ _) | some (.answered _ _) | none => s

/-- A table command that has passed its checks asks for the table, and is handed it at once when it is free and the rotation comes to this port first (R20, R140 step 6). -/
def askTable (s : State) (p : Port) (code : Byte) (pl : List Byte) (revived : Bool) : State :=
  let s1 := s.modPort p fun u => { u with outstanding := some (.waiting code pl revived) }
  if s1.tableFree && decide (s1.nextRequester = some (.port p)) then s1.serve p else s1

/-! ## Good frames (R138 to R140, R148) -/

/-- A defined command with an accepted length is checked and carried out, or waits for the table (R140 steps 5 and 6). -/
def takeCommand (s : State) (p : Port) (c : Code) (pl : List Byte) (revived : Bool) : State :=
  if c.isTable then
    match s.checkTable c p pl with
    | some r => s.answer p c.byte revived r []
    | none => s.askTable p c.byte pl revived
  else respond (s.runDirect c p pl) p c.byte revived

/-- A good frame is taken (R140). -/
def takeFrame (s : State) (p : Port) (code : Byte) (pl : List Byte) : State :=
  let revived := s.revives p
  let s1 := (s.reloadSilence p).revive p
  match Code.ofByte code with
  | none => s1.answer p code revived .unknown []
  | some c => if c.lengthOk pl then s1.takeCommand p c pl revived else s1.answer p code revived .badLength []

/-- The frame a port holds for a lapse that is no longer pending is taken (R148). -/
def takeHeldOf (s : State) (p : Port) : State :=
  match (s.port p).outstanding with
  | some (.held code pl) =>
    if (s.port p).link = .lapsing then s
    else (s.modPort p fun u => { u with outstanding := none }).takeFrame p code pl
  | some (.waiting _ _ _) | some (.answered _ _) | none => s

/-- Frames held for lapses that are no longer pending are taken, port by port (R148). -/
def takeHeldOnce (s : State) : State := s.forPorts fun p t => t.takeHeldOf p

/-- Held frames are taken; a TABLE RESET among them drops other lapses, so the ports are gone through twice (log 24). -/
def takeHeld (s : State) : State := s.takeHeldOnce.takeHeldOnce

/-- A good frame that finds a command of its port outstanding: discarded, OVERRUN posted, the timer reloaded (R139, R147). -/
def overrun (s : State) (p : Port) : State := (s.postTo p .overrun).reloadSilence p

/-- Whether a port is transmitting a response, when its receiver takes no bytes (R137). -/
def transmitting (s : State) (p : Port) : Bool :=
  match (s.port p).outstanding with
  | some (.answered _ t) => t
  | some (.held _ _) | some (.waiting _ _ _) | none => false

/-- A good frame completes at a port (R138 to R140, R148). A TABLE RESET drops pending lapses, so frames held for them are taken after it (log 24). No frame completes while the power-on sequence runs or the port transmits (R137, R168; log 25). -/
def goodFrame (s : State) (p : Port) (code : Byte) (pl : List Byte) : State :=
  if s.engine.starting || s.transmitting p then s
  else
    let s1 := s.modPort p fun u => { u with receiver := .idle }
    match (s.port p).outstanding, (s.port p).link with
    | some _, _ => s1.overrun p
    | none, .lapsing => s1.modPort p fun u => { u with outstanding := some (.held code pl) }
    | none, .active | none, .lapsed =>
      let s2 := s1.takeFrame p code pl
      if code = Code.tableReset.byte then s2.takeHeld else s2

/-- A good frame of a defined command completes at a port. -/
def frameOf (s : State) (p : Port) (c : Code) (pl : List Byte) : State := s.goodFrame p c.byte pl

/-! ## The receiver (R137, R138) -/

/-- FRAME_ERROR is posted and the receiver goes to a state (R137). -/
def frameError (s : State) (p : Port) (r : Receiver) : State :=
  (s.postTo p .frameError).modPort p fun u => { u with receiver := r }

/-- The bytes a frame has after its start byte, from its length byte: code, payload and CRC follow (R137). -/
def frameLength (bytes : List Byte) : Nat := u8At bytes 0 + 4

/-- A complete frame is judged by its CRC: a good frame is handed on, another is discarded with FRAME_ERROR (R138). -/
def judgeFrame (s : State) (p : Port) (bytes : List Byte) : State :=
  let n := u8At bytes 0
  let body := bytes.take (n + 2)
  if (crc body).toNat = u16At bytes (n + 2) then s.goodFrame p (byteAt bytes 1) (body.drop 2)
  else s.frameError p .idle

/-- A byte inside a frame (R137). -/
def frameByte (s : State) (p : Port) (bytes : List Byte) (b : Byte) : State :=
  let bytes' := bytes ++ [b]
  let kept := s.modPort p fun u => { u with receiver := .inFrame bytes' }
  if bytes = [] then if 32 < b.toNat then s.frameError p .discard else kept
  else if bytes'.length = frameLength bytes' then
    (s.modPort p fun u => { u with receiver := .idle }).judgeFrame p bytes'
  else kept

/-- A byte is received (R137). -/
def takeByte (s : State) (p : Port) (b : Byte) (stopBit : Bool) : State :=
  if s.engine.starting || s.transmitting p then s
  else
    let s1 := s.modPort p fun u => { u with quiet := 0 }
    match (s.port p).receiver with
    | .idle => if b = 0xA5 ∧ stopBit then s1.modPort p fun u => { u with receiver := .inFrame [] } else s1
    | .inFrame bytes => if stopBit then s1.frameByte p bytes b else s1.frameError p .discard
    | .discard => s1

/-- The last byte of the response has gone: nothing is outstanding, the receiver is IDLE, and a hold of the table by the port is over (R139, R20; log 6). -/
def sentResponse (s : State) (p : Port) : State :=
  match (s.port p).outstanding with
  | some (.answered _ _) =>
    let s1 := s.modPort p fun u => { u with outstanding := none, receiver := .idle, quiet := 0 }
    if s1.arbiter.holder = some (.port p) then s1.modArbiter fun a => { a with holder := none } else s1
  | some (.held _ _) | some (.waiting _ _ _) | none => s

end State

end Sys2Proof.Machine
end

