-- ==== Sys2Proof/Machine/PortCommands.lean ====
section
/-! DEFINITION. The framed commands, one meaning each: a good frame of the command's code completes at a port, and what it does stands in the operation of the command (R140). -/

namespace Sys2Proof.Machine

/-- IDENTIFY (R141). -/
def execIdentify (p : Port) (payload : List Byte) (s : State) : Host.Outcome State Fault Refusal :=
  .next (s.frameOf p .identify payload)

/-- READ STATUS (R141). -/
def execReadStatus (p : Port) (payload : List Byte) (s : State) : Host.Outcome State Fault Refusal :=
  .next (s.frameOf p .readStatus payload)

/-- READ OUTLET (R1, R173). -/
def execReadOutlet (p : Port) (payload : List Byte) (s : State) : Host.Outcome State Fault Refusal :=
  .next (s.frameOf p .readOutlet payload)

/-- READ POOL (R24, R173). -/
def execReadPool (p : Port) (payload : List Byte) (s : State) : Host.Outcome State Fault Refusal :=
  .next (s.frameOf p .readPool payload)

/-- READ STORE (R73). -/
def execReadStore (p : Port) (payload : List Byte) (s : State) : Host.Outcome State Fault Refusal :=
  .next (s.frameOf p .readStore payload)

/-- READ CHANNEL (R98). -/
def execReadChannel (p : Port) (payload : List Byte) (s : State) : Host.Outcome State Fault Refusal :=
  .next (s.frameOf p .readChannel payload)

/-- READ BURSTS (R101, R174). -/
def execReadBursts (p : Port) (payload : List Byte) (s : State) : Host.Outcome State Fault Refusal :=
  .next (s.frameOf p .readBursts payload)

/-- READ EVENTS (R153). -/
def execReadEvents (p : Port) (payload : List Byte) (s : State) : Host.Outcome State Fault Refusal :=
  .next (s.frameOf p .readEvents payload)

/-- READ RIGHTS (R146). -/
def execReadRights (p : Port) (payload : List Byte) (s : State) : Host.Outcome State Fault Refusal :=
  .next (s.frameOf p .readRights payload)

/-- SET DEMAND (R8, R10). -/
def execSetDemand (p : Port) (payload : List Byte) (s : State) : Host.Outcome State Fault Refusal :=
  .next (s.frameOf p .setDemand payload)

/-- SET LIMITS (R5, R6). -/
def execSetLimits (p : Port) (payload : List Byte) (s : State) : Host.Outcome State Fault Refusal :=
  .next (s.frameOf p .setLimits payload)

/-- SET OUTLET CONFIG (R2 to R4). -/
def execSetOutletConfig (p : Port) (payload : List Byte) (s : State) : Host.Outcome State Fault Refusal :=
  .next (s.frameOf p .setOutletConfig payload)

/-- PARK OUTLET (R13). -/
def execParkOutlet (p : Port) (payload : List Byte) (s : State) : Host.Outcome State Fault Refusal :=
  .next (s.frameOf p .parkOutlet payload)

/-- UNPARK OUTLET (R14). -/
def execUnparkOutlet (p : Port) (payload : List Byte) (s : State) : Host.Outcome State Fault Refusal :=
  .next (s.frameOf p .unparkOutlet payload)

/-- CLEAR ABSENT (R16). -/
def execClearAbsent (p : Port) (payload : List Byte) (s : State) : Host.Outcome State Fault Refusal :=
  .next (s.frameOf p .clearAbsent payload)

/-- SENSE START (R17, R129). -/
def execSenseStart (p : Port) (payload : List Byte) (s : State) : Host.Outcome State Fault Refusal :=
  .next (s.frameOf p .senseStart payload)

/-- SENSE END (R18, R130). -/
def execSenseEnd (p : Port) (payload : List Byte) (s : State) : Host.Outcome State Fault Refusal :=
  .next (s.frameOf p .senseEnd payload)

/-- REQUEST BURST (R102, R103). -/
def execRequestBurst (p : Port) (payload : List Byte) (s : State) : Host.Outcome State Fault Refusal :=
  .next (s.frameOf p .requestBurst payload)

/-- END BURST (R110). -/
def execEndBurst (p : Port) (payload : List Byte) (s : State) : Host.Outcome State Fault Refusal :=
  .next (s.frameOf p .endBurst payload)

/-- POST CAPACITY (R52, R53). -/
def execPostCapacity (p : Port) (payload : List Byte) (s : State) : Host.Outcome State Fault Refusal :=
  .next (s.frameOf p .postCapacity payload)

/-- POST MARGIN (R52, R59). -/
def execPostMargin (p : Port) (payload : List Byte) (s : State) : Host.Outcome State Fault Refusal :=
  .next (s.frameOf p .postMargin payload)

/-- POST PUMP FLOW (R52, R61). -/
def execPostPumpFlow (p : Port) (payload : List Byte) (s : State) : Host.Outcome State Fault Refusal :=
  .next (s.frameOf p .postPumpFlow payload)

/-- SET PROFILE (R19). -/
def execSetProfile (p : Port) (payload : List Byte) (s : State) : Host.Outcome State Fault Refusal :=
  .next (s.frameOf p .setProfile payload)

/-- SET STORE (R69, R70). -/
def execSetStore (p : Port) (payload : List Byte) (s : State) : Host.Outcome State Fault Refusal :=
  .next (s.frameOf p .setStore payload)

/-- SET CHANNEL (R96, R97). -/
def execSetChannel (p : Port) (payload : List Byte) (s : State) : Host.Outcome State Fault Refusal :=
  .next (s.frameOf p .setChannel payload)

/-- SET BRANCH (R123). -/
def execSetBranch (p : Port) (payload : List Byte) (s : State) : Host.Outcome State Fault Refusal :=
  .next (s.frameOf p .setBranch payload)

/-- MASK EVENTS (R153). -/
def execMaskEvents (p : Port) (payload : List Byte) (s : State) : Host.Outcome State Fault Refusal :=
  .next (s.frameOf p .maskEvents payload)

/-- SET WINDOW (R145). -/
def execSetWindow (p : Port) (payload : List Byte) (s : State) : Host.Outcome State Fault Refusal :=
  .next (s.frameOf p .setWindow payload)

/-- ENGINE START (R155, R156). -/
def execEngineStart (p : Port) (payload : List Byte) (s : State) : Host.Outcome State Fault Refusal :=
  .next (s.frameOf p .engineStart payload)

/-- ENGINE STOP (R155, R158). -/
def execEngineStop (p : Port) (payload : List Byte) (s : State) : Host.Outcome State Fault Refusal :=
  .next (s.frameOf p .engineStop payload)

/-- SERVICE ENTER (R155, R159). -/
def execServiceEnter (p : Port) (payload : List Byte) (s : State) : Host.Outcome State Fault Refusal :=
  .next (s.frameOf p .serviceEnter payload)

/-- SERVICE LEAVE (R155, R156). -/
def execServiceLeave (p : Port) (payload : List Byte) (s : State) : Host.Outcome State Fault Refusal :=
  .next (s.frameOf p .serviceLeave payload)

/-- SERVICE DRIVE with form SET (R135). -/
def execServiceDriveSet (p : Port) (payload : List Byte) (s : State) : Host.Outcome State Fault Refusal :=
  .next (s.frameOf p .serviceDrive payload)

/-- SERVICE DRIVE with form RELEASE (R135). -/
def execServiceDriveRelease (p : Port) (payload : List Byte) (s : State) : Host.Outcome State Fault Refusal :=
  .next (s.frameOf p .serviceDrive payload)

/-- ENGINE RESET (R155, R169). -/
def execEngineReset (p : Port) (payload : List Byte) (s : State) : Host.Outcome State Fault Refusal :=
  .next (s.frameOf p .engineReset payload)

/-- TABLE RESET (R155, R170). -/
def execTableReset (p : Port) (payload : List Byte) (s : State) : Host.Outcome State Fault Refusal :=
  .next (s.frameOf p .tableReset payload)

/-- TEST TABLE (R155, R161). -/
def execTestTable (p : Port) (payload : List Byte) (s : State) : Host.Outcome State Fault Refusal :=
  .next (s.frameOf p .testTable payload)

/-- SAVE CONFIG (R155, R166). -/
def execSaveConfig (p : Port) (payload : List Byte) (s : State) : Host.Outcome State Fault Refusal :=
  .next (s.frameOf p .saveConfig payload)

end Sys2Proof.Machine
end

