-- ==== Sys2Proof/Machine/PortEvents.lean ====
section
/-! DEFINITION. What happens at the port units beside the framed commands: undefined codes, overruns, bytes and line events, the end of a response, and the lease (R137 to R150). -/

namespace Sys2Proof.Machine

/-- UNKNOWN_COMMAND: a good frame with an undefined command code (R140). -/
def execUnknownCommand (p : Port) (code : Byte) (payload : List Byte) (s : State) :
    Host.Outcome State Fault Refusal :=
  .next (s.goodFrame p code payload)

/-- OVERRUN: a good frame completes while a command of the port is outstanding (R139). The row leaves the receiver as it stands (log 37). -/
def execOverrun (p : Port) (s : State) : Host.Outcome State Fault Refusal :=
  .next (if s.engine.starting || s.transmitting p || (s.port p).outstanding.isNone then s else s.overrun p)

/-- RECEIVE_BYTE (R137, R138). -/
def execReceiveByte (p : Port) (b : Byte) (stopBit : Bool) (s : State) : Host.Outcome State Fault Refusal :=
  .next (s.takeByte p b stopBit)

/-- INTER_BYTE_TIMEOUT: the partial frame is abandoned with FRAME_ERROR (R137). -/
def execInterByteTimeout (p : Port) (s : State) : Host.Outcome State Fault Refusal :=
  .next (match (s.port p).receiver with
    | .inFrame _ => s.frameError p .idle
    | .idle | .discard => s)

/-- DISCARD_QUIET_EXPIRY: the receiver returns to IDLE (R137). -/
def execDiscardQuietExpiry (p : Port) (s : State) : Host.Outcome State Fault Refusal :=
  .next (if (s.port p).receiver = .discard then s.modPort p fun u => { u with receiver := .idle } else s)

/-- RESPONSE_SENT (R139). -/
def execResponseSent (p : Port) (s : State) : Host.Outcome State Fault Refusal := .next (s.sentResponse p)

/-- SILENCE_TIMER_EXPIRY: the capacity claims are withdrawn and the table part of the lapse is raised (R148, R62). -/
def execSilenceTimerExpiry (p : Port) (s : State) : Host.Outcome State Fault Refusal :=
  .next (if s.silenceRuns p then
    ((s.modPort p fun u => { u with silence := none }).lapseCapacity p).raiseLapse p else s)

/-- LAPSE_WARNING: posted once per reload (R147). -/
def execLapseWarning (p : Port) (s : State) : Host.Outcome State Fault Refusal :=
  .next (if s.silenceRuns p && (s.port p).silence.any fun t => !t.warned then
    (s.postTo p .lapseWarning).modPort p fun u =>
      { u with silence := u.silence.map fun t => { t with warned := true } }
    else s)

/-- APPLY_LAPSE: the table part of a pending lapse, and then the frame held for it (R148, R149); where that frame is a TABLE RESET, those held for the lapses it drops follow (log 24). -/
def execApplyLapse (p : Port) (s : State) : Host.Outcome State Fault Refusal :=
  .next (if (s.port p).link = .lapsing ∧ s.mayApply (.lapse p) then ((s.releasePort.writeLapse p).takeHeldOf p).takeHeld else s)

end Sys2Proof.Machine
end

