-- ==== Sys2Proof/Machine/RoundEvents.lean ====
section
/-! DEFINITION. The arbiter's hand-over, the round timers and the rounds, the self-test and the save as holders of the table (R20, R21, R27 to R29, R161, R166). -/

namespace Sys2Proof.Machine

namespace State

/-- A table command that waits is answered BUSY and leaves the arbiter (R21). -/
def answerBusy (p : Port) (s : State) : State :=
  match (s.port p).outstanding with
  | some (.waiting code _ revived) => s.answer p code revived .busy []
  | some (.held _ _) | some (.answered _ _) | none => s

/-- Waiting round requests leave the arbiter, their rounds skipped and counted (R21, R161; log 19). -/
def skipRequests (s : State) : State :=
  let s1 := if s.arbiter.steamRequest then s.skipSteam else s
  let s2 := if s.arbiter.waterRequest then s1.skipWater else s1
  s2.withdrawRequests

/-- The self-test is handed the table (R161). -/
def startSelfTest (s : State) : State :=
  (((s.hold .selfTest).modEngine fun e => { e with opLeft := 400 }).forPorts answerBusy).skipRequests

/-- The Configuration Store is handed the table for a save: it takes the working configuration and marks the stored check word invalid (R166). -/
def startSave (s : State) : State :=
  let s1 := ((s.hold .store).modEngine fun e => { e with opLeft := 250 }).forPorts answerBusy
  { s1 with store := { s1.store with check := none, saving := some s.workingConfig } }

/-- Whether the arbiter may hand the table over: nobody holds it but a port whose command has been carried out, and nothing waits to be written first (R20, R22). -/
def mayHandOver (s : State) : Bool :=
  s.atRelease && decide (s.arbiter.deferred = .none) && decide (s.nextWrite = none)

/-- The table is handed to a requester (R20). -/
def handTo (s : State) : Requester → State
  | .port p => s.serve p
  | .spe => (s.hold .spe).modArbiter fun a => { a with steamRequest := false }
  | .wpe => (s.hold .wpe).modArbiter fun a => { a with waterRequest := false }
  | .selfTest => s.startSelfTest
  | .store => s.startSave

/-- The table is handed to the next requester, if one waits and it may be (R20). -/
def handOver (s : State) : State :=
  match s.nextRequester with
  | some r => if s.mayHandOver then s.releasePort.handTo r else s
  | none => s

/-- The table is handed over when the next requester is a given one. -/
def handOverTo (s : State) (r : Requester) : State := if s.nextRequester = some r then s.handOver else s

/-- The holder of the table releases it. -/
def release (s : State) : State := s.modArbiter fun a => { a with holder := none }

/-- The steam round timer expires in RUN (R27). -/
def steamTimer (s : State) : State :=
  let s1 := { s with steam := { s.steam with timer := some 2000 } }
  if s.engine.op = .selfTest ∨ s.arbiter.steamRequest then s1.skipSteam
  else s1.modArbiter fun a => { a with steamRequest := true }

/-- The water round timer expires in RUN (R27, R28). -/
def waterTimer (s : State) : State :=
  let s1 := { s with water := { s.water with timer := some 2000 } }
  if s.engine.op = .selfTest ∨ s.arbiter.waterRequest then s1.skipWater
  else s1.modArbiter fun a => { a with waterRequest := true }

end State

/-- TABLE_HANDOVER (R20). -/
def execTableHandover (s : State) : Host.Outcome State Fault Refusal := .next s.handOver

/-- STEAM_ROUND_TIMER_EXPIRY (R27). -/
def execSteamRoundTimerExpiry (s : State) : Host.Outcome State Fault Refusal :=
  .next (if s.engine.state = .run ∧ s.steam.timer.isSome then s.steamTimer else s)

/-- WATER_ROUND_TIMER_EXPIRY (R27). -/
def execWaterRoundTimerExpiry (s : State) : Host.Outcome State Fault Refusal :=
  .next (if s.engine.state = .run ∧ s.water.timer.isSome then s.waterTimer else s)

/-- STEAM_ROUND: SPE, holding the table, runs a steam round and releases it (R37 to R42). -/
def execSteamRound (s : State) : Host.Outcome State Fault Refusal :=
  .next (if s.arbiter.holder = some .spe then s.runSteamRound.release else s)

/-- WATER_ROUND: WPE, holding the table, runs a water round and releases it (R43 to R45). -/
def execWaterRound (s : State) : Host.Outcome State Fault Refusal :=
  .next (if s.arbiter.holder = some .wpe then s.runWaterRound.release else s)

/-- SELF_TEST_START (R161). -/
def execSelfTestStart (s : State) : Host.Outcome State Fault Refusal := .next (s.handOverTo .selfTest)

/-- SAVE_START (R166). -/
def execSaveStart (s : State) : Host.Outcome State Fault Refusal := .next (s.handOverTo .store)

end Sys2Proof.Machine
end

