-- ==== Sys2Proof/Machine/PlantEvents.lean ====
section
/-! DEFINITION. The plant inputs and the measurement channels as the plant drives them (R64 to R67, R54, R55, R84 to R95). -/

namespace Sys2Proof.Machine

/-- An input whose pin goes to a level (R64, R65). -/
def InputPin.level (low : Bool) (x : InputPin) : InputPin :=
  { x with
    low := low
    debounce := match x.debounce with
      | .establishing t seen => .establishing t (seen || low)
      | .steady => if low = x.asserted then .steady else .differing 100
      | .differing t => if low = x.asserted then .steady else .differing t }

/-- An input whose debounce interval completes: its debounced state changes (R64). -/
def InputPin.change (x : InputPin) : InputPin := { x with asserted := !x.asserted, debounce := .steady }

/-- An input whose establishment ends: not asserted when the pin was high throughout (R65). A pin that then differs starts an interval (R64). -/
def InputPin.establish (x : InputPin) (seen : Bool) : InputPin :=
  let a := seen || x.low
  { x with asserted := a, debounce := if x.low = a then .steady else .differing 100 }

namespace State

/-- A trip input has changed: an assertion disarms its boiler, either change posts CAPACITY_CHANGE (R54, R55). -/
def tripChanged (s : State) (b : BoilerId) : State :=
  let s1 := if s.tripAsserted b then s.modBoiler b fun r => { r with armed := false } else s
  s1.postAll .capacityChange

/-- The debounced LOWPR state is written into the steam pool record (R65, R66). -/
def takeLowpr (s : State) : State := { s with steam := { s.steam with lowpr := s.inputs.lowpr.asserted } }

/-- What a change of a debounced input does (R54, R55, R66, R67). -/
def inputChanged (s : State) : PlantInput → State
  | .trip0 => s.tripChanged 0
  | .trip1 => s.tripChanged 1
  | .lowpr => s.takeLowpr.postAll .capacityChange
  | .lockout => s.postAll .lockoutChange

/-- What the establishment of an input does: LOWPR is written into the pool record, and nothing is posted (R65). -/
def inputEstablished (s : State) : PlantInput → State
  | .lowpr => s.takeLowpr
  | .trip0 | .trip1 | .lockout => s

end State

/-- PLANT_INPUT_LEVEL_CHANGE (R64). -/
def execPlantInputLevelChange (i : PlantInput) (low : Bool) (s : State) : Host.Outcome State Fault Refusal :=
  .next (s.modInput i (InputPin.level low))

/-- DEBOUNCE_EXPIRY (R64). -/
def execDebounceExpiry (i : PlantInput) (s : State) : Host.Outcome State Fault Refusal :=
  .next (match (s.input i).debounce with
    | .differing _ => (s.modInput i InputPin.change).inputChanged i
    | .establishing _ _ | .steady => s)

/-- INPUT_ESTABLISHED (R65). -/
def execInputEstablished (i : PlantInput) (s : State) : Host.Outcome State Fault Refusal :=
  .next (match (s.input i).debounce with
    | .establishing _ seen => (s.modInput i fun x => x.establish seen).inputEstablished i
    | .differing _ | .steady => s)

/-- REFERENCE_CONVERSION (R86, R90). -/
def execReferenceConversion (count : Option Word) (s : State) : Host.Outcome State Fault Refusal :=
  .next (if ¬ s.engine.starting ∧ s.scan.slot = .reference then s.convertReference count else s)

/-- RATIO_CONVERSION (R87 to R89). -/
def execRatioConversion (m : RatioId) (count : Option Word) (s : State) : Host.Outcome State Fault Refusal :=
  .next (if ¬ s.engine.starting ∧ s.scan.slot = .ratio m then s.convertRatio m count else s)

/-- HOLD_TIMER_EXPIRY (R91). -/
def execHoldTimerExpiry (s : State) : Host.Outcome State Fault Refusal :=
  .next (if s.reference.hold.isSome then s.expireHold else s)

/-- PULSE_COUNT (R94). -/
def execPulseCount (f : PulseId) (s : State) : Host.Outcome State Fault Refusal :=
  .next (s.modPulse f State.countPulse)

end Sys2Proof.Machine
end

