-- ==== Sys2Proof/Machine/DriveEvents.lean ====
section
/-! DEFINITION. The drive channels' own events and the writes they raise (chapter 7, R15, R18, R22). -/

namespace Sys2Proof.Machine

/-- Whether the feedback watch of a channel can confirm a loss: ACTIVE, outside TEST, its latch clear, no absence pending (R126, R127), and an on time to confirm it from: the period in progress has one (how much of it has run is not tested: log 4), or the count stands at 100. An immediate turning off leaves neither, so no confirmation follows it (R128). -/
def Channel.watches (c : Channel) : Bool :=
  decide (c.condition = .active) && decide (c.phase ≠ .test) && !c.watchLatch && !c.pendingAbsence &&
    (decide (c.applied ≠ 0) || decide (c.watchCount = 100))

namespace State

/-- A confirmed loss of feedback acts by the absent action of the structure in use (R15, R127; log 32). -/
def loseFeedback (s : State) (n : OutletId) : State :=
  match (s.channel n).inUse.absentAction with
  | .forceOff => (s.turnOffNow n).raiseAbsent n
  | .reportOnly => (s.postOutlet n (.outletAbsent n)).modChannel n fun c => { c with watchLatch := true }

end State

/-- PERIOD_BOUNDARY (R117 to R122, R131). -/
def execPeriodBoundary (n : OutletId) (s : State) : Host.Outcome State Fault Refusal :=
  .next (if s.engine.starting then s else s.boundary n)

/-- DWELL_EXPIRY: the channel enters CYCLING, its period running on with the capped duty (R122). -/
def execDwellExpiry (n : OutletId) (s : State) : Host.Outcome State Fault Refusal :=
  .next (if (s.channel n).phase = .warming then
    s.modChannel n fun c => { c with phase := .cycling, dwellLeft := 0 } else s)

/-- SETTLE_TIMER_EXPIRY (R124). -/
def execSettleTimerExpiry (b : BranchId) (s : State) : Host.Outcome State Fault Refusal :=
  .next (if (s.branch b).timer.isSome then s.settleExpiry b else s)

/-- FEEDBACK_LOSS_CONFIRMED (R127, R128). -/
def execFeedbackLossConfirmed (n : OutletId) (s : State) : Host.Outcome State Fault Refusal :=
  .next (if (s.channel n).watches then s.loseFeedback n else s)

/-- APPLY_ABSENT_WRITE (R15, R22). -/
def execApplyAbsentWrite (n : OutletId) (s : State) : Host.Outcome State Fault Refusal :=
  .next (if s.mayApply (.absent n) then s.releasePort.writeAbsent n else s)

/-- SENSE_HOLD_EXPIRY: the test pulses stop and the expiry write is raised (R130). -/
def execSenseHoldExpiry (n : OutletId) (s : State) : Host.Outcome State Fault Refusal :=
  .next (if (s.channel n).phase = .test then (s.endTest n).raiseSenseEnd n else s)

/-- APPLY_SENSE_EXPIRY_WRITE (R18, R22). -/
def execApplySenseExpiryWrite (n : OutletId) (s : State) : Host.Outcome State Fault Refusal :=
  .next (if s.mayApply (.senseEnd n) then s.releasePort.writeSenseEnd n else s)

/-- DRIVE_TICK (R117, R120, R126, R129). -/
def execDriveTick (n : OutletId) (fb : Bool) (s : State) : Host.Outcome State Fault Refusal :=
  .next (if s.engine.starting then s else s.modChannel n (State.tickChannel fb))

end Sys2Proof.Machine
end

