-- ==== Sys2Proof/Machine/BurstEvents.lean ====
section
/-! DEFINITION. The timers of the burst list and the removals they raise (R106 to R109). -/

namespace Sys2Proof.Machine

namespace State

/-- A CLEARED entry's time has run out (R108). -/
def durationOut (s : State) (n : OutletId) : State :=
  (s.modEntry n fun e => match e.state with
    | .cleared _ r => { e with state := .cleared 0 r }
    | .queued _ => e).raiseRemoval n .duration

/-- A QUEUED entry's wait has reached its limit (R109). -/
def waitOut (s : State) (n : OutletId) : State :=
  (s.modEntry n fun e => match e.state with
    | .queued _ => { e with state := .queued (e.waitLimit * 1000) }
    | .cleared _ _ => e).raiseRemoval n .waitLimit

end State

/-- BURST_DURATION_EXPIRY (R106, R108). -/
def execBurstDurationExpiry (n : OutletId) (s : State) : Host.Outcome State Fault Refusal :=
  .next (match s.entryOf n with
    | some e => if s.engine.state = .run ∧ e.isCleared then s.durationOut n else s
    | none => s)

/-- BURST_WAIT_EXPIRY (R106, R109). -/
def execBurstWaitExpiry (n : OutletId) (s : State) : Host.Outcome State Fault Refusal :=
  .next (match s.entryOf n with
    | some e => if s.engine.state = .run ∧ ¬ e.isCleared then s.waitOut n else s
    | none => s)

/-- APPLY_BURST_REMOVAL (R107 to R109). -/
def execApplyBurstRemoval (n : OutletId) (s : State) : Host.Outcome State Fault Refusal :=
  .next (if s.mayApply (.removal n) then s.releasePort.writeRemoval n else s)

end Sys2Proof.Machine
end

