-- ==== Sys2Proof/Machine/EngineEvents.lean ====
section
/-! DEFINITION. The events of Engine Control and the Configuration Store: the engine-state write, the ends of the self-test, the save and the load, the deferred resets, power-on and the reset line (R157, R163, R166, R168 to R170). -/

namespace Sys2Proof.Machine

namespace State

/-- The self-test ends: the table is released, TEST_DONE posted, the operation none, and SAFE entered on a failure (R163). The removals that waited for this release are applied before the list is emptied (log 8, log 40). -/
def endSelfTest (s : State) (memoryFails : Bool) : State :=
  let o := s.testOutcome memoryFails
  let s1 := (s.release.postAll (.testDone o)).modEngine fun e => { e with op := .none, opLeft := 0 }
  if o = .pass then s1 else s1.enterSafe

/-- The save ends: the image is written, its check word with it when the read-back agrees, the table released and CONFIG_DONE posted (R166). -/
def endSave (s : State) (image : WorkingConfig) (readBackMatches : Bool) : State :=
  let s1 := { s with store :=
    { image := image, check := if readBackMatches then some (imageCheck image) else none, saving := none } }
  (s1.release.postAll (.configDone (if readBackMatches then .saved else .saveFailed))).modEngine
    fun e => { e with op := .none, opLeft := 0 }

end State

/-- APPLY_ENGINE_STATE_WRITE (R157). -/
def execApplyEngineStateWrite (s : State) : Host.Outcome State Fault Refusal :=
  .next (if s.mayApply .engineState then s.releasePort.writeEngine s.arbiter.engineWrite else s)

/-- SELF_TEST_END (R162, R163). -/
def execSelfTestEnd (memoryFails : Bool) (s : State) : Host.Outcome State Fault Refusal :=
  .next (if s.engine.op = .selfTest ∧ s.arbiter.holder = some .selfTest then s.endSelfTest memoryFails else s)

/-- SAVE_END (R166). -/
def execSaveEnd (readBackMatches : Bool) (s : State) : Host.Outcome State Fault Refusal :=
  .next (match s.store.saving with
    | some image =>
      if s.engine.op = .save ∧ s.arbiter.holder = some .store then s.endSave image readBackMatches else s
    | none => s)

/-- ENGINE_RESET_DEFERRED (R169). -/
def execEngineResetDeferred (s : State) : Host.Outcome State Fault Refusal :=
  .next (if s.arbiter.deferred = .engine ∧ s.atRelease then s.finishEngineReset else s)

/-- TABLE_RESET_LOAD_START (R170). -/
def execTableResetLoadStart (s : State) : Host.Outcome State Fault Refusal :=
  .next (if s.arbiter.deferred = .table ∧ s.atRelease then s.finishTableReset.takeHeld else s)

/-- CONFIG_LOAD_END (R165, R168, R170). -/
def execConfigLoadEnd (s : State) : Host.Outcome State Fault Refusal :=
  .next (if s.engine.op = .load ∧ s.arbiter.holder = some .store then s.finishLoad else s)

/-- POWER_ON (R168). -/
def execPowerOn (s : State) : Host.Outcome State Fault Refusal := .next (s.powerUp .powerOn)

/-- RESET_LINE (R168). -/
def execResetLine (s : State) : Host.Outcome State Fault Refusal := .next (s.powerUp .resetLine)

end Sys2Proof.Machine
end

