-- ==== Sys2Proof/Machine/Dispatch.lean ====
section
/-! DEFINITION. What each command does: one call of its meaning per constructor of Instr. -/

namespace Sys2Proof.Machine

/-- The effect of a command on everything but the queue. -/
def exec (i : Instr) (s : State) : Host.Outcome State Fault Refusal :=
  match i with
  | .identify p payload => Sys2Proof.Machine.execIdentify p payload s
  | .readStatus p payload => Sys2Proof.Machine.execReadStatus p payload s
  | .readOutlet p payload => Sys2Proof.Machine.execReadOutlet p payload s
  | .readPool p payload => Sys2Proof.Machine.execReadPool p payload s
  | .readStore p payload => Sys2Proof.Machine.execReadStore p payload s
  | .readChannel p payload => Sys2Proof.Machine.execReadChannel p payload s
  | .readBursts p payload => Sys2Proof.Machine.execReadBursts p payload s
  | .readEvents p payload => Sys2Proof.Machine.execReadEvents p payload s
  | .readRights p payload => Sys2Proof.Machine.execReadRights p payload s
  | .setDemand p payload => Sys2Proof.Machine.execSetDemand p payload s
  | .setLimits p payload => Sys2Proof.Machine.execSetLimits p payload s
  | .setOutletConfig p payload => Sys2Proof.Machine.execSetOutletConfig p payload s
  | .parkOutlet p payload => Sys2Proof.Machine.execParkOutlet p payload s
  | .unparkOutlet p payload => Sys2Proof.Machine.execUnparkOutlet p payload s
  | .clearAbsent p payload => Sys2Proof.Machine.execClearAbsent p payload s
  | .senseStart p payload => Sys2Proof.Machine.execSenseStart p payload s
  | .senseEnd p payload => Sys2Proof.Machine.execSenseEnd p payload s
  | .requestBurst p payload => Sys2Proof.Machine.execRequestBurst p payload s
  | .endBurst p payload => Sys2Proof.Machine.execEndBurst p payload s
  | .postCapacity p payload => Sys2Proof.Machine.execPostCapacity p payload s
  | .postMargin p payload => Sys2Proof.Machine.execPostMargin p payload s
  | .postPumpFlow p payload => Sys2Proof.Machine.execPostPumpFlow p payload s
  | .setProfile p payload => Sys2Proof.Machine.execSetProfile p payload s
  | .setStore p payload => Sys2Proof.Machine.execSetStore p payload s
  | .setChannel p payload => Sys2Proof.Machine.execSetChannel p payload s
  | .setBranch p payload => Sys2Proof.Machine.execSetBranch p payload s
  | .maskEvents p payload => Sys2Proof.Machine.execMaskEvents p payload s
  | .setWindow p payload => Sys2Proof.Machine.execSetWindow p payload s
  | .engineStart p payload => Sys2Proof.Machine.execEngineStart p payload s
  | .engineStop p payload => Sys2Proof.Machine.execEngineStop p payload s
  | .serviceEnter p payload => Sys2Proof.Machine.execServiceEnter p payload s
  | .serviceLeave p payload => Sys2Proof.Machine.execServiceLeave p payload s
  | .serviceDriveSet p payload => Sys2Proof.Machine.execServiceDriveSet p payload s
  | .serviceDriveRelease p payload => Sys2Proof.Machine.execServiceDriveRelease p payload s
  | .engineReset p payload => Sys2Proof.Machine.execEngineReset p payload s
  | .tableReset p payload => Sys2Proof.Machine.execTableReset p payload s
  | .testTable p payload => Sys2Proof.Machine.execTestTable p payload s
  | .saveConfig p payload => Sys2Proof.Machine.execSaveConfig p payload s
  | .unknownCommand p code payload => Sys2Proof.Machine.execUnknownCommand p code payload s
  | .overrun p => Sys2Proof.Machine.execOverrun p s
  | .receiveByte p b stopBit => Sys2Proof.Machine.execReceiveByte p b stopBit s
  | .interByteTimeout p => Sys2Proof.Machine.execInterByteTimeout p s
  | .discardQuietExpiry p => Sys2Proof.Machine.execDiscardQuietExpiry p s
  | .responseSent p => Sys2Proof.Machine.execResponseSent p s
  | .tableHandover => Sys2Proof.Machine.execTableHandover s
  | .steamRoundTimerExpiry => Sys2Proof.Machine.execSteamRoundTimerExpiry s
  | .waterRoundTimerExpiry => Sys2Proof.Machine.execWaterRoundTimerExpiry s
  | .steamRound => Sys2Proof.Machine.execSteamRound s
  | .waterRound => Sys2Proof.Machine.execWaterRound s
  | .silenceTimerExpiry p => Sys2Proof.Machine.execSilenceTimerExpiry p s
  | .lapseWarning p => Sys2Proof.Machine.execLapseWarning p s
  | .applyLapse p => Sys2Proof.Machine.execApplyLapse p s
  | .plantInputLevelChange x low => Sys2Proof.Machine.execPlantInputLevelChange x low s
  | .debounceExpiry x => Sys2Proof.Machine.execDebounceExpiry x s
  | .inputEstablished x => Sys2Proof.Machine.execInputEstablished x s
  | .referenceConversion count => Sys2Proof.Machine.execReferenceConversion count s
  | .ratioConversion m count => Sys2Proof.Machine.execRatioConversion m count s
  | .holdTimerExpiry => Sys2Proof.Machine.execHoldTimerExpiry s
  | .pulseCount f => Sys2Proof.Machine.execPulseCount f s
  | .periodBoundary n => Sys2Proof.Machine.execPeriodBoundary n s
  | .dwellExpiry n => Sys2Proof.Machine.execDwellExpiry n s
  | .settleTimerExpiry b => Sys2Proof.Machine.execSettleTimerExpiry b s
  | .feedbackLossConfirmed n => Sys2Proof.Machine.execFeedbackLossConfirmed n s
  | .applyAbsentWrite n => Sys2Proof.Machine.execApplyAbsentWrite n s
  | .senseHoldExpiry n => Sys2Proof.Machine.execSenseHoldExpiry n s
  | .applySenseExpiryWrite n => Sys2Proof.Machine.execApplySenseExpiryWrite n s
  | .burstDurationExpiry n => Sys2Proof.Machine.execBurstDurationExpiry n s
  | .burstWaitExpiry n => Sys2Proof.Machine.execBurstWaitExpiry n s
  | .applyBurstRemoval n => Sys2Proof.Machine.execApplyBurstRemoval n s
  | .applyEngineStateWrite => Sys2Proof.Machine.execApplyEngineStateWrite s
  | .selfTestStart => Sys2Proof.Machine.execSelfTestStart s
  | .selfTestEnd memoryFails => Sys2Proof.Machine.execSelfTestEnd memoryFails s
  | .saveStart => Sys2Proof.Machine.execSaveStart s
  | .saveEnd readBackMatches => Sys2Proof.Machine.execSaveEnd readBackMatches s
  | .engineResetDeferred => Sys2Proof.Machine.execEngineResetDeferred s
  | .tableResetLoadStart => Sys2Proof.Machine.execTableResetLoadStart s
  | .configLoadEnd => Sys2Proof.Machine.execConfigLoadEnd s
  | .powerOn => Sys2Proof.Machine.execPowerOn s
  | .resetLine => Sys2Proof.Machine.execResetLine s
  | .driveTick n fb => Sys2Proof.Machine.execDriveTick n fb s

end Sys2Proof.Machine
end

