-- ==== Sys2Proof/Machine/Time.lean ====
section
/-! DEFINITION. What the part does with no command waiting: the event that is due, and otherwise one millisecond (log 1, log 2, log 5). -/

namespace Sys2Proof.Machine

/-- A timer that is not stopped, one millisecond later. -/
def tickTimer (t : Option Nat) : Option Nat := t.map fun n => n - 1

/-- An entry of the burst list one millisecond later in RUN (R106). -/
def BurstEntry.elapse (e : BurstEntry) : BurstEntry :=
  match e.state with
  | .queued t => { e with state := .queued (min (t + 1) (e.waitLimit * 1000)) }
  | .cleared t r => { e with state := .cleared (t - 1) r }

/-- A plant input one millisecond later (R64, R65). -/
def InputPin.elapse (x : InputPin) : InputPin :=
  { x with debounce := match x.debounce with
      | .establishing t seen => .establishing (t - 1) seen
      | .steady => .steady
      | .differing t => .differing (t - 1) }

/-- A drive channel's millisecond timers one millisecond later: the dwell in WARMING, the hold limit of a sense (R122, R129). -/
def Channel.elapse (c : Channel) : Channel :=
  { c with dwellLeft := if c.phase = .warming then c.dwellLeft - 1 else c.dwellLeft, holdLeft := tickTimer c.holdLeft }

/-- A response that waits starts to be sent after its millisecond (R139; log 14). -/
def startSending : Option Outstanding → Option Outstanding
  | some (.answered r false) => some (.answered r true)
  | o => o

/-- A port unit one millisecond later; its silence timer runs or stands still (R137, R139, R147). -/
def PortUnit.elapse (silenceRuns : Bool) (u : PortUnit) : PortUnit :=
  { u with
    quiet := min (u.quiet + 1) 6
    outstanding := startSending u.outstanding
    silence := if silenceRuns then u.silence.map fun t => { t with left := t.left - 1 } else u.silence }

namespace State

/-- The round timers and the burst times, which run in RUN alone (R26, R106). -/
def elapseRun (s : State) : State :=
  if s.engine.state = .run then
    { s with steam := { s.steam with timer := tickTimer s.steam.timer }
             water := { s.water with timer := tickTimer s.water.timer }
             bursts := s.bursts.map BurstEntry.elapse }
  else s

/-- The operation in progress, which runs while its block holds the table (R161, R166, R170). -/
def elapseOperation (s : State) : State :=
  if s.arbiter.holder = some .selfTest ∨ s.arbiter.holder = some .store then
    s.modEngine fun e => { e with opLeft := e.opLeft - 1 }
  else s

/-- The timers that run in every engine state. -/
def elapseAlways (s : State) : State :=
  { s with
    channels := s.channels.map Channel.elapse
    branches := s.branches.map fun b => { b with timer := tickTimer b.timer }
    ports := tabulate fun p => s.ports[p].elapse (s.silenceRuns p)
    reference := { s.reference with hold := tickTimer s.reference.hold }
    scan := { s.scan with gateLeft := s.scan.gateLeft - 1 }
    inputs := { trip0 := s.inputs.trip0.elapse, trip1 := s.inputs.trip1.elapse, lowpr := s.inputs.lowpr.elapse,
                lockout := s.inputs.lockout.elapse } }

/-- One millisecond passes; a port's hold of the table is over by then (log 6). -/
def elapse (s : State) : State := s.elapseAlways.elapseRun.elapseOperation.releasePort

/-! ## Events that are due -/

/-- An event, if it is due. -/
def dueIf (b : Bool) (i : Instr) : List Instr := if b then [i] else []

/-- Whether a timer has run out. -/
def ranOut (t : Option Nat) : Bool := decide (t = some 0)

/-- The plant inputs whose intervals have ended. -/
def dueInputs (s : State) : List Instr :=
  [PlantInput.trip0, .trip1, .lowpr, .lockout].flatMap fun i =>
    match (s.input i).debounce with
    | .establishing 0 _ => [.inputEstablished i]
    | .differing 0 => [.debounceExpiry i]
    | _ => []

/-- What is due at a port: the line quiet for more than 5 ms, a response gone, a lapse or its warning. -/
def duePort (s : State) (p : Port) : List Instr :=
  let u := s.port p
  let late := decide (5 < u.quiet)
  (match u.receiver with
    | .inFrame _ => dueIf late (.interByteTimeout p)
    | .discard => dueIf late (.discardQuietExpiry p)
    | .idle => []) ++
  dueIf (s.transmitting p) (.responseSent p) ++
  dueIf (s.silenceRuns p && u.silence.any fun t => !t.warned && decide (t.left * 2 ≤ t.loaded)) (.lapseWarning p) ++
  dueIf (s.silenceRuns p && u.silence.any fun t => decide (t.left = 0)) (.silenceTimerExpiry p)

/-- The burst entries whose times have run out in RUN and whose removals are not raised yet (R108, R109). -/
def dueBursts (s : State) : List Instr :=
  if s.engine.state = .run then
    s.bursts.flatMap fun e =>
      match e.state with
      | .queued t =>
        dueIf (decide (e.waitLimit * 1000 ≤ t) && !s.arbiter.removals.contains (e.outlet, .waitLimit))
          (.burstWaitExpiry e.outlet)
      | .cleared t _ =>
        dueIf (decide (t = 0) && !s.arbiter.removals.contains (e.outlet, .duration)) (.burstDurationExpiry e.outlet)
  else []

/-- What is due at a drive channel. -/
def dueChannel (s : State) (n : OutletId) : List Instr :=
  let c := s.channel n
  dueIf (decide (c.phase = .warming) && decide (c.dwellLeft = 0)) (.dwellExpiry n) ++
  dueIf (decide (c.phase = .test) && ranOut c.holdLeft) (.senseHoldExpiry n) ++
  dueIf (c.watches && decide (c.watchCount = 100)) (.feedbackLossConfirmed n) ++
  dueIf (!s.engine.starting && decide (c.inUse.period ≤ c.position) && decide (c.position ≠ 0)) (.periodBoundary n)

/-- The settle timers that have run out. -/
def dueBranches (s : State) : List Instr :=
  (List.finRange 6).flatMap fun b => dueIf (ranOut (s.branch b).timer) (.settleTimerExpiry b)

/-- The row that applies a waiting write. -/
def applyRow : PendingWrite → Instr
  | .absent n => .applyAbsentWrite n
  | .senseEnd n => .applySenseExpiryWrite n
  | .removal n => .applyBurstRemoval n
  | .lapse p => .applyLapse p
  | .engineState => .applyEngineStateWrite

/-- What is due at the release of the table: a deferred reset, then the waiting writes in their order (R169, R170, R176). -/
def dueRelease (s : State) : List Instr :=
  if s.atRelease then
    match s.arbiter.deferred with
    | .engine => [.engineResetDeferred]
    | .table => [.tableResetLoadStart]
    | .none =>
      match s.nextWrite with
      | some w => [applyRow w]
      | none => []
  else []

/-- The round timers that have run out in RUN. -/
def dueRounds (s : State) : List Instr :=
  dueIf (decide (s.engine.state = .run) && ranOut s.steam.timer) .steamRoundTimerExpiry ++
  dueIf (decide (s.engine.state = .run) && ranOut s.water.timer) .waterRoundTimerExpiry

/-- What the holder of the table does, and the hand-over of a free one (R20, R42, R43, R170). -/
def dueTable (s : State) : List Instr :=
  match s.arbiter.holder with
  | some .spe => [.steamRound]
  | some .wpe => [.waterRound]
  | some .store => dueIf (decide (s.engine.op = .load) && decide (s.engine.opLeft = 0)) .configLoadEnd
  | some .selfTest => []
  | some (.port _) | none => dueIf (s.nextRequester.isSome && s.mayHandOver) .tableHandover

/-- The events that are due, in the order the model takes them (log 2). Rows that carry what the outside world supplies are never among them (log 5). -/
def dueEvents (s : State) : List Instr :=
  s.dueInputs ++ dueIf (ranOut s.reference.hold) .holdTimerExpiry ++
  (List.finRange 3).flatMap s.duePort ++ s.dueBursts ++ (List.finRange 24).flatMap s.dueChannel ++ s.dueBranches ++
  s.dueRelease ++ s.dueRounds ++ s.dueTable

end State

end Sys2Proof.Machine
end

