-- ==== Sys2Proof/Machine/Step.lean ====
section
/-! DEFINITION. One step of the part: the command at the front of the queue, or with none waiting the event that is due, or one millisecond (log 1). -/

namespace Sys2Proof.Machine

/-- What the part does with an empty queue: the first event that is due happens, and with none due one millisecond passes. -/
def idle (s : State) : Host.Outcome State Fault Refusal :=
  match s.dueEvents with
  | i :: _ => exec i s
  | [] => .next s.elapse

/-- One step: the command at the front of the queue, on the state with the rest of the queue. -/
def step (s : State) : Host.Outcome State Fault Refusal :=
  match s.pending with
  | c :: rest => exec c { s with pending := rest }
  | [] => idle s

/-- The state with the command a word spells at the front of its queue; unchanged where the word spells none. -/
def State.withFetchWord (s : State) (nbits w : Nat) : State :=
  match decodeTableWord nbits w with
  | some c => { s with pending := c :: s.pending }
  | none => s

end Sys2Proof.Machine
end

