-- ==== Sys2Proof/Safety.lean ====
section
/-! DEFINITION. What every step keeps: the laws of the burst list, of the structures, of the rights and of the table's holder. -/

namespace Sys2Proof.Machine

namespace State

/-- The burst list holds at most 8 entries and no two for one outlet (R102, R162). -/
abbrev BurstsKept (s : State) : Prop := s.bursts.length ≤ 8 ∧ (s.bursts.map BurstEntry.outlet).Nodup

/-- Each store is bound by at most one outlet and each pulse channel named by at most one (R3, R162). -/
abbrev BindingsKept (s : State) : Prop :=
  ((s.outlets.toList.map Outlet.struct).filterMap boundStore).Nodup ∧
  ((s.outlets.toList.map Outlet.struct).filterMap OutletStructure.meter).Nodup

/-- Whether a configuration leaves some port with ADMIN. -/
abbrev hasAdmin (c : WorkingConfig) : Prop := ∃ p : Port, c.ports[p].globalRights.admin = true

/-- Some port holds ADMIN (R145), and so does some port of the stored image and of one being saved, which a load can bring back. -/
abbrev AdminKept (s : State) : Prop :=
  (∃ p, (s.globals p).admin = true) ∧ hasAdmin s.store.image ∧ ∀ c, s.store.saving = some c → hasAdmin c

/-- The self-test holds the table only as the operation in progress, the Configuration Store only for a save or a load, and a part that is starting is loading (R21, R161, R166, R168, R170). -/
abbrev TableKept (s : State) : Prop :=
  (s.arbiter.holder = some .selfTest → s.engine.op = .selfTest) ∧
  (s.arbiter.holder = some .store → s.engine.op = .save ∨ s.engine.op = .load) ∧
  (s.engine.op = .load → s.arbiter.holder = some .store ∨ s.arbiter.deferred = .table) ∧
  (s.engine.starting = true → s.engine.op = .load ∧ s.arbiter.holder = some .store)

end State

end Sys2Proof.Machine
end

