-- ==== Sys2Proof/Statements.lean ====
section
/-! DEFINITION. The vocabulary of the statements: when a port receives, when the table is idle, what a response leaves, and what a command leaves as it was. -/

namespace Sys2Proof.Statements

open Sys2Proof.Machine

/-! ## When a command is taken -/

/-- A good frame that completes at the port now is taken: the part has started, no command is outstanding, no lapse is pending (R139, R140, R148). A LAPSED port receives too. -/
abbrev Receives (s : State) (p : Port) : Prop :=
  s.engine.starting = false ∧ (s.port p).outstanding = none ∧ (s.port p).link ≠ .lapsing

/-- The table is free, no requester waits for it and no operation is in progress (R20, R21). -/
abbrev TableIdle (s : State) : Prop := s.tableFree = true ∧ s.nextRequester = none ∧ s.engine.op = .none

/-- A table command of a port on an outlet is taken with a right the port holds. -/
abbrev Reaches (s : State) (p : Port) (n : OutletId) (pl : List Byte) (right : OutletRights → Bool) : Prop :=
  Receives s p ∧ TableIdle s ∧ outletArg pl = some n ∧ right (s.rights p n) = true

/-- The payload of a table command passes the checks that are made before the table is asked for, the busy indication aside: its length, its outlet index and part, and the right it needs (R1, R2, R19, R21, R101, R102, R110, R140). -/
def PassesChecks (s : State) (p : Port) (c : Code) (pl : List Byte) : Prop :=
  let onOutlet := fun right : OutletRights → Bool => ∃ n, outletArg pl = some n ∧ right (s.rights p n) = true
  match c with
  | .readOutlet => pl.length = 2 ∧ u8At pl 1 ≤ 2 ∧ onOutlet OutletRights.read
  | .readBursts => pl.length = 1
  | .setDemand => pl.length = 3 ∧ onOutlet OutletRights.demand
  | .setLimits => pl.length = 14 ∧ onOutlet OutletRights.limits
  | .setOutletConfig => pl.length = 15 ∧ onOutlet fun _ => (s.globals p).admin
  | .parkOutlet | .unparkOutlet | .clearAbsent | .senseStart | .senseEnd => pl.length = 1 ∧ onOutlet OutletRights.park
  | .requestBurst => pl.length = 7 ∧ onOutlet OutletRights.burst
  | .endBurst => pl.length = 1 ∧ onOutlet OutletRights.burst
  | .setProfile => pl.length = 1 ∧ (s.globals p).profile = true
  | _ => False

/-- How many requesters come before one in the rotation, counted from the one after the last holder (R20). -/
def turn (s : State) (r : Requester) : Nat := (r.place + 6 - s.arbiter.lastHolder.place) % 7

/-- Some requester that waits comes before one in the rotation. -/
def Preceded (s : State) (r : Requester) : Prop :=
  ∃ r' ∈ [Requester.port 0, .port 1, .port 2, .spe, .wpe, .selfTest, .store], s.waits r' = true ∧ turn s r' < turn s r

/-- A port unit whose table command has been taken and waits at the arbiter (R21, R139, R140, R147, R150). -/
def waitingUnit (u : PortUnit) (c : Code) (pl : List Byte) : PortUnit :=
  { u with
    receiver := .idle, silence := SilenceTimer.load u.config.silence, link := .active
    outstanding := some (.waiting c.byte pl (decide (u.link = .lapsed))) }

/-! ## The row of a frame -/

/-- The row that a good frame of a command is; the form byte tells the two rows of SERVICE DRIVE apart (R135, R140). -/
def commandRow (c : Code) (p : Port) (pl : List Byte) : Instr :=
  match c with
  | .identify => .identify p pl
  | .readStatus => .readStatus p pl
  | .readOutlet => .readOutlet p pl
  | .readPool => .readPool p pl
  | .readStore => .readStore p pl
  | .readChannel => .readChannel p pl
  | .readBursts => .readBursts p pl
  | .readEvents => .readEvents p pl
  | .readRights => .readRights p pl
  | .setDemand => .setDemand p pl
  | .setLimits => .setLimits p pl
  | .setOutletConfig => .setOutletConfig p pl
  | .parkOutlet => .parkOutlet p pl
  | .unparkOutlet => .unparkOutlet p pl
  | .clearAbsent => .clearAbsent p pl
  | .senseStart => .senseStart p pl
  | .senseEnd => .senseEnd p pl
  | .requestBurst => .requestBurst p pl
  | .endBurst => .endBurst p pl
  | .postCapacity => .postCapacity p pl
  | .postMargin => .postMargin p pl
  | .postPumpFlow => .postPumpFlow p pl
  | .setProfile => .setProfile p pl
  | .setStore => .setStore p pl
  | .setChannel => .setChannel p pl
  | .setBranch => .setBranch p pl
  | .maskEvents => .maskEvents p pl
  | .setWindow => .setWindow p pl
  | .engineStart => .engineStart p pl
  | .engineStop => .engineStop p pl
  | .serviceEnter => .serviceEnter p pl
  | .serviceLeave => .serviceLeave p pl
  | .serviceDrive => if byteAt pl 1 = 1 then .serviceDriveRelease p pl else .serviceDriveSet p pl
  | .engineReset => .engineReset p pl
  | .tableReset => .tableReset p pl
  | .testTable => .testTable p pl
  | .saveConfig => .saveConfig p pl

/-- The row that a good frame with a code byte is: that of its command, or UNKNOWN_COMMAND for an undefined code (R140). -/
def frameRow (p : Port) (code : Byte) (pl : List Byte) : Instr :=
  match Code.ofByte code with
  | some c => commandRow c p pl
  | none => .unknownCommand p code pl

/-- The frame that a port holds, unless a lapse of the port is still pending, has been taken like one that completes now, but that the receiver is left alone; without one nothing has changed (R140, R148, R150). -/
def HeldFrameTaken (s t : State) (p : Port) : Prop :=
  match (s.port p).outstanding with
  | some (.held code pl) =>
    if (s.port p).link = .lapsing then t = s
    else s.engine.starting = false →
      ∃ f, exec (frameRow p code pl) (s.modPort p fun u => { u with outstanding := none }) = .next f ∧
        t = f.modPort p fun u => { u with receiver := (s.port p).receiver }
  | _ => t = s

/-- The frames that the ports hold have been taken so, Port A's first (log 24). -/
def HeldFramesTaken (s t : State) : Prop :=
  ∃ a b, HeldFrameTaken s a 0 ∧ HeldFrameTaken a b 1 ∧ HeldFrameTaken b t 2

/-! ## What a response leaves -/

/-- The port units after a command: the unit of the sender, from what u gives for it, is ACTIVE with its timer reloaded, its receiver idle and the response outstanding; every other unit is as u gives it (R139, R140, R147, R150). -/
def PortAnswered (s t : State) (p : Port) (u : Port → PortUnit) (code : Byte) (r : Result) (pl : List Byte) : Prop :=
  t.port p =
      { u p with
        receiver := .idle
        silence := SilenceTimer.load (u p).config.silence
        link := .active
        outstanding := some (.answered
          { code := code, result := r, status := t.statusWord p (decide ((s.port p).link = .lapsed)), payload := pl }
          false) } ∧
  ∀ q, q ≠ p → t.port q = u q

/-- A port unit with an event posted into its flags. -/
def withEvent (u : PortUnit) (e : Event) : PortUnit := { u with flags := u.flags.post e }

/-- The port units with a global event posted. -/
def allEvent (s : State) (e : Event) (q : Port) : PortUnit := withEvent (s.port q) e

/-- The port units with an outlet event posted to those that hold READ on the outlet (R152). -/
def readEvent (s : State) (n : OutletId) (e : Event) (q : Port) : PortUnit :=
  if (s.rights q n).read then withEvent (s.port q) e else s.port q

/-- The port units with the notice of an outlet's burst entry posted to its requester, if it has one (R107). -/
def entryEvent (s : State) (n : OutletId) (notice : BurstEntry → Event) (q : Port) : PortUnit :=
  match s.entryOf n with
  | some e => if e.requester = q then withEvent (s.port q) (notice e) else s.port q
  | none => s.port q

/-! ## What stays as it was -/

/-- The outlet records, the profile and the burst list stay. -/
def RecordsKept (s t : State) : Prop := t.outlets = s.outlets ∧ t.profile = s.profile ∧ t.bursts = s.bursts

/-- The drive channels and branches stay. -/
def DriveKept (s t : State) : Prop := t.channels = s.channels ∧ t.branches = s.branches

/-- The two pool records stay. -/
def PoolsKept (s t : State) : Prop := t.steam = s.steam ∧ t.water = s.water

/-- The stores and the measurement channels stay. -/
def MeasureKept (s t : State) : Prop :=
  t.stores = s.stores ∧ t.reference = s.reference ∧ t.ratio = s.ratio ∧ t.pulse = s.pulse ∧ t.scan = s.scan

/-- The plant inputs, the Configuration Store and the queue stay. -/
def RestKept (s t : State) : Prop := t.inputs = s.inputs ∧ t.store = s.store ∧ t.pending = s.pending

/-- Engine Control stays. -/
def EngineKept (s t : State) : Prop := t.engine = s.engine

/-- The arbiter stays. -/
def ArbiterKept (s t : State) : Prop := t.arbiter = s.arbiter

/-- The arbiter changed only in that a port holds the table and is its last holder (R20; log 6, log 7). -/
def ArbiterHeld (s t : State) (p : Port) : Prop :=
  t.arbiter = { s.arbiter with holder := some (.port p), lastHolder := .port p }

/-- Every other outlet record and drive channel stays. -/
def OthersKept (s t : State) (n : OutletId) : Prop :=
  ∀ m, m ≠ n → t.outlet m = s.outlet m ∧ t.channel m = s.channel m

/-- What no table command on an outlet touches: pools, measurement, inputs, image, queue, engine and profile. -/
def PlantKept (s t : State) : Prop :=
  PoolsKept s t ∧ MeasureKept s t ∧ RestKept s t ∧ EngineKept s t ∧ t.profile = s.profile

/-- Everything but the port units stays. -/
def AllKept (s t : State) : Prop :=
  RecordsKept s t ∧ DriveKept s t ∧ PoolsKept s t ∧ MeasureKept s t ∧ RestKept s t ∧ EngineKept s t ∧ ArbiterKept s t

/-- Everything but the port units and the hold of the table stays. -/
def AllKeptHeld (s t : State) (p : Port) : Prop :=
  RecordsKept s t ∧ DriveKept s t ∧ PoolsKept s t ∧ MeasureKept s t ∧ RestKept s t ∧ EngineKept s t ∧ ArbiterHeld s t p

/-- Everything but the steam record and the port units stays. -/
def SteamWritten (s t : State) : Prop :=
  RecordsKept s t ∧ DriveKept s t ∧ t.water = s.water ∧ MeasureKept s t ∧ RestKept s t ∧ EngineKept s t ∧ ArbiterKept s t

/-- Everything but the water record and the port units stays. -/
def WaterWritten (s t : State) : Prop :=
  RecordsKept s t ∧ DriveKept s t ∧ t.steam = s.steam ∧ MeasureKept s t ∧ RestKept s t ∧ EngineKept s t ∧ ArbiterKept s t

/-! ## Refusals -/

/-- A good frame of a command is answered with a result that refuses it, and nothing but the sender's port unit changes (R140, R172). -/
def Refused (s : State) (p : Port) (c : Code) (pl : List Byte) (r : Result) : Prop :=
  ∃ t, exec (commandRow c p pl) s = .next t ∧ AllKept s t ∧ PortAnswered s t p s.port c.byte r []

/-- A table command is refused once it has the table: beside the sender's port unit only the holder of the table changes (R1, R20, R140; log 6). -/
def RefusedHolding (s : State) (p : Port) (c : Code) (pl : List Byte) (r : Result) : Prop :=
  ∃ t, exec (commandRow c p pl) s = .next t ∧ AllKeptHeld s t p ∧ PortAnswered s t p s.port c.byte r []

/-- A channel code of a ratio channel, M0 to M5 (10 section 10.2). -/
abbrev RatioNamed (b : Byte) : Prop := 0x10 ≤ b.toNat ∧ b.toNat ≤ 0x15

/-- A channel code of a pulse channel, F0 to F7 (10 section 10.2). -/
abbrev PulseNamed (b : Byte) : Prop := 0x20 ≤ b.toNat ∧ b.toNat ≤ 0x27

/-- A channel code that names the reference, a ratio channel or a pulse channel (10 section 10.2). -/
abbrev ChannelNamed (b : Byte) : Prop := b = 0x00 ∨ RatioNamed b ∨ PulseNamed b

/-- The length of a SET CHANNEL payload suits the channel named; a code that names none admits either length (R96; log 17). -/
abbrev ChannelLength (pl : List Byte) : Prop :=
  (pl.length = 2 ∧ ¬ RatioNamed (byteAt pl 0)) ∨
  (pl.length = 3 ∧ byteAt pl 0 ≠ 0x00 ∧ ¬ PulseNamed (byteAt pl 0))

/-- The length of a SERVICE DRIVE payload suits its form; an undefined form admits either length (R135; log 17). -/
abbrev DriveLength (pl : List Byte) : Prop :=
  (pl.length = 4 ∧ u8At pl 1 ≠ 1) ∨ (pl.length = 2 ∧ u8At pl 1 ≠ 0)

/-! ## Grants -/

/-- A grant with a limit on it (R10). -/
def lowered (g limit : Nat) : Nat := if limit < g then limit else g

/-- A drive channel handed the grant of its record when that one is lowered to a limit (R10, R116). -/
def loweredChannel (c : Channel) (g limit : Nat) : Channel := if limit < g then { c with grant := limit } else c

/-- The settle timer of a branch as a start or a close leaves it (R124): restarted with the interval, and with an interval of 0 idle, or expiring if it ran (log 27). -/
def restarted (r : Branch) : Branch :=
  { r with timer := if r.interval = 0 then r.timer.map fun _ => 0 else some (r.interval * 1000) }

/-- A drive channel turned off at once (R119). -/
def turnedOff (c : Channel) (inPattern : Bool) : Channel :=
  { c with phase := if inPattern then .safePattern else .off, applied := 0,
           output := if c.output = .neither then .neither else .off, dwellLeft := 0, override := none, heldDuty := 0,
           watchCount := 0, watchLatch := false }

/-- The branches when a channel is turned off at once: it leaves every queue, and a close restarts its branch's timer (R119, R124, R125). -/
def branchAfterOff (s : State) (n : OutletId) (b : BranchId) : Branch :=
  let r := { s.branch b with queue := (s.branch b).queue.filter fun m => decide (m ≠ n) }
  if (s.channel n).applied ≠ 0 ∧ (s.channel n).inUse.branch = some b then restarted r else r

/-! ## Other shapes of an effect -/

/-- Every port unit but one stays. -/
def OtherPortsKept (s t : State) (p : Port) : Prop := ∀ q, q ≠ p → t.port q = s.port q

/-- The burst list without one entry: the entries behind it move up, and where it was CLEARED those cleared after it come one place earlier in the clearance order (R100, R107). -/
def withoutEntry (l : List BurstEntry) (e : BurstEntry) : List BurstEntry :=
  (l.filter fun x => decide (x.outlet ≠ e.outlet)).map fun x =>
    match e.state, x.state with
    | .cleared _ r, .cleared time k => if r < k then { x with state := .cleared time (k - 1) } else x
    | _, _ => x

/-- The burst list without the entry of an outlet, or as it is where the outlet has none. -/
def withoutOutlet (l : List BurstEntry) (n : OutletId) : List BurstEntry :=
  match l.find? fun e => decide (e.outlet = n) with
  | some e => withoutEntry l e
  | none => l

/-- The burst list after the entries that a test picks have left it one by one, in list order (R107, R113, R149). -/
def withoutAll (l : List BurstEntry) (pick : BurstEntry → Bool) : List BurstEntry :=
  (l.filter pick).foldl (fun rest e => withoutOutlet rest e.outlet) l

/-- What BURST_REVOKED of a port holds after its entries that a test picks have left the list, in list order, with a cause (R107, R113, R114, R149). -/
def revokedNotices (s : State) (q : Port) (pick : BurstEntry → Bool) (c : BurstCause) : Option (OutletId × BurstCause) :=
  (s.bursts.filter fun e => pick e && decide (e.requester = q)).foldl (fun held e => lowerCause held e.outlet c)
    (s.port q).flags.burstRevoked

/-- The burst list has been emptied with a notice to each requester, cause RESET (R114). -/
def EmptiedForReset (s t : State) : Prop :=
  t.bursts = [] ∧
  (s.BurstsKept → ∀ q, (t.port q).flags.burstRevoked = revokedNotices s q (fun _ => true) .reset)

/-- The flags after a reset to STANDBY: ENGINE_STATE is posted where the engine was in another state, and of the others BURST_REVOKED alone may change (R155, R169, R170). -/
def FlagsOfReset (s t : State) : Prop :=
  ∀ q, (t.port q).flags = { (s.port q).flags with
    engineState := (s.port q).flags.engineState || decide (s.engine.state ≠ .standby)
    burstRevoked := (t.port q).flags.burstRevoked }

/-- Only one drive channel changes. -/
def OnlyChannel (s t : State) (n : OutletId) : Prop := t = { s with channels := s.channels.set n (t.channel n) }

/-- Only one plant input changes. -/
def OnlyInput (s t : State) (i : PlantInput) : Prop :=
  t = { s with inputs := t.inputs } ∧ ∀ j, j ≠ i → t.input j = s.input j

/-- Whether an outlet has a burst entry that a port requested. -/
def entryOfPort (s : State) (n : OutletId) (p : Port) : Bool := (s.entryOf n).any fun e => decide (e.requester = p)

/-- The grant of an outlet after a lapse of a port that leaves it a demand: lowered to the effective demand where the port owned the demand, and then to the demand where the port's CLEARED burst left the list (R10, R149). -/
def lapsedGrant (s : State) (n : OutletId) (p : Port) (demand : Nat) : Nat :=
  let o := s.outlet n
  let owned := if o.owner = .port p then min o.grant ((s.clearedAmount n).getD demand) else o.grant
  if entryOfPort s n p ∧ s.clearedAmount n ≠ none then min owned demand else owned

/-- The table part of a lapse has been applied (R149): each demand the port owned took its lapse action and has no owner, the port's entries have left the burst list with BURST_REVOKED and cause LAPSE in its flags, each grant is lowered as R10 gives and goes to its channel, and the link is LAPSED. -/
def LapseApplied (s t : State) (p : Port) : Prop :=
  (t.port p).link = .lapsed ∧ t.profile = s.profile ∧ t.branches = s.branches ∧
  t.bursts = withoutAll s.bursts (fun e => decide (e.requester = p)) ∧
  t.bursts.map BurstEntry.outlet = (s.bursts.filter fun e => decide (e.requester ≠ p)).map BurstEntry.outlet ∧
  (t.port p).flags.burstRevoked = revokedNotices s p (fun _ => true) .lapse ∧
  (∀ q, q ≠ p → (t.port q).link = (s.port q).link ∧ (t.port q).outstanding = (s.port q).outstanding ∧
    (t.port q).flags.burstRevoked = (s.port q).flags.burstRevoked) ∧
  ∀ n,
    ((s.outlet n).owner = .port p → (t.outlet n).owner = .none ∧
      (t.outlet n).demand = (match (s.outlet n).limits.lapseAction with
        | .hold => (s.outlet n).demand
        | .fallback => min (s.outlet n).limits.fallback (s.outlet n).limits.ceiling
        | .zero => 0)) ∧
    ((s.outlet n).owner ≠ .port p →
      (t.outlet n).owner = (s.outlet n).owner ∧ (t.outlet n).demand = (s.outlet n).demand) ∧
    t.outlet n = { s.outlet n with
      demand := (t.outlet n).demand, owner := (t.outlet n).owner,
      grant := lapsedGrant s n p (t.outlet n).demand
      burstRef := (s.outlet n).burstRef && !entryOfPort s n p } ∧
    t.channel n =
      (if (t.outlet n).grant = (s.outlet n).grant then s.channel n
       else { s.channel n with grant := (t.outlet n).grant })

/-- Every table command that waited has been answered BUSY, and no other port unit changed (R21). -/
def WaitersAnsweredBusy (s t : State) : Prop :=
  ∀ q,
    (∀ code pl revived, (s.port q).outstanding = some (.waiting code pl revived) →
      t.port q = { s.port q with
        outstanding := some (.answered
          { code := code, result := .busy, status := t.statusWord q revived, payload := [] } false) }) ∧
    ((∀ code pl revived, (s.port q).outstanding ≠ some (.waiting code pl revived)) → t.port q = s.port q)

/-- The table command of a port has been carried out by the port as holder and last holder, and its response is formed from the answer it gave (R20, R141). -/
def ServedFrom (s t : State) (p : Port) (c : Code) (pl : List Byte) (revived : Bool) : Prop :=
  let held := { s with arbiter := { s.arbiter with holder := some (.port p), lastHolder := .port p } }
  let a := held.runTable c p pl
  t = { a.state with ports := t.ports } ∧ (∀ q, q ≠ p → t.port q = a.state.port q) ∧
  t.port p = { a.state.port p with
    outstanding := some (.answered
      { code := c.byte, result := a.result, status := t.statusWord p revived, payload := a.payload } false) }

/-! ## The refusals of SET OUTLET CONFIG -/

/-- Some enumerated field of the payload of a SET OUTLET CONFIG carries an undefined code (R2, chapter 10; log 15). -/
abbrev CodeUndefined (pl : List Byte) : Prop :=
  2 < u8At pl 1 ∨ 2 < u8At pl 2 ∨ (5 < u8At pl 3 ∧ u8At pl 3 ≠ 0xFF) ∨ (7 < u8At pl 4 ∧ u8At pl 4 ≠ 0xFF) ∨
  15 < u8At pl 9 ∨ u8At pl 9 / 2 % 4 = 3

/-- The cases of R3 answering BAD_STATE: a change of pool or role under a burst reference, or of pool to UNUSED while SENSING. -/
abbrev ChangeRefused (o : Outlet) (new : OutletStructure) : Prop :=
  (o.burstRef = true ∧
    (o.struct.pool ≠ new.pool ∨ State.isRecharge o.struct.role ≠ State.isRecharge new.role)) ∨
  (o.struct.pool ≠ .unused ∧ new.pool = .unused ∧ State.isSensing o.condition = true)

/-- The cases of R3 answering ROLE: a role, branch, meter or safe state that the pool does not allow. -/
abbrev PoolRefused (new : OutletStructure) : Prop :=
  (new.role ≠ .plain ∧ new.pool ≠ .steam) ∨ (new.branch ≠ none ∧ new.pool ≠ .steam) ∨
  (new.meter ≠ none ∧ new.pool ≠ .water) ∨ (new.safeState = .opened ∧ new.pool = .steam)

/-- The cases of R3 answering DUPLICATE: another outlet binds the store or names the meter channel. -/
abbrev BindingTaken (s : State) (n : OutletId) (new : OutletStructure) : Prop :=
  ∃ m, m ≠ n ∧
    ((new.role ≠ .plain ∧ (s.outlet m).struct.role = new.role) ∨
     (new.meter ≠ none ∧ (s.outlet m).struct.meter = new.meter))

/-! ## Rounds -/

/-- What the flag of an outlet kind holds after an event for each outlet that a test picks, in ascending index, at a port that reads the outlet (R151, R152). -/
def lowestPosted (s : State) (q : Port) (held : Option OutletId) (pick : OutletId → Bool) : Option OutletId :=
  ((List.finRange 24).filter fun n => pick n && (s.rights q n).read).foldl lowerIndex held

/-- The events of a round's close: OUTLET_SHED for each outlet of the pool that came into SHED, OUTLET_RESTORED for each that left it (R47). -/
def ShedEventsPosted (s t : State) (pool : Pool) : Prop :=
  ∀ q,
    (t.port q).flags.outletShed = lowestPosted s q (s.port q).flags.outletShed (fun n =>
      decide ((s.outlet n).struct.pool = pool ∧ (s.outlet n).status ≠ .shed ∧ (t.outlet n).status = .shed)) ∧
    (t.port q).flags.outletRestored = lowestPosted s q (s.port q).flags.outletRestored (fun n =>
      decide ((s.outlet n).struct.pool = pool ∧ (s.outlet n).status = .shed ∧ (t.outlet n).status ≠ .shed))

/-- While an outlet of an earlier tier is short at the close, one of a later tier holds no more than the floor stage owes it; both ACTIVE and without a cleared burst before and after the round (R49). -/
def TiersInOrder (s t : State) (pool : Pool) : Prop :=
  ∀ n m : OutletId,
    (∀ k, k = n ∨ k = m → (s.outlet k).struct.pool = pool ∧ (s.outlet k).condition = .active ∧
      s.clearedAmount k = none ∧ t.clearedAmount k = none) →
    (s.outlet n).limits.tiers[s.profile] < (s.outlet m).limits.tiers[s.profile] →
    (t.outlet n).grant < (t.outlet n).demand →
    (t.outlet m).grant ≤ min (s.outlet m).limits.floor (t.outlet m).demand

/-- The flow M a water round compares with an outlet's grant, or nothing where it does not compare it: a WATER outlet with a meter, CYCLING, its window not saturated, and not the first round of a RUN (R78, R79). -/
def comparedFlow (s : State) (n : OutletId) : Option Nat :=
  match (s.outlet n).struct.pool, (s.outlet n).struct.meter with
  | .water, some f =>
    if (s.channel n).phase = .cycling ∧ (s.pulseChannel f).overflow = false ∧ s.water.firstRound = false then
      some ((s.pulseChannel f).count * (s.pulseChannel f).weight * 3)
    else none
  | _, _ => none

/-- Whether an outlet draws over its tolerance (R80). -/
def overdrawn (o : Outlet) (m : Nat) : Bool := decide (o.grant * (100 + o.limits.tolerance) < m * 100)

/-- The trims and streaks of a water round: kept where nothing is compared; over tolerance the third window in a row cuts the trim by 5, not below 50, and posts OVERDRAW; within it the tenth in a row restores 5, not above 100 (R80, R81). -/
def TrimsStepped (s t : State) : Prop :=
  (∀ n, comparedFlow s n = none → (t.outlet n).trim = (s.outlet n).trim ∧
    (t.outlet n).overStreak = (s.outlet n).overStreak ∧ (t.outlet n).underStreak = (s.outlet n).underStreak) ∧
  (∀ n m, comparedFlow s n = some m → overdrawn (s.outlet n) m = true →
    (t.outlet n).underStreak = 0 ∧
    ((s.outlet n).overStreak < 2 →
      (t.outlet n).overStreak = (s.outlet n).overStreak + 1 ∧ (t.outlet n).trim = (s.outlet n).trim) ∧
    (2 ≤ (s.outlet n).overStreak →
      (t.outlet n).overStreak = 0 ∧ (t.outlet n).trim = max 50 ((s.outlet n).trim - 5))) ∧
  (∀ n m, comparedFlow s n = some m → overdrawn (s.outlet n) m = false →
    (t.outlet n).overStreak = 0 ∧
    ((s.outlet n).underStreak < 9 →
      (t.outlet n).underStreak = (s.outlet n).underStreak + 1 ∧ (t.outlet n).trim = (s.outlet n).trim) ∧
    (9 ≤ (s.outlet n).underStreak →
      (t.outlet n).underStreak = 0 ∧ (t.outlet n).trim = min 100 ((s.outlet n).trim + 5))) ∧
  ∀ q, (t.port q).flags.overdraw = lowestPosted s q (s.port q).flags.overdraw (fun n =>
    (comparedFlow s n).any (overdrawn (s.outlet n)) && decide (2 ≤ (s.outlet n).overStreak))

/-- Where an outlet stands in the hand-out of a remainder that starts at a rotation pointer (R35). -/
def handPlace (ptr n : OutletId) : Nat := (n.val + 24 - ptr.val) % 24

/-! ## Conversions and drive -/

/-- The next conversion is that of the first enabled ratio channel from an index on, or of the reference, with its whole gate to go (R84). -/
def ScanGoesOn (t : State) (i : Nat) : Prop :=
  t.scan.gateLeft = 100 ∧
  (t.scan.slot = .reference ↔ ∀ m : RatioId, i ≤ m.val → (t.ratioChannel m).state = .disabled) ∧
  ∀ m : RatioId, t.scan.slot = .ratio m ↔
    i ≤ m.val ∧ (t.ratioChannel m).state ≠ .disabled ∧
    ∀ k : RatioId, i ≤ k.val → k < m → (t.ratioChannel k).state = .disabled

/-- A channel in VALID or SUSPECT has become FAULT, any other stays (R91, R92). -/
def ChannelFaulted (c d : RatioChannel) : Prop :=
  (c.state = .valid ∨ c.state = .suspect → d = { c with state := .fault, strikes := 3, reading := none, stale := false }) ∧
  (c.state = .fault ∨ c.state = .disabled → d = c)

/-- A channel struck for an invalid conversion with a cause (R89). -/
def StruckFor (c d : RatioChannel) (k : Cause) : Prop :=
  (c.state = .valid → d = { c with state := .suspect, strikes := 1, lastCause := k }) ∧
  (c.state = .suspect → c.strikes < 2 → d = { c with strikes := c.strikes + 1, lastCause := k }) ∧
  (c.state = .suspect → 2 ≤ c.strikes →
    d = { c with state := .fault, strikes := 3, reading := none, stale := false, lastCause := k }) ∧
  (c.state = .fault → d = { c with lastCause := k })

/-- The duty D of a channel by R118, from its service override or its drive grant. While an engine-state write waits for the table, the drive grant counts as the 0 the write brings (log 41). -/
def formedDuty (s : State) (n : OutletId) : Nat :=
  let c := s.channel n
  let grant := if s.arbiter.engineWrite = .none then c.grant else 0
  let raw := c.override.getD (if c.ceiling = 0 then 0 else grant * c.trim * c.copy.period / (c.ceiling * 100))
  if raw = 0 then 0
  else if c.copy.period < raw + c.copy.minOn then c.copy.period
  else if raw < c.copy.minOn then 0
  else raw

/-- The applied duty of a warming channel whose duty is d (R122). -/
def warmed (st : OutletStructure) (d : Nat) : Nat :=
  let cap := st.period * st.warmCap / 100
  if d ≤ cap then d else if st.minOn ≤ cap ∧ cap + st.minOn ≤ st.period then cap else 0

/-- A channel whose period has begun, as a start with the duty d leaves it (R120, R122). -/
def started (c : Channel) (d : Nat) : Channel :=
  if c.override ≠ none then { c with phase := .held, applied := d, output := .on }
  else if c.copy.coldTime < c.closedTime ∧ 0 < c.copy.dwell then
    { c with phase := .warming, dwellLeft := c.copy.dwell * 1000, applied := warmed c.copy d,
             output := if warmed c.copy d = 0 then .off else .on }
  else { c with phase := .cycling, applied := d, output := .on }

/-- The settle timer of a branch, if there is one, has been restarted, and nothing else of the branches changed (R124). -/
def BranchRestarted (s t : State) (b : Option BranchId) : Prop :=
  ∀ k, t.branch k = if b = some k then restarted (s.branch k) else s.branch k

/-- The duty that a structure shows in the safe pattern of STANDBY or of SAFE, with a held duty (R131). -/
def patternLine (st : OutletStructure) (c : Channel) (held : Nat) (inSafe : Bool) : Nat :=
  if st.pool = .unused ∨ c.condition ≠ .active ∨ c.pendingAbsence = true then 0
  else match st.safeState with
    | .closed => 0
    | .opened => st.period
    | .hold => if inSafe then held else 0

/-- The duty a channel's structure copy shows in the safe pattern of STANDBY or of SAFE (R131). -/
def patternOf (c : Channel) (inSafe : Bool) : Nat := patternLine c.copy c c.heldDuty inSafe

/-- A channel that enters the safe pattern of STANDBY or of SAFE at once, for the rest of its period: a pattern that is off turns the output off and starts the watch afresh, OPEN turns it on, and HOLD keeps in SAFE the applied duty and the output it has (R119, R126, R131, R132; the watch of a channel that is off already is log 39). -/
def patterned (inSafe : Bool) (c : Channel) : Channel :=
  let held := if inSafe = true ∧ (c.phase = .warming ∨ c.phase = .cycling ∨ c.phase = .held) then c.applied else 0
  let d := patternLine c.inUse c held inSafe
  { c with phase := .safePattern, heldDuty := held, override := none, dwellLeft := 0, applied := d
           output := if d = 0 then .off else if c.inUse.safeState = .opened then .on else c.output
           watchCount := if d = 0 then 0 else c.watchCount
           watchLatch := c.watchLatch && decide (d ≠ 0) }

/-- The record of a branch whose settle timer an event restarts when it turns off an output that was on in its period; off says which channels the event leaves without a duty (R119, R124, R132, R136). -/
def closes (s : State) (off : OutletId → Bool) (b : BranchId) (r : Branch) : Branch :=
  if ∃ n, (s.channel n).applied ≠ 0 ∧ off n = true ∧ (s.channel n).inUse.branch = some b then restarted r else r

/-- The drive channels and branches after an entry to a safe pattern of channels that are not in TEST: queues emptied, and a close where an output was turned off (R132). -/
def PatternsEntered (s t : State) (inSafe : Bool) : Prop :=
  (∀ n, (s.channel n).phase ≠ .test → t.channel n = { patterned inSafe (s.channel n) with grant := (t.channel n).grant }) ∧
  (∀ n, (s.channel n).phase = .test → t.channel n = { s.channel n with grant := (t.channel n).grant }) ∧
  ∀ b, t.branch b =
    closes s (fun n => decide ((s.channel n).phase ≠ .test ∧ (patterned inSafe (s.channel n)).applied = 0)) b
      { s.branch b with queue := [] }

/-- The ABSENT write of an outlet has been applied to its record, its burst and the ports (R15). -/
def AbsentWritten (s t : State) (n : OutletId) : Prop :=
  t.outlet n = { s.outlet n with
    condition := .absent, grant := 0, status := .idle,
    burstRef := (s.outlet n).burstRef && (s.entryOf n).isNone } ∧
  t.bursts = withoutOutlet s.bursts n ∧
  ∀ q, t.port q =
    (let u := entryEvent s n (fun e => .burstRevoked e.outlet .absent) q
     if (s.rights q n).read then withEvent u (.outletAbsent n) else u)

/-- The expiry of a sense has been written: the prior condition, UNKNOWN, and SENSE_DONE to the readers (R18). -/
def SenseExpired (s t : State) (n : OutletId) (k : Prior) : Prop :=
  t.outlet n = { s.outlet n with condition := State.priorOf (.sensing k), continuity := .unknown } ∧
  (t.channel n).condition = State.priorOf (.sensing k) ∧ ∀ q, t.port q = readEvent s n (.senseDone n) q

/-- The entry of an outlet has left the list with a notice to its requester, the grant lowered to the demand when the entry was CLEARED (R107). -/
def EntryRemoved (s t : State) (n : OutletId) (e : BurstEntry) (notice : Event) : Prop :=
  t.bursts = withoutEntry s.bursts e ∧
  t.outlet n = { s.outlet n with
    burstRef := false
    grant := if e.isCleared then lowered (s.outlet n).grant (s.outlet n).demand else (s.outlet n).grant } ∧
  t.channel n =
    (if e.isCleared then loweredChannel (s.channel n) (s.outlet n).grant (s.outlet n).demand else s.channel n) ∧
  ∀ q, t.port q = if q = e.requester then withEvent (s.port q) notice else s.port q

/-- The drive channels changed only in their grants, which are 0. -/
def DriveGrantsOnly (s t : State) : Prop :=
  (∀ n, t.channel n = { s.channel n with grant := 0 }) ∧ t.branches = s.branches

/-! ## Entry to SAFE -/

/-- A channel at the entry to SAFE, k being the condition of its outlet: a sense in progress ends and its channel shows a pattern that is off, every other one outside TEST takes its pattern line (R130 to R132, R160). -/
def safeChannel (k : Condition) (c : Channel) : Channel :=
  if State.isSensing k = true then
    { c with condition := State.priorOf k, phase := .safePattern, applied := 0, output := .off, holdLeft := none
             heldDuty := 0, override := none, dwellLeft := 0, watchCount := 0, watchLatch := false }
  else if c.phase = .test then c
  else patterned true c

/-- The engine has entered SAFE from STANDBY, RUN or SERVICE: timers stopped and requests withdrawn, ENGINE_STATE to all ports, senses ended with UNKNOWN and SENSE_DONE, the channels in the safe pattern of SAFE, and the grants 0 and the burst list emptied at once when the table is free, by a waiting write otherwise (R157, R160). The flags are those of before with these notices. That the senses end in the record at once, also where the table is held, is log 20, and that an engine-state write that waits already becomes one with that of the entry is log 12. -/
def SafeEntered (s t : State) (before : Port → EventFlags) : Prop :=
  let ended := fun n => State.isSensing (s.outlet n).condition
  t.engine = { s.engine with state := .safe } ∧ t.steam = { s.steam with timer := none } ∧
  t.water = { s.water with timer := none } ∧ t.profile = s.profile ∧
  t.arbiter = (if s.tableFree = true then
      { s.arbiter with steamRequest := false, waterRequest := false, removals := [], engineWrite := .none }
    else { s.arbiter with steamRequest := false, waterRequest := false, engineWrite := .grantsAndBursts }) ∧
  (s.tableFree = true → EmptiedForReset s t) ∧
  (s.tableFree = false → t.bursts = s.bursts ∧ ∀ q, (t.port q).flags.burstRevoked = (before q).burstRevoked) ∧
  (∀ n,
    let o := if ended n = true then
      { s.outlet n with condition := State.priorOf (s.outlet n).condition, continuity := .unknown } else s.outlet n
    t.outlet n =
      if s.tableFree = true then { o with grant := 0, burstRef := o.burstRef && (s.entryOf n).isNone } else o) ∧
  (∀ n, t.channel n = { safeChannel (s.outlet n).condition (s.channel n) with
      grant := if s.tableFree = true then 0 else (s.channel n).grant }) ∧
  (∀ b, t.branch b =
    closes s (fun n => decide (ended n = false ∧ (s.channel n).phase ≠ .test ∧ (patterned true (s.channel n)).applied = 0)) b
      { s.branch b with queue := [] }) ∧
  ∀ q, (t.port q).flags = { before q with
    engineState := true
    senseDone := lowestPosted s q (before q).senseDone ended
    burstRevoked := (t.port q).flags.burstRevoked }

/-- The state without the pending removals of the Burst List. -/
def noRemovals (s : State) : State := { s with arbiter := { s.arbiter with removals := [] } }

end Sys2Proof.Statements
end

