-- ==== Sys2Proof/Certificates/Slice0/Obligations.lean ====
section
/-! DEFINITION. The statements for the provers. -/

section

open Sys2Proof Sys2Proof.Machine Sys2Proof.Statements

/-! ## The step and the reset -/

/-- The command at the front of the queue is carried out on the state with the queue's rest. -/
def Obligations.StepCarriesOutTheFrontCommand : Prop :=
  ∀ (s : State) (c : Instr) (rest : List Instr),
    step { s with pending := c :: rest } = exec c { s with pending := rest }

/-- With no command waiting, the first due event happens, and with none due one millisecond passes. In it every timer that runs loses one: in RUN the round timers and the burst times count and outside RUN neither does; in every state the dwell times, the senses' limits, the settle timers, the reference hold, the gate, the debounce intervals, the silence timers of ACTIVE ports outside SERVICE and the operation of a self-test, save or load that holds the table; and the quiet times of the lines count up. Nothing else changes but that a response that waited is now being sent (log 14) and a port's hold of the table is over (log 6). That time passes so, in steps of a millisecond and with due events first, is the model's choice (log 1, log 2). -/
def Obligations.EmptyQueueStepIsTheDueEventOrOneMillisecond : Prop :=
  ∀ s : State, s.pending = [] →
    (∀ i l, s.dueEvents = i :: l → step s = exec i s) ∧
    (s.dueEvents = [] →
      let less := fun x : Option Nat => x.map fun n => n - 1
      ∃ t, step s = .next t ∧ RecordsKept { s with bursts := t.bursts } t ∧
        (s.engine.state = .run →
          t.steam = { s.steam with timer := less s.steam.timer } ∧
          t.water = { s.water with timer := less s.water.timer } ∧
          t.bursts = s.bursts.map (fun e => { e with state := match e.state with
            | .queued waited => .queued (min (waited + 1) (e.waitLimit * 1000))
            | .cleared left rank => .cleared (left - 1) rank })) ∧
        (s.engine.state ≠ .run → t.steam = s.steam ∧ t.water = s.water ∧ t.bursts = s.bursts) ∧
        (∀ n, t.channel n = { s.channel n with
          dwellLeft := (s.channel n).dwellLeft - (if (s.channel n).phase = .warming then 1 else 0)
          holdLeft := less (s.channel n).holdLeft }) ∧
        (∀ b, t.branch b = { s.branch b with timer := less (s.branch b).timer }) ∧
        t.reference = { s.reference with hold := less s.reference.hold } ∧
        t.scan = { s.scan with gateLeft := s.scan.gateLeft - 1 } ∧
        (∀ i, t.input i = { s.input i with debounce := match (s.input i).debounce with
          | .establishing left seen => .establishing (left - 1) seen
          | .steady => .steady
          | .differing left => .differing (left - 1) }) ∧
        (∀ q, t.port q = { s.port q with
          quiet := min ((s.port q).quiet + 1) 6
          outstanding := match (s.port q).outstanding with
            | some (.answered r false) => some (.answered r true)
            | o => o
          silence := if (s.port q).link = .active ∧ s.engine.state ≠ .service
            then (s.port q).silence.map fun tm => { tm with left := tm.left - 1 } else (s.port q).silence }) ∧
        t.engine = { s.engine with
          opLeft := s.engine.opLeft -
            (if s.arbiter.holder = some .selfTest ∨ s.arbiter.holder = some .store then 1 else 0) } ∧
        t.arbiter = { s.arbiter with
          holder := if ∃ p, s.arbiter.holder = some (.port p) then none else s.arbiter.holder } ∧
        t.stores = s.stores ∧ t.ratio = s.ratio ∧ t.pulse = s.pulse ∧ t.store = s.store ∧ t.pending = s.pending)

/-- The state after reset: STANDBY with nothing granted, nothing waiting, every flag clear and masked, every channel in the safe pattern (the new part of log 9). -/
def Obligations.ResetValues : Prop :=
  State.reset.engine.state = .standby ∧ State.reset.engine.op = .none ∧ State.reset.arbiter.holder = none ∧
  State.reset.arbiter.lastHolder = .store ∧ State.reset.bursts = [] ∧ State.reset.pending = [] ∧
  State.reset.profile = 0 ∧ State.reset.steam.timer = none ∧ State.reset.water.timer = none ∧
  State.reset.steam.roundCount = 0 ∧ State.reset.parity = false ∧ State.reset.reference.state = .pending ∧
  (∀ n, (State.reset.outlet n).grant = 0 ∧ (State.reset.outlet n).status = .idle ∧ (State.reset.outlet n).demand = 0 ∧
    (State.reset.outlet n).trim = 100 ∧ (State.reset.channel n).phase = .safePattern ∧
    (State.reset.channel n).grant = 0 ∧ (State.reset.channel n).closedTime = 0) ∧
  (∀ b, (State.reset.boiler b).postedKw = 0 ∧ (State.reset.boiler b).armed = false ∧
    (State.reset.boiler b).poster = none) ∧
  (∀ p, (State.reset.port p).link = .active ∧ (State.reset.port p).outstanding = none ∧
    (State.reset.port p).flags = .clear ∧ (State.reset.port p).mask = BitVec.allOnes 19 ∧
    (State.reset.port p).attention = false)

/-- The invariants hold at reset. That the stored image of a new part leaves an ADMIN, which AdminKept also asks, rests on the model's choice of that image, the built-in defaults (log 9). -/
def Obligations.InvariantsHoldAtReset : Prop :=
  State.reset.BurstsKept ∧ State.reset.BindingsKept ∧ State.reset.AdminKept ∧ State.reset.TableKept

/-- Every step keeps the burst list to 8 entries and one entry per outlet. -/
def Obligations.EveryStepKeepsTheBurstList : Prop :=
  ∀ s t : State, s.BurstsKept → step s = .next t → t.BurstsKept

/-- Every step keeps each store bound by one outlet at most and each pulse channel named by one at most. -/
def Obligations.EveryStepKeepsTheBindings : Prop :=
  ∀ s t : State, s.BindingsKept → step s = .next t → t.BindingsKept

/-- Every step leaves some port with ADMIN. -/
def Obligations.EveryStepLeavesAnAdmin : Prop :=
  ∀ s t : State, s.AdminKept → step s = .next t → t.AdminKept

/-- Every step keeps the holder of the table and the operation in progress together. -/
def Obligations.EveryStepKeepsTheTableHolder : Prop :=
  ∀ s t : State, s.TableKept → step s = .next t → t.TableKept

/-! ## Reads that do not wait for the table -/

/-- The status word that a response carries, bit by bit: the engine state, busy while an operation is in progress, the lowest bit of the steam round count, attention while a flag of the port is set that its mask leaves, the link (1 for LAPSING or LAPSED and in the response to the frame that revived the port), LOCKOUT, LOWPR, CONFIG_DEFAULTED, the reset cause, and 0 above bit 10. IDENTIFY and READ STATUS answer OK with it and with the identity or the three link states, from any port that receives. -/
def Obligations.IdentifyAndReadStatusAnswer : Prop :=
  (∀ (s : State) (p : Port) (revived : Bool),
    let w := s.statusWord p revived
    let u := s.port p
    w.toNat % 4 = (match s.engine.state with
      | .standby => 0
      | .run => 1
      | .service => 2
      | .safe => 3) ∧
    (w.getLsbD 2 = true ↔ s.engine.op ≠ .none) ∧
    w.getLsbD 3 = s.steam.roundCount.getLsbD 0 ∧
    (w.getLsbD 4 = true ↔ ∃ k < 19, u.flags.bits.getLsbD k = true ∧ u.mask.getLsbD k = false) ∧
    (w.getLsbD 5 = true ↔ revived = true ∨ u.link = .lapsing ∨ u.link = .lapsed) ∧
    w.getLsbD 6 = (s.input .lockout).asserted ∧ w.getLsbD 7 = (s.input .lowpr).asserted ∧
    w.getLsbD 8 = s.engine.defaulted ∧
    w.toNat / 512 = (match s.engine.cause with
      | .powerOn => 0
      | .resetLine => 1
      | .tableReset => 2
      | .engineReset => 3)) ∧
  ∀ (s : State) (p : Port), Receives s p →
    (∃ t, exec (.identify p []) s = .next t ∧ AllKept s t ∧
      PortAnswered s t p s.port 0x01 .ok [0x4A, 0x44, 0x41, 0x2D, 0x32, 0x34, 1, 1, 1, 24, 3, BitVec.ofNat 8 p.val]) ∧
    (∃ t, exec (.readStatus p []) s = .next t ∧ AllKept s t ∧
      PortAnswered s t p s.port 0x02 .ok
        [BitVec.ofNat 8 (linkCode (t.port 0).link), BitVec.ofNat 8 (linkCode (t.port 1).link),
         BitVec.ofNat 8 (linkCode (t.port 2).link)])

/-- READ POOL answers the steam record in 28 bytes, a branch record in 3 bytes and its queue, the water record in 21 bytes, and BAD_INDEX for any other pool or part. READ STORE answers a store's record in 20 bytes, READ CHANNEL a channel's fields in 6, 12 or 8 bytes; another store number or channel code answers BAD_INDEX, and a payload of another length than the command's BAD_LENGTH. -/
def Obligations.RecordReadsAnswer : Prop :=
  ∀ (s : State) (p : Port), Receives s p →
    (∀ a b : Byte, ∃ t r pl, exec (.readPool p [a, b]) s = .next t ∧ AllKept s t ∧ PortAnswered s t p s.port 0x04 r pl ∧
        (a = 0 → b = 0 → r = .ok ∧ pl = s.steamPayload ∧ pl.length = 28) ∧
        (∀ k : BranchId, a = 0 → b.toNat = k.val + 1 →
          r = .ok ∧ pl = branchPayload (s.branch k) ∧ pl.length = 3 + (s.branch k).queue.length) ∧
        (a = 1 → b = 0 → r = .ok ∧ pl = s.waterPayload ∧ pl.length = 21) ∧
        ((1 < a.toNat ∨ (a = 0 ∧ 6 < b.toNat) ∨ (a = 1 ∧ b ≠ 0)) → r = .badIndex ∧ pl = [])) ∧
    (∀ i : StoreId, ∃ t, exec (.readStore p [BitVec.ofNat 8 i.val]) s = .next t ∧ AllKept s t ∧
      PortAnswered s t p s.port 0x05 .ok (s.storePayload i) ∧ (s.storePayload i).length = 20) ∧
    (∃ t, exec (.readChannel p [0x00]) s = .next t ∧ AllKept s t ∧
      PortAnswered s t p s.port 0x06 .ok (State.referencePayload s.reference) ∧ (State.referencePayload s.reference).length = 6) ∧
    (∀ m : RatioId, ∃ t, exec (.readChannel p [BitVec.ofNat 8 (0x10 + m.val)]) s = .next t ∧ AllKept s t ∧
      PortAnswered s t p s.port 0x06 .ok (State.ratioPayload (s.ratioChannel m)) ∧
      (State.ratioPayload (s.ratioChannel m)).length = 12) ∧
    (∀ f : PulseId, ∃ t, exec (.readChannel p [BitVec.ofNat 8 (0x20 + f.val)]) s = .next t ∧ AllKept s t ∧
      PortAnswered s t p s.port 0x06 .ok (State.pulsePayload (s.pulseChannel f)) ∧
      (State.pulsePayload (s.pulseChannel f)).length = 8) ∧
    (∀ pl : List Byte, pl.length ≠ 2 → Refused s p .readPool pl .badLength) ∧
    (∀ pl : List Byte, pl.length ≠ 1 → Refused s p .readStore pl .badLength ∧ Refused s p .readChannel pl .badLength) ∧
    (∀ b : Byte, 1 < b.toNat → Refused s p .readStore [b] .badIndex) ∧
    (∀ b : Byte, ¬ ChannelNamed b → Refused s p .readChannel [b] .badIndex)

/-- READ EVENTS returns the flags of the sending port and clears them, and MASK EVENTS writes its mask; the attention line follows, low exactly while a flag is set that the mask leaves. -/
def Obligations.ReadEventsTakesTheFlagsAndMaskEventsWritesTheMask : Prop :=
  ∀ (s : State) (p : Port), Receives s p →
    (∃ t, exec (.readEvents p []) s = .next t ∧ AllKept s t ∧
      PortAnswered s t p (fun q => if q = p then { s.port q with flags := .clear } else s.port q) 0x08 .ok
        (s.port p).flags.payload ∧ (t.port p).attention = false ∧ (t.port p).atnHigh = true) ∧
    (∀ a b c : Byte,
      let mask := BitVec.ofNat 19 (a.toNat * 65536 + b.toNat * 256 + c.toNat)
      ∃ t, exec (.maskEvents p [a, b, c]) s = .next t ∧ AllKept s t ∧
      PortAnswered s t p
        (fun q => if q = p then { s.port q with mask := mask } else s.port q) 0x30 .ok [] ∧
      ((t.port p).atnHigh = false ↔
        ∃ k < 19, (s.port p).flags.bits.getLsbD k = true ∧ mask.getLsbD k = false))

/-- READ OUTLET answers a part of the record in 14, 13 or 19 bytes. READ BURSTS answers the list total, the number of entries, the next position and the first two entries from the start position on whose outlets the port reads, 13 bytes each. Both hold the table and change nothing else; the port's hold then lasts until its response is gone (the model's choice: log 6). READ RIGHTS answers the own port without a right and another port with ADMIN: CONFIG in 20 bytes, EFFECTIVE in 25; without ADMIN another port answers DENIED to either form. -/
def Obligations.OutletBurstAndRightsReadsAnswer : Prop :=
  ∀ (s : State) (p : Port), Receives s p →
    (∀ n : OutletId, TableIdle s → (s.rights p n).read = true →
      (∃ t, exec (.readOutlet p [BitVec.ofNat 8 n.val, 0]) s = .next t ∧ AllKeptHeld s t p ∧
        PortAnswered s t p s.port 0x03 .ok (State.structurePayload (s.outlet n).struct) ∧
        (State.structurePayload (s.outlet n).struct).length = 14) ∧
      (∃ t, exec (.readOutlet p [BitVec.ofNat 8 n.val, 1]) s = .next t ∧ AllKeptHeld s t p ∧
        PortAnswered s t p s.port 0x03 .ok (State.limitsPayload (s.outlet n).limits) ∧
        (State.limitsPayload (s.outlet n).limits).length = 13) ∧
      (∃ t, exec (.readOutlet p [BitVec.ofNat 8 n.val, 2]) s = .next t ∧ AllKeptHeld s t p ∧
        PortAnswered s t p s.port 0x03 .ok (s.runtimePayload n) ∧ (s.runtimePayload n).length = 19)) ∧
    (∀ b : Byte, TableIdle s →
      let found := ((s.burstsFrom b.toNat).filter fun x => (s.rights p x.2.outlet).read).take 2
      let next := match found with
        | [_, (k, _)] => k + 1
        | _ => 0
      (∀ k e, (k, e) ∈ s.burstsFrom b.toNat ↔ 1 ≤ k ∧ b.toNat ≤ k ∧ s.bursts[k - 1]? = some e) ∧
      (∀ k e, (State.burstPayload k e).length = 13) ∧
      ∃ t, exec (.readBursts p [b]) s = .next t ∧ AllKeptHeld s t p ∧
        PortAnswered s t p s.port 0x07 .ok
          ([BitVec.ofNat 8 s.bursts.length, BitVec.ofNat 8 found.length, BitVec.ofNat 8 next] ++
            (found.map fun x => State.burstPayload x.1 x.2).flatten)) ∧
    (∀ q : Port, q = p ∨ (s.globals p).admin = true →
      (∃ t, exec (.readRights p [BitVec.ofNat 8 q.val, 0]) s = .next t ∧ AllKept s t ∧
        PortAnswered s t p s.port 0x09 .ok (State.configPayload (s.port q).config) ∧
        (State.configPayload (s.port q).config).length = 20) ∧
      (∃ t, exec (.readRights p [BitVec.ofNat 8 q.val, 1]) s = .next t ∧ AllKept s t ∧
        PortAnswered s t p s.port 0x09 .ok (s.effectivePayload q) ∧ (s.effectivePayload q).length = 25)) ∧
    (∀ (q : Port) (form : Byte), q ≠ p → (s.globals p).admin = false → form.toNat ≤ 1 →
      ∃ t, exec (.readRights p [BitVec.ofNat 8 q.val, form]) s = .next t ∧ AllKept s t ∧
        PortAnswered s t p s.port 0x09 .denied [])

/-! ## Posted capacity and settings -/

/-- POST CAPACITY writes the boiler record, arms the boiler unless its trip input is asserted, and answers by the first case that applies; the short form keeps the lapse capacity. -/
def Obligations.PostCapacityWritesTheBoiler : Prop :=
  ∀ (s : State) (p : Port) (b : BoilerId) (h l : Byte) (long : Option (Byte × Byte)), Receives s p →
    (s.globals p).capacity = true →
    let v := h.toNat * 256 + l.toNat
    let lapse := long.map fun x => x.1.toNat * 256 + x.2.toNat
    ∃ t, exec (.postCapacity p ([BitVec.ofNat 8 b.val, h, l] ++ (long.map fun x => [x.1, x.2]).getD [])) s = .next t ∧
      SteamWritten s t ∧
      t.boiler b =
        { postedKw := min v 8000, armed := !s.tripAsserted b, poster := some p,
          lapseCapacity := (lapse.map fun x => min x 8000).getD (s.boiler b).lapseCapacity } ∧
      (∀ k, k ≠ b → t.boiler k = s.boiler k) ∧ t.steam = { s.steam with boilers := t.steam.boilers } ∧
      PortAnswered s t p s.port 0x20
        (if s.tripAsserted b then .tripActive
         else if 8000 < v ∨ 8000 < lapse.getD 0 then .clamped else .ok) []

/-- POST MARGIN writes the margin clamped to 0 to 30 and, in the long form, the low-pressure fraction clamped to 20 to 100. POST PUMP FLOW writes P and the pump posting port and, in the long form, the lapse pump flow, each clamped to 0 to 2000. -/
def Obligations.PostMarginAndPumpFlowWriteTheirRecords : Prop :=
  ∀ (s : State) (p : Port), Receives s p → (s.globals p).capacity = true →
    (∀ (m : Byte) (f : Option Byte),
      ∃ t, exec (.postMargin p (m :: f.toList)) s = .next t ∧ SteamWritten s t ∧
        t.steam = { s.steam with
          margin := min m.toNat 30
          lowFraction := (f.map fun x => max 20 (min x.toNat 100)).getD s.steam.lowFraction } ∧
        PortAnswered s t p s.port 0x21
          (if 30 < m.toNat ∨ f.any (fun x => decide (x.toNat < 20 ∨ 100 < x.toNat)) = true then .clamped else .ok) []) ∧
    (∀ (h l : Byte) (long : Option (Byte × Byte)),
      let v := h.toNat * 256 + l.toNat
      let lapse := long.map fun x => x.1.toNat * 256 + x.2.toNat
      ∃ t, exec (.postPumpFlow p ([h, l] ++ (long.map fun x => [x.1, x.2]).getD [])) s = .next t ∧ WaterWritten s t ∧
        t.water = { s.water with flow := min v 2000, poster := some p,
                                 lapseFlow := (lapse.map fun x => min x 2000).getD s.water.lapseFlow } ∧
        PortAnswered s t p s.port 0x22 (if 2000 < v ∨ 2000 < lapse.getD 0 then .clamped else .ok) [])

/-- The commands that write posted capacity and settings, and SERVICE DRIVE, are refused in the order of their checks, and nothing is written. POST CAPACITY, POST MARGIN and POST PUMP FLOW: BAD_LENGTH, DENIED, and BAD_INDEX for a boiler number other than 0 or 1. SET STORE: BAD_LENGTH, DENIED, BAD_INDEX for a store or channel number, DUPLICATE for one channel named twice. SET CHANNEL, SET BRANCH and SET WINDOW: BAD_LENGTH, DENIED, BAD_INDEX for an undefined number or code, BAD_STATE outside STANDBY. SERVICE DRIVE: BAD_LENGTH, DENIED, BAD_INDEX for an outlet above 23 or an undefined form, BAD_STATE outside SERVICE, BAD_INDEX on an UNUSED outlet, BAD_STATE where the condition copy is not ACTIVE or an absence is pending. MASK EVENTS: BAD_LENGTH. Which lengths an undefined channel code or form admits is the model's reading (log 17). -/
def Obligations.PostingsAndSettingsAreRefusedInOrder : Prop :=
  ∀ (s : State) (p : Port) (pl : List Byte), Receives s p →
    (pl.length ≠ 3 → pl.length ≠ 5 → Refused s p .postCapacity pl .badLength) ∧
    (pl.length ≠ 1 → pl.length ≠ 2 → Refused s p .postMargin pl .badLength) ∧
    (pl.length ≠ 2 → pl.length ≠ 4 → Refused s p .postPumpFlow pl .badLength) ∧
    ((s.globals p).capacity = false →
      ((pl.length = 3 ∨ pl.length = 5) → Refused s p .postCapacity pl .denied) ∧
      ((pl.length = 1 ∨ pl.length = 2) → Refused s p .postMargin pl .denied) ∧
      ((pl.length = 2 ∨ pl.length = 4) → Refused s p .postPumpFlow pl .denied)) ∧
    ((s.globals p).capacity = true → (pl.length = 3 ∨ pl.length = 5) → 1 < u8At pl 0 →
      Refused s p .postCapacity pl .badIndex) ∧
    (let named := fun k : Nat => u8At pl k ≤ 5 ∨ u8At pl k = 0xFF
     (pl.length ≠ 10 → pl.length ≠ 12 → Refused s p .setStore pl .badLength) ∧
     ((pl.length = 10 ∨ pl.length = 12) →
       ((s.globals p).store = false → Refused s p .setStore pl .denied) ∧
       ((s.globals p).store = true → (1 < u8At pl 0 ∨ ¬ named 1 ∨ ¬ named 2) → Refused s p .setStore pl .badIndex) ∧
       ((s.globals p).store = true → u8At pl 0 ≤ 1 → u8At pl 1 ≤ 5 → u8At pl 2 = u8At pl 1 →
         Refused s p .setStore pl .duplicate))) ∧
    (let code := byteAt pl 0
     let wrong := ¬ ChannelNamed code ∨ (code = 0x00 ∧ 2 < u8At pl 1) ∨ (RatioNamed code ∧ 1 < u8At pl 1)
     (¬ ChannelLength pl → Refused s p .setChannel pl .badLength) ∧
     (ChannelLength pl →
       ((s.globals p).admin = false → Refused s p .setChannel pl .denied) ∧
       ((s.globals p).admin = true → wrong → Refused s p .setChannel pl .badIndex) ∧
       ((s.globals p).admin = true → ¬ wrong → s.engine.state ≠ .standby → Refused s p .setChannel pl .badState))) ∧
    ((pl.length ≠ 2 → Refused s p .setBranch pl .badLength) ∧
     (pl.length = 2 →
       ((s.globals p).admin = false → Refused s p .setBranch pl .denied) ∧
       ((s.globals p).admin = true → 5 < u8At pl 0 → Refused s p .setBranch pl .badIndex) ∧
       ((s.globals p).admin = true → u8At pl 0 ≤ 5 → s.engine.state ≠ .standby →
         Refused s p .setBranch pl .badState))) ∧
    (let wrong := 2 < u8At pl 0 ∨ 4 < u8At pl 1 ∨
       (u8At pl 1 < 4 ∧ (5 < u8At pl 3 ∨ 3 < u8At pl 4 ∨ 32 ≤ u8At pl 5)) ∨
       (u8At pl 1 = 4 ∧ (32 ≤ u8At pl 2 ∨ 16 ≤ u8At pl 3))
     (pl.length ≠ 6 → Refused s p .setWindow pl .badLength) ∧
     (pl.length = 6 →
       ((s.globals p).admin = false → Refused s p .setWindow pl .denied) ∧
       ((s.globals p).admin = true → wrong → Refused s p .setWindow pl .badIndex) ∧
       ((s.globals p).admin = true → ¬ wrong → s.engine.state ≠ .standby → Refused s p .setWindow pl .badState))) ∧
    ((¬ DriveLength pl → Refused s p .serviceDrive pl .badLength) ∧
     (DriveLength pl →
       ((s.globals p).admin = false → Refused s p .serviceDrive pl .denied) ∧
       ((s.globals p).admin = true → (23 < u8At pl 0 ∨ 1 < u8At pl 1) → Refused s p .serviceDrive pl .badIndex) ∧
       ((s.globals p).admin = true → u8At pl 1 ≤ 1 → ∀ n : OutletId, u8At pl 0 = n.val →
         let away := (s.channel n).condition ≠ .active ∨ (s.channel n).pendingAbsence = true
         (s.engine.state ≠ .service → Refused s p .serviceDrive pl .badState) ∧
         (s.engine.state = .service → (s.outlet n).struct.pool = .unused → Refused s p .serviceDrive pl .badIndex) ∧
         (s.engine.state = .service → (s.outlet n).struct.pool ≠ .unused → away →
           Refused s p .serviceDrive pl .badState)))) ∧
    (pl.length ≠ 3 → Refused s p .maskEvents pl .badLength)

/-- SET STORE writes the clamped settings of a store, keeps D_low and the fail derate in the short form, and forms the reading again when a channel changed. -/
def Obligations.SetStoreWritesTheStore : Prop :=
  ∀ (s : State) (p : Port) (i : StoreId) (pl : List Byte) (a b : Option RatioId), Receives s p →
    (s.globals p).store = true → pl.length = 10 ∨ pl.length = 12 → u8At pl 0 = i.val →
    optIndex? 6 (byteAt pl 1) = some a → optIndex? 6 (byteAt pl 2) = some b → (a = none ∨ a ≠ b) →
    let set := max 400 (min (s16At pl 3) 750)
    let c : StoreSettings :=
      { primary := a, secondary := b, setpoint := set, lowPoint := max 300 (min (s16At pl 5) (set - 10)),
        gain := max 1 (min (u8At pl 7) 255), fallback := min (u16At pl 8) 4000 }
    ∃ t r, exec (.setStore p pl) s = .next t ∧ RecordsKept s t ∧ DriveKept s t ∧ t.steam = s.steam ∧
      t.reference = s.reference ∧ t.ratio = s.ratio ∧ t.pulse = s.pulse ∧ t.scan = s.scan ∧ RestKept s t ∧
      EngineKept s t ∧ ArbiterKept s t ∧
      t.storeRec i = { s.storeRec i with
        settings := c
        reading := if (s.storeRec i).settings.primary = a ∧ (s.storeRec i).settings.secondary = b
                   then (s.storeRec i).reading else s.formReading c } ∧
      (∀ j, j ≠ i → t.storeRec j = s.storeRec j) ∧
      t.water = (if pl.length = 12 then
        { s.water with dLow := max 20 (min (u8At pl 10) 100), failDerate := min (u8At pl 11) 100 } else s.water) ∧
      PortAnswered s t p s.port 0x29 r [] ∧ (r = .ok ∨ r = .clamped) ∧
      (r = .clamped ↔
        s16At pl 3 < 400 ∨ 750 < s16At pl 3 ∨ s16At pl 5 < 300 ∨ set - 10 < s16At pl 5 ∨ u8At pl 7 = 0 ∨
        4000 < u16At pl 8 ∨
        (pl.length = 12 ∧ (u8At pl 10 < 20 ∨ 100 < u8At pl 10 ∨ 100 < u8At pl 11)))

/-- SET CHANNEL, taken in STANDBY: the reference fault action, the enable and trim of a ratio channel with what an enable or disable does to it and to the stores that name it, the weight of a pulse channel. With the reference in REF_FAULT another action is carried out at once: SAFE enters SAFE, which drops the pending removals (the model's reading: log 40), starts the watch of a channel that is off already afresh (its choice: log 39) and lets a settle timer with interval 0 expire at once (its reading: log 27). A sense whose test a reset has stopped already ends there like any other (its choice: log 45). That senses end in the record at once where the table is held is its reading (log 20), and so is that an engine-state write that waits already becomes one with that of the entry (log 12). -/
def Obligations.SetChannelWritesTheChannel : Prop :=
  ∀ (s : State) (p : Port), Receives s p → (s.globals p).admin = true → s.engine.state = .standby →
    (∀ a : FaultAction, s.reference.state = .refFault → a ≠ s.reference.action →
      ∃ t, exec (.setChannel p [0x00, BitVec.ofNat 8 (faultActionCode a)]) s = .next t ∧ t.reference.action = a ∧
        t.reference.state = .refFault ∧ t.pulse = s.pulse ∧ t.scan = s.scan ∧ RestKept s t ∧
        PortAnswered s t p (fun q => { s.port q with flags := (t.port q).flags }) 0x2A .ok [] ∧
        (a ≠ .safe → RecordsKept s t ∧ DriveKept s t ∧ PoolsKept s t ∧ EngineKept s t ∧ ArbiterKept s t ∧
          ∀ q, (t.port q).flags = (s.port q).flags) ∧
        (∀ i, t.storeRec i = if a = .invalid
          then { s.storeRec i with reading := t.formReading (s.storeRec i).settings } else s.storeRec i) ∧
        (a = .hold → t.reference.hold = some 30000 ∧ t.engine = s.engine ∧
          ∀ m, (t.ratioChannel m).stale =
            decide ((s.ratioChannel m).state = .valid ∨ (s.ratioChannel m).state = .suspect)) ∧
        (a = .invalid → t.reference.hold = none ∧ t.engine = s.engine ∧
          ∀ m, (s.ratioChannel m).state ≠ .disabled → (t.ratioChannel m).state = .fault) ∧
        (a = .safe → t.reference.hold = none ∧ t.engine.state = .safe ∧ t.arbiter.removals = [] ∧
          SafeEntered (noRemovals s) t fun q => (s.port q).flags)) ∧
    (∀ a : FaultAction, s.reference.state ≠ .refFault ∨ a = s.reference.action →
      ∃ t, exec (.setChannel p [0x00, BitVec.ofNat 8 (faultActionCode a)]) s = .next t ∧ RecordsKept s t ∧
        DriveKept s t ∧ PoolsKept s t ∧ RestKept s t ∧ EngineKept s t ∧ ArbiterKept s t ∧
        t.reference = { s.reference with action := a } ∧ t.stores = s.stores ∧ t.ratio = s.ratio ∧
        t.pulse = s.pulse ∧ t.scan = s.scan ∧ PortAnswered s t p s.port 0x2A .ok []) ∧
    (∀ (m : RatioId) (e : Bool) (v : Byte),
      ∃ t, exec (.setChannel p [BitVec.ofNat 8 (0x10 + m.val), BitVec.ofNat 8 (bit e), v]) s = .next t ∧
        RecordsKept s t ∧ DriveKept s t ∧ PoolsKept s t ∧ RestKept s t ∧ EngineKept s t ∧ ArbiterKept s t ∧
        t.reference = s.reference ∧ t.pulse = s.pulse ∧ (∀ k, k ≠ m → t.ratioChannel k = s.ratioChannel k) ∧
        (t.ratioChannel m).trim = max (-50) (min v.toInt 50) ∧
        (∀ i, (t.storeRec i).settings = (s.storeRec i).settings) ∧
        ((s.ratioChannel m).state ≠ .disabled → e = false →
          t.ratioChannel m = { s.ratioChannel m with
            trim := (t.ratioChannel m).trim, state := .disabled, strikes := 0, reading := none, stale := false
            lastCause := .none } ∧
          t.scan.slot ≠ .ratio m ∧ (s.scan.slot ≠ .ratio m → t.scan = s.scan) ∧
          (s.scan.slot = .ratio m → ScanGoesOn t (m.val + 1))) ∧
        ((s.ratioChannel m).state = .disabled → e = true →
          t.ratioChannel m = { s.ratioChannel m with
            trim := (t.ratioChannel m).trim, state := .suspect, strikes := 0, reading := none
            stale := s.reference.hold.isSome, lastCount := .none, lastCause := .none } ∧
          t.scan = s.scan) ∧
        (¬ (e = true ↔ (s.ratioChannel m).state ≠ .disabled) → ∀ i, t.storeRec i =
          if (s.storeRec i).settings.primary = some m ∨ (s.storeRec i).settings.secondary = some m
          then { s.storeRec i with reading := t.formReading (s.storeRec i).settings } else s.storeRec i) ∧
        ((e = true ↔ (s.ratioChannel m).state ≠ .disabled) →
          t.ratioChannel m = { s.ratioChannel m with trim := max (-50) (min v.toInt 50) } ∧ t.scan = s.scan ∧
          t.stores = s.stores) ∧
        PortAnswered s t p s.port 0x2A (if v.toInt < -50 ∨ 50 < v.toInt then .clamped else .ok) []) ∧
    (∀ (f : PulseId) (w : Byte),
      ∃ t, exec (.setChannel p [BitVec.ofNat 8 (0x20 + f.val), w]) s = .next t ∧ RecordsKept s t ∧ DriveKept s t ∧
        PoolsKept s t ∧ RestKept s t ∧ EngineKept s t ∧ ArbiterKept s t ∧ t.stores = s.stores ∧
        t.reference = s.reference ∧ t.ratio = s.ratio ∧ t.scan = s.scan ∧
        t.pulseChannel f = { s.pulseChannel f with weight := max 1 (min w.toNat 100) } ∧
        (∀ k, k ≠ f → t.pulseChannel k = s.pulseChannel k) ∧
        PortAnswered s t p s.port 0x2A (if w.toNat = 0 ∨ 100 < w.toNat then .clamped else .ok) [])

/-- SET BRANCH, taken in STANDBY, writes a settle interval clamped to 30 and leaves the running timer and the queue. -/
def Obligations.SetBranchWritesTheInterval : Prop :=
  ∀ (s : State) (p : Port) (b : BranchId) (v : Byte), Receives s p → (s.globals p).admin = true →
    s.engine.state = .standby →
    ∃ t, exec (.setBranch p [BitVec.ofNat 8 b.val, v]) s = .next t ∧ RecordsKept s t ∧ t.channels = s.channels ∧
      t.branch b = { s.branch b with interval := min v.toNat 30 } ∧ (∀ k, k ≠ b → t.branch k = s.branch k) ∧
      PoolsKept s t ∧ MeasureKept s t ∧ RestKept s t ∧ EngineKept s t ∧ ArbiterKept s t ∧
      PortAnswered s t p s.port 0x2B (if 30 < v.toNat then .clamped else .ok) []

/-- SET WINDOW, taken in STANDBY: a window with its base clamped and truncated to its size, or the default set, the global set and the silence time of the target; a write that leaves no port with ADMIN answers DENIED and writes nothing. The timer of a target that is the sender is loaded anew by its own command (the model's reading: log 30). That a target that is LAPSING or LAPSED keeps its link when its silence time becomes 0 is the model's choice (log 38). -/
def Obligations.SetWindowWritesTheRights : Prop :=
  ∀ (s : State) (p q : Port), Receives s p → (s.globals p).admin = true → s.engine.state = .standby →
    (∀ (w : Fin 4) (base : Byte) (size : SizeCode) (filter : PoolFilter) (r : OutletRights),
      let stored := if size = .all then 0 else min base.toNat 23 / windowSize size * windowSize size
      let written : Window := { base := stored, size := size, filter := filter, rights := r }
      ∃ t, exec (.setWindow p [BitVec.ofNat 8 q.val, BitVec.ofNat 8 w.val, base, BitVec.ofNat 8 (sizeCode size),
          BitVec.ofNat 8 (filterCode filter), BitVec.ofNat 8 (outletRightsCode r)]) s = .next t ∧
        AllKept s t ∧
        PortAnswered s t p
          (fun k => if k = q then
            { s.port k with
              config := { (s.port k).config with windows := (s.port k).config.windows.set w written } }
            else s.port k)
          0x31 (if stored = base.toNat then .ok else .clamped) []) ∧
    (∀ (d : OutletRights) (g : GlobalRights) (h l : Byte),
      (g.admin = true ∨ ∃ k, k ≠ q ∧ (s.globals k).admin = true) →
      let v := h.toNat * 256 + l.toNat
      let stored := if v = 0 then 0 else max 5 (min v 600)
      ∃ t, exec (.setWindow p [BitVec.ofNat 8 q.val, 4, BitVec.ofNat 8 (outletRightsCode d),
          BitVec.ofNat 8 (globalRightsCode g), h, l]) s = .next t ∧
        AllKept s t ∧
        PortAnswered s t p
          (fun k => if k = q then
            { s.port k with
              config := { (s.port k).config with defaultRights := d, globalRights := g, silence := stored }
              silence := if stored = 0 then none
                         else if (s.port k).config.silence = 0 ∧ (s.port k).link = .active then SilenceTimer.load stored
                         else (s.port k).silence }
            else s.port k)
          0x31 (if stored = v then .ok else .clamped) []) ∧
    (∀ (d : OutletRights) (g : GlobalRights) (h l : Byte), g.admin = false →
      (∀ k, k ≠ q → (s.globals k).admin = false) →
      ∃ t, exec (.setWindow p [BitVec.ofNat 8 q.val, 4, BitVec.ofNat 8 (outletRightsCode d),
          BitVec.ofNat 8 (globalRightsCode g), h, l]) s = .next t ∧
        AllKept s t ∧ PortAnswered s t p s.port 0x31 .denied [])

/-! ## Engine commands -/

/-- ENGINE START takes the engine from STANDBY to RUN: both round timers at 2.0 s, every channel out of the safe pattern, no grant changed. -/
def Obligations.EngineStartEntersRun : Prop :=
  ∀ (s : State) (p : Port), Receives s p → (s.globals p).admin = true →
    (s.engine.op = .none ∨ s.engine.op = .selfTest) → s.engine.state = .standby →
    ∃ t, exec (.engineStart p []) s = .next t ∧ RecordsKept s t ∧ t.branches = s.branches ∧ MeasureKept s t ∧
      RestKept s t ∧ ArbiterKept s t ∧ t.engine = { s.engine with state := .run } ∧
      t.steam = { s.steam with timer := some 2000 } ∧
      t.water = { s.water with timer := some 2000, firstRound := true } ∧
      (∀ n, t.channel n =
        if (s.channel n).phase ≠ .safePattern then s.channel n
        else if (s.channel n).output = .on then
          { s.channel n with phase := .cycling, applied := (s.channel n).inUse.period }
        else { s.channel n with phase := .off, applied := 0 }) ∧
      PortAnswered s t p (allEvent s .engineState) 0x40 .ok []

/-- ENGINE STOP takes the engine from RUN or SERVICE to STANDBY: timers stopped, requests withdrawn, the channels outside TEST in the safe pattern of STANDBY (OPEN on for the rest of the period, every other one off, an output turned off restarting its branch's settle timer), the grants 0 at once when the table is free and by a waiting write otherwise; the burst list stays. That entry to a pattern that is off also starts the watch of a channel that is off already afresh is the model's choice (log 39), and that a settle interval of 0 lets a running timer expire at once its reading (log 27). -/
def Obligations.EngineStopEntersStandby : Prop :=
  ∀ (s : State) (p : Port), Receives s p → (s.globals p).admin = true →
    (s.engine.op = .none ∨ s.engine.op = .selfTest) → (s.engine.state = .run ∨ s.engine.state = .service) →
    ∃ t, exec (.engineStop p []) s = .next t ∧ t.engine = { s.engine with state := .standby } ∧
      t.steam = { s.steam with timer := none } ∧ t.water = { s.water with timer := none } ∧ MeasureKept s t ∧
      RestKept s t ∧ t.profile = s.profile ∧ t.bursts = s.bursts ∧
      t.arbiter.steamRequest = false ∧ t.arbiter.waterRequest = false ∧ t.arbiter.holder = s.arbiter.holder ∧
      (∀ n, (s.channel n).phase ≠ .test →
        (t.channel n).phase = .safePattern ∧ (t.channel n).override = none ∧ (t.channel n).dwellLeft = 0) ∧
      (∀ n, (s.channel n).phase = .test → (t.channel n).phase = .test) ∧ (∀ b, (t.branch b).queue = []) ∧
      PatternsEntered s t false ∧
      (s.tableFree = true → t.arbiter.engineWrite = .none ∧
        ∀ n, t.outlet n = { s.outlet n with grant := 0 } ∧ (t.channel n).grant = 0) ∧
      (s.tableFree = false → t.outlets = s.outlets ∧ t.arbiter.engineWrite ≠ .none ∧
        ∀ n, (t.channel n).grant = (s.channel n).grant) ∧
      PortAnswered s t p (allEvent s .engineState) 0x41 .ok []

/-- SERVICE ENTER takes the engine from RUN to SERVICE and withdraws waiting round requests; SERVICE LEAVE takes it back to RUN, removes every override and makes HELD channels CYCLING. Timers and grants keep their values. -/
def Obligations.ServiceEnterAndLeave : Prop :=
  ∀ (s : State) (p : Port), Receives s p → (s.globals p).admin = true →
    (s.engine.op = .none ∨ s.engine.op = .selfTest) →
    (s.engine.state = .run →
      ∃ t, exec (.serviceEnter p []) s = .next t ∧ RecordsKept s t ∧ DriveKept s t ∧ PoolsKept s t ∧
        MeasureKept s t ∧ RestKept s t ∧ t.engine = { s.engine with state := .service } ∧
        t.arbiter = { s.arbiter with steamRequest := false, waterRequest := false } ∧
        PortAnswered s t p (allEvent s .engineState) 0x42 .ok []) ∧
    (s.engine.state = .service →
      ∃ t, exec (.serviceLeave p []) s = .next t ∧ RecordsKept s t ∧ t.branches = s.branches ∧
        t.steam = s.steam ∧ t.water = { s.water with firstRound := true } ∧ MeasureKept s t ∧ RestKept s t ∧
        ArbiterKept s t ∧ t.engine = { s.engine with state := .run } ∧
        (∀ n, t.channel n =
          { s.channel n with
            override := none
            phase := if (s.channel n).phase = .held then .cycling else (s.channel n).phase }) ∧
        PortAnswered s t p (allEvent s .engineState) 0x43 .ok [])

/-- TEST TABLE and SAVE CONFIG answer ACCEPTED, set the operation in progress and change nothing else. -/
def Obligations.TestTableAndSaveConfigAreAccepted : Prop :=
  ∀ (s : State) (p : Port), Receives s p → (s.globals p).admin = true → s.engine.op = .none →
    (s.engine.state ≠ .safe →
      ∃ t, exec (.testTable p []) s = .next t ∧ RecordsKept s t ∧ DriveKept s t ∧ PoolsKept s t ∧ MeasureKept s t ∧
        RestKept s t ∧ ArbiterKept s t ∧ t.engine = { s.engine with op := .selfTest, opLeft := 400 } ∧
        PortAnswered s t p s.port 0x47 .accepted [] ∧ t.busy = true) ∧
    (s.engine.state = .standby →
      ∃ t, exec (.saveConfig p []) s = .next t ∧ RecordsKept s t ∧ DriveKept s t ∧ PoolsKept s t ∧ MeasureKept s t ∧
        RestKept s t ∧ ArbiterKept s t ∧ t.engine = { s.engine with op := .save, opLeft := 250 } ∧
        PortAnswered s t p s.port 0x48 .accepted [] ∧ t.busy = true)

/-- The eight engine commands of R155 are refused in its order: BAD_LENGTH, DENIED, BUSY during a save or a load (and TEST TABLE and SAVE CONFIG during a self-test), BAD_STATE in a state they are not taken from, with nothing changed. ENGINE RESET and TABLE RESET are taken in every state. -/
def Obligations.EngineCommandsAreRefusedInOrder : Prop :=
  ∀ (s : State) (p : Port) (c : Code) (pl : List Byte), Receives s p →
    c ∈ [Code.engineStart, .engineStop, .serviceEnter, .serviceLeave, .engineReset, .tableReset, .testTable, .saveConfig] →
    (c = .tableReset → ∀ q code bytes, (s.port q).outstanding = some (.held code bytes) → (s.port q).link = .lapsing) →
    let answers := fun r => ∃ t, exec (commandRow c p pl) s = .next t ∧ AllKept s t ∧ PortAnswered s t p s.port c.byte r []
    let takenFrom := match c with
      | .engineStart | .saveConfig => [EngineState.standby]
      | .engineStop => [.run, .service]
      | .serviceEnter => [.run]
      | .serviceLeave => [.service]
      | .testTable => [.standby, .run, .service]
      | _ => [.standby, .run, .service, .safe]
    let busy := s.engine.op = .save ∨ s.engine.op = .load ∨
      (s.engine.op = .selfTest ∧ (c = .testTable ∨ c = .saveConfig))
    (pl ≠ [] → answers .badLength) ∧
    (pl = [] → (s.globals p).admin = false → answers .denied) ∧
    (pl = [] → (s.globals p).admin = true → busy → answers .busy) ∧
    (pl = [] → (s.globals p).admin = true → ¬ busy → s.engine.state ∉ takenFrom → answers .badState)

/-- ENGINE RESET with no port holding the table: STANDBY with cause ENGINE_RESET, rounds and test turned out, grants 0 and IDLE, senses ended, the burst list empty with BURST_REVOKED and cause RESET, ENGINE_STATE posted where the engine was in another state, the channels in the safe pattern of STANDBY from their structure copies, an output turned off by it restarting its branch's settle timer; settings, demands, owners and the capacity records stay. With a port holding the table the records wait for its release. What counts as a port's hold is the model's choice (log 6), that the operation SELF_TEST then stays until the release too (log 43), and that a settle interval of 0 lets a running timer expire at once its reading (log 27). That the place in the test-pulse cycle and the held duty of SAFE are 0 at the reset is the model's choice (log 10). That the close of an output that was on in the structure of before counts for the branch which that structure named, where the new one names another, is the model's choice (log 46). That the holder of a round or a self-test which the reset abandons counts as the last holder is the model's choice (log 48). -/
def Obligations.EngineResetResets : Prop :=
  ∀ (s : State) (p : Port), Receives s p → (s.globals p).admin = true →
    (s.engine.op = .none ∨ s.engine.op = .selfTest) →
    ∃ t, exec (.engineReset p []) s = .next t ∧ t.engine.state = .standby ∧ t.engine.cause = .engineReset ∧
      t.engine.defaulted = s.engine.defaulted ∧ t.steam = { s.steam with timer := none } ∧
      t.water = { s.water with timer := none } ∧ MeasureKept s t ∧ RestKept s t ∧ t.profile = s.profile ∧
      (t.port p).outstanding = some (.answered
        { code := 0x45, result := .ok, status := t.statusWord p (decide ((s.port p).link = .lapsed)), payload := [] }
        false) ∧
      (∀ q, (t.port q).config = (s.port q).config ∧ (t.port q).mask = (s.port q).mask) ∧
      (∀ q, q ≠ p → (t.port q).link = (s.port q).link ∧ (t.port q).outstanding = (s.port q).outstanding) ∧
      PortAnswered s t p (fun q => { s.port q with flags := (t.port q).flags }) 0x45 .ok [] ∧ FlagsOfReset s t ∧
      (let shown := fun n => patternOf { s.channel n with pendingAbsence := false } false
       (∀ n, t.channel n = { s.channel n with
          trim := (t.channel n).trim, ceiling := (t.channel n).ceiling, condition := (t.channel n).condition
          inUse := (s.channel n).copy, phase := .safePattern, applied := shown n
          output := if shown n = 0 then .off else .on
          grant := 0, position := 0, closedTime := 0, closedTicks := 0, dwellLeft := 0, watchCount := 0
          watchLatch := false, pendingAbsence := false, override := none, finding := none, holdLeft := none
          testTick := 0, heldDuty := 0, pendingSenseEnd := false }) ∧
       ∀ b, t.branch b = closes s (fun n => decide (shown n = 0)) b { s.branch b with queue := [] }) ∧
      (∀ n, (t.outlet n).struct = (s.outlet n).struct ∧ (t.outlet n).limits = (s.outlet n).limits ∧
        (t.outlet n).demand = (s.outlet n).demand ∧ (t.outlet n).owner = (s.outlet n).owner ∧
        (t.outlet n).trim = (s.outlet n).trim ∧ (t.outlet n).continuity = (s.outlet n).continuity) ∧
      (s.portHolds = false →
        t.engine.op = .none ∧ EmptiedForReset s t ∧ t.arbiter.engineWrite = .none ∧ t.arbiter.steamRequest = false ∧
        t.arbiter.waterRequest = false ∧ t.arbiter.removals = [] ∧ t.arbiter.lastHolder = s.arbiter.lastHolder ∧
        (s.arbiter.holder ≠ some .store → t.arbiter.holder = none) ∧
        ∀ n, (t.outlet n).grant = 0 ∧ (t.outlet n).status = .idle ∧
          (t.outlet n).condition = State.priorOf (s.outlet n).condition ∧
          (t.channel n).condition = (t.outlet n).condition ∧ (t.channel n).trim = (t.outlet n).trim ∧
          (t.channel n).ceiling = (t.outlet n).limits.ceiling ∧
          (t.outlet n).burstRef = ((s.outlet n).burstRef && (s.entryOf n).isNone)) ∧
      (s.portHolds = true →
        t.arbiter.deferred = .engine ∧ t.bursts = s.bursts ∧ t.outlets = s.outlets ∧ t.engine.op = s.engine.op ∧
        (∀ q, (t.port q).flags.burstRevoked = (s.port q).flags.burstRevoked) ∧
        ∀ n, (t.channel n).condition = (s.channel n).condition ∧ (t.channel n).trim = (s.channel n).trim ∧
          (t.channel n).ceiling = (s.channel n).ceiling)

/-- TABLE RESET answers ACCEPTED and takes the engine to STANDBY with operation LOAD. ENGINE_STATE is posted where the engine was in another state, and the channels have drive grant 0 and show the safe pattern of STANDBY from their structure copies, an output turned off by it restarting its branch's settle timer. With no port holding the table the burst list is emptied with BURST_REVOKED and cause RESET, pending lapses become LAPSED and the Configuration Store holds the table for 100 ms; otherwise that waits for the release. The frames that ports held for a lapse no longer pending are then taken, port by port (log 24). What counts as a port's hold is the model's choice (log 6), and that a settle interval of 0 lets a running timer expire at once its reading (log 27). That the place in the test-pulse cycle and the held duty of SAFE are 0 at the reset is the model's choice (log 10). That the close of an output that was on in the structure of before counts for the branch which that structure named, where the new one names another, is the model's choice (log 46). That nothing is deferred any more where an earlier ENGINE RESET's steps still waited is its reading (log 49). -/
def Obligations.TableResetStartsTheLoad : Prop :=
  ∀ (s : State) (p : Port), Receives s p → (s.globals p).admin = true →
    (s.engine.op = .none ∨ s.engine.op = .selfTest) →
    ∃ m t, exec (.tableReset p []) s = .next t ∧ HeldFramesTaken m t ∧
      m.engine = { s.engine with state := .standby, cause := .tableReset, op := .load, opLeft := 100 } ∧ m.steam = { s.steam with timer := none } ∧
      m.water = { s.water with timer := none } ∧ MeasureKept s m ∧ RestKept s m ∧ m.profile = s.profile ∧
      (m.port p).outstanding = some (.answered
        { code := 0x46, result := .accepted, status := m.statusWord p (decide ((s.port p).link = .lapsed)),
          payload := [] } false) ∧
      (∀ q, (m.port q).config = (s.port q).config ∧ (m.port q).mask = (s.port q).mask) ∧
      PortAnswered s m p
        (fun q => { s.port q with
          flags := (m.port q).flags
          link := if s.portHolds = false ∧ (s.port q).link = .lapsing then .lapsed else (s.port q).link })
        0x46 .accepted [] ∧ FlagsOfReset s m ∧
      (let shown := fun n => patternOf { s.channel n with pendingAbsence := false } false
       (∀ n, m.channel n = { s.channel n with
          grant := 0, inUse := (s.channel n).copy, phase := .safePattern, applied := shown n
          output := if shown n = 0 then .off else .on
          position := 0, closedTime := 0, closedTicks := 0, dwellLeft := 0, watchCount := 0, watchLatch := false
          pendingAbsence := false, override := none, finding := none, holdLeft := none, testTick := 0, heldDuty := 0
          pendingSenseEnd := false }) ∧
       ∀ b, m.branch b = closes s (fun n => decide (shown n = 0)) b { s.branch b with queue := [] }) ∧
      (∀ n, (m.outlet n).struct = (s.outlet n).struct ∧ (m.outlet n).limits = (s.outlet n).limits ∧
        (m.outlet n).demand = (s.outlet n).demand ∧ (m.outlet n).owner = (s.outlet n).owner) ∧
      (s.portHolds = false →
        EmptiedForReset s m ∧
        m.arbiter = { holder := some .store, lastHolder := .store, steamRequest := false, waterRequest := false,
                      removals := [], engineWrite := .none, deferred := .none } ∧
        (∀ n, m.outlet n = { s.outlet n with
          grant := if s.clearedAmount n = none then (s.outlet n).grant else lowered (s.outlet n).grant (s.outlet n).demand
          burstRef := (s.outlet n).burstRef && (s.entryOf n).isNone }) ∧
        ∀ q, q ≠ p →
          (m.port q).link = (if (s.port q).link = .lapsing then .lapsed else (s.port q).link)) ∧
      (s.portHolds = true →
        m.arbiter = { s.arbiter with steamRequest := false, waterRequest := false, deferred := .table } ∧
        m.bursts = s.bursts ∧
        m.outlets = s.outlets ∧
        ∀ q, (m.port q).flags.burstRevoked = (s.port q).flags.burstRevoked)

/-- SERVICE DRIVE in SERVICE on a configured, ACTIVE outlet: SET stores the duty clamped to the period of the structure copy, RELEASE removes it; grants, records and everything else stay. -/
def Obligations.ServiceDriveSetsAndReleasesTheOverride : Prop :=
  ∀ (s : State) (p : Port) (n : OutletId), Receives s p → (s.globals p).admin = true → s.engine.state = .service →
    (s.outlet n).struct.pool ≠ .unused → (s.channel n).condition = .active → (s.channel n).pendingAbsence = false →
    (∀ h l : Byte,
      let v := h.toNat * 256 + l.toNat
      let period := (s.channel n).copy.period
      ∃ t, exec (.serviceDriveSet p [BitVec.ofNat 8 n.val, 0, h, l]) s = .next t ∧ RecordsKept s t ∧
        t.branches = s.branches ∧ t.channel n = { s.channel n with override := some (min v period) } ∧
        (∀ m, m ≠ n → t.channel m = s.channel m) ∧ PoolsKept s t ∧ MeasureKept s t ∧ RestKept s t ∧
        EngineKept s t ∧ ArbiterKept s t ∧
        PortAnswered s t p s.port 0x44 (if period < v then .clamped else .ok) []) ∧
    (∃ t, exec (.serviceDriveRelease p [BitVec.ofNat 8 n.val, 1]) s = .next t ∧ RecordsKept s t ∧
      t.branches = s.branches ∧ t.channel n = { s.channel n with override := none } ∧
      (∀ m, m ≠ n → t.channel m = s.channel m) ∧ PoolsKept s t ∧ MeasureKept s t ∧ RestKept s t ∧
      EngineKept s t ∧ ArbiterKept s t ∧ PortAnswered s t p s.port 0x44 .ok [])

/-! ## Table commands -/

/-- SET DEMAND writes the demand clamped to the ceiling and its owner, and lowers the grant to the effective demand; under a CLEARED burst that is the burst amount. The port's hold of the table then lasts until its response is gone (the model's choice: log 6). -/
def Obligations.SetDemandWritesTheDemand : Prop :=
  ∀ (s : State) (p : Port) (n : OutletId) (h l : Byte),
    Reaches s p n [BitVec.ofNat 8 n.val, h, l] OutletRights.demand →
    (s.outlet n).struct.pool ≠ .unused → (s.outlet n).struct.role = .plain →
    let v := h.toNat * 256 + l.toNat
    let d := min v (s.outlet n).limits.ceiling
    let eff := (s.clearedAmount n).getD d
    ∃ t, exec (.setDemand p [BitVec.ofNat 8 n.val, h, l]) s = .next t ∧
      t.outlet n = { s.outlet n with demand := d, owner := .port p, grant := lowered (s.outlet n).grant eff } ∧
      t.channel n = loweredChannel (s.channel n) (s.outlet n).grant eff ∧
      OthersKept s t n ∧ PlantKept s t ∧ t.bursts = s.bursts ∧ t.branches = s.branches ∧ ArbiterHeld s t p ∧
      PortAnswered s t p s.port 0x10 (if (s.outlet n).limits.ceiling < v then .clamped else .ok) []

/-- SET DEMAND is refused before it asks for the table: BAD_LENGTH, BAD_INDEX above 23, DENIED without the DEMAND right, BUSY while an operation is in progress; nothing but the sender's port unit changes. With the table it answers BAD_INDEX on an UNUSED outlet and ROLE on a RECHARGE one. READ OUTLET, PARK OUTLET, UNPARK OUTLET, CLEAR ABSENT, SENSE START, SENSE END, REQUEST BURST and END BURST are refused before they ask for the table in the same order (READ OUTLET with BAD_INDEX for a part above 2 too), and so is SET PROFILE with BAD_LENGTH and DENIED and READ BURSTS with BAD_LENGTH. With the table, SENSE START and REQUEST BURST answer BAD_STATE in SAFE; then each of the seven but READ OUTLET answers BAD_INDEX on an UNUSED outlet, and the burst commands on a WATER one; then PARK OUTLET and REQUEST BURST answer BAD_STATE outside ACTIVE, SENSE START outside PARKED and ABSENT, SENSE END outside SENSING, and END BURST without an entry. That the engine state is checked with the table is the model's reading (log 16). Where a command has the table, the port's hold of the table then lasts until its response is gone (the model's choice: log 6). -/
def Obligations.OutletCommandsAreRefusedInOrder : Prop :=
  ∀ (s : State) (p : Port), Receives s p →
    (∀ pl : List Byte, pl.length ≠ 3 →
      ∃ t, exec (.setDemand p pl) s = .next t ∧ AllKept s t ∧ PortAnswered s t p s.port 0x10 .badLength []) ∧
    (∀ b h l : Byte, 23 < b.toNat →
      ∃ t, exec (.setDemand p [b, h, l]) s = .next t ∧ AllKept s t ∧ PortAnswered s t p s.port 0x10 .badIndex []) ∧
    (∀ (n : OutletId) (h l : Byte), (s.rights p n).demand = false →
      ∃ t, exec (.setDemand p [BitVec.ofNat 8 n.val, h, l]) s = .next t ∧ AllKept s t ∧
        PortAnswered s t p s.port 0x10 .denied []) ∧
    (∀ (n : OutletId) (h l : Byte), (s.rights p n).demand = true → s.engine.op ≠ .none →
      ∃ t, exec (.setDemand p [BitVec.ofNat 8 n.val, h, l]) s = .next t ∧ AllKept s t ∧
        PortAnswered s t p s.port 0x10 .busy []) ∧
    (∀ (n : OutletId) (h l : Byte), TableIdle s → (s.rights p n).demand = true →
      ((s.outlet n).struct.pool = .unused →
        ∃ t, exec (.setDemand p [BitVec.ofNat 8 n.val, h, l]) s = .next t ∧ AllKeptHeld s t p ∧
          PortAnswered s t p s.port 0x10 .badIndex []) ∧
      ((s.outlet n).struct.pool ≠ .unused → (s.outlet n).struct.role ≠ .plain →
        ∃ t, exec (.setDemand p [BitVec.ofNat 8 n.val, h, l]) s = .next t ∧ AllKeptHeld s t p ∧
          PortAnswered s t p s.port 0x10 .role [])) ∧
    (∀ pl : List Byte, (pl.length ≠ 1 → Refused s p .setProfile pl .badLength ∧ Refused s p .readBursts pl .badLength) ∧
      (pl.length = 1 → (s.globals p).profile = false → Refused s p .setProfile pl .denied)) ∧
    (∀ (c : Code) (length : Nat) (right : OutletRights → Bool) (pl : List Byte),
      (c, length, right) ∈ [(Code.readOutlet, 2, OutletRights.read), (.parkOutlet, 1, OutletRights.park),
        (.unparkOutlet, 1, OutletRights.park), (.clearAbsent, 1, OutletRights.park), (.senseStart, 1, OutletRights.park),
        (.senseEnd, 1, OutletRights.park), (.requestBurst, 7, OutletRights.burst), (.endBurst, 1, OutletRights.burst)] →
      (pl.length ≠ length → Refused s p c pl .badLength) ∧
      (pl.length = length → 23 < u8At pl 0 ∨ (c = .readOutlet ∧ 2 < u8At pl 1) → Refused s p c pl .badIndex) ∧
      (pl.length = length → (c = .readOutlet → u8At pl 1 ≤ 2) → ∀ n : OutletId, u8At pl 0 = n.val →
        right (s.rights p n) = false → Refused s p c pl .denied)) ∧
    (∀ (n : OutletId) (pl : List Byte), TableIdle s → u8At pl 0 = n.val →
      let o := s.outlet n
      let unused := o.struct.pool = .unused
      (pl.length = 1 → (s.rights p n).park = true →
        (unused → RefusedHolding s p .parkOutlet pl .badIndex ∧ RefusedHolding s p .unparkOutlet pl .badIndex ∧
          RefusedHolding s p .clearAbsent pl .badIndex ∧ RefusedHolding s p .senseEnd pl .badIndex) ∧
        (¬ unused → o.condition ≠ .active → RefusedHolding s p .parkOutlet pl .badState) ∧
        (s.engine.state = .safe → RefusedHolding s p .senseStart pl .badState) ∧
        (s.engine.state ≠ .safe → unused → RefusedHolding s p .senseStart pl .badIndex) ∧
        (s.engine.state ≠ .safe → ¬ unused → o.condition ≠ .parked → o.condition ≠ .absent →
          RefusedHolding s p .senseStart pl .badState) ∧
        (¬ unused → (∀ k, o.condition ≠ .sensing k) → RefusedHolding s p .senseEnd pl .badState)) ∧
      (pl.length = 7 → (s.rights p n).burst = true →
        (s.engine.state = .safe → RefusedHolding s p .requestBurst pl .badState) ∧
        (s.engine.state ≠ .safe → o.struct.pool ≠ .steam → RefusedHolding s p .requestBurst pl .badIndex) ∧
        (s.engine.state ≠ .safe → o.struct.pool = .steam → o.condition ≠ .active →
          RefusedHolding s p .requestBurst pl .badState)) ∧
      (pl.length = 1 → (s.rights p n).burst = true →
        (o.struct.pool ≠ .steam → RefusedHolding s p .endBurst pl .badIndex) ∧
        (o.struct.pool = .steam → s.entryOf n = none → RefusedHolding s p .endBurst pl .badState)))

/-- SET LIMITS outside SAFE writes the clamped limits and lowers demand, burst amount and grant to the ceiling in the same command; it answers CLAMPED exactly when a value was outside its range. It is refused in the order of its checks: BAD_LENGTH, BAD_INDEX above 23, DENIED, BUSY before the table; with it, BAD_STATE in SAFE, BAD_INDEX on an UNUSED outlet and BAD_INDEX for an undefined lapse action (that the lapse action comes last is the model's reading: log 16). The port's hold of the table then lasts until its response is gone (the model's choice: log 6). -/
def Obligations.SetLimitsWritesAndLowers : Prop :=
  (∀ (s : State) (p : Port) (n : OutletId) (pl : List Byte) (a : LapseAction), pl.length = 14 →
    Reaches s p n pl OutletRights.limits → s.engine.state ≠ .safe → (s.outlet n).struct.pool ≠ .unused →
    lapseAction? (byteAt pl 10) = some a →
    let top := if (s.outlet n).struct.pool = .water then 600 else 4000
    let c := min (u16At pl 8) top
    let eff := ((s.clearedAmount n).map fun x => min x c).getD (min (s.outlet n).demand c)
    ∃ t r, exec (.setLimits p pl) s = .next t ∧
      (t.outlet n).limits.ceiling = c ∧ (t.outlet n).limits.floor = min (u16At pl 6) c ∧
      (t.outlet n).limits.weight = max 1 (min (u8At pl 5) 15) ∧
      (∀ k : Profile, ((t.outlet n).limits.tiers[k]).val = min (u8At pl (1 + k.val)) 3) ∧
      (t.outlet n).limits.lapseAction = a ∧ (t.outlet n).limits.fallback = min (u16At pl 11) top ∧
      (t.outlet n).limits.tolerance = max 5 (min (u8At pl 13) 50) ∧
      t.outlet n = { s.outlet n with limits := (t.outlet n).limits, demand := min (s.outlet n).demand c,
                                     grant := lowered (s.outlet n).grant eff } ∧
      t.channel n = { loweredChannel (s.channel n) (s.outlet n).grant eff with ceiling := c } ∧
      t.bursts = s.bursts.map (fun e => if e.outlet = n then { e with amount := min e.amount c } else e) ∧
      OthersKept s t n ∧ PlantKept s t ∧ t.branches = s.branches ∧ ArbiterHeld s t p ∧
      PortAnswered s t p s.port 0x11 r [] ∧ (r = .ok ∨ r = .clamped) ∧
      (r = .clamped ↔
        (∃ k : Profile, 3 < u8At pl (1 + k.val)) ∨ u8At pl 5 = 0 ∨ 15 < u8At pl 5 ∨ c < u16At pl 6 ∨
        top < u16At pl 8 ∨ top < u16At pl 11 ∨ u8At pl 13 < 5 ∨ 50 < u8At pl 13)) ∧
  ∀ (s : State) (p : Port) (pl : List Byte), Receives s p →
    (pl.length ≠ 14 →
      ∃ t, exec (.setLimits p pl) s = .next t ∧ AllKept s t ∧ PortAnswered s t p s.port 0x11 .badLength []) ∧
    (pl.length = 14 → 23 < u8At pl 0 →
      ∃ t, exec (.setLimits p pl) s = .next t ∧ AllKept s t ∧ PortAnswered s t p s.port 0x11 .badIndex []) ∧
    ∀ n : OutletId, pl.length = 14 → u8At pl 0 = n.val →
      ((s.rights p n).limits = false →
        ∃ t, exec (.setLimits p pl) s = .next t ∧ AllKept s t ∧ PortAnswered s t p s.port 0x11 .denied []) ∧
      ((s.rights p n).limits = true → s.engine.op ≠ .none →
        ∃ t, exec (.setLimits p pl) s = .next t ∧ AllKept s t ∧ PortAnswered s t p s.port 0x11 .busy []) ∧
      ((s.rights p n).limits = true → TableIdle s →
        (s.engine.state = .safe →
          ∃ t, exec (.setLimits p pl) s = .next t ∧ AllKeptHeld s t p ∧ PortAnswered s t p s.port 0x11 .badState []) ∧
        (s.engine.state ≠ .safe → (s.outlet n).struct.pool = .unused ∨ 2 < u8At pl 10 →
          ∃ t, exec (.setLimits p pl) s = .next t ∧ AllKeptHeld s t p ∧ PortAnswered s t p s.port 0x11 .badIndex []))

/-- SET OUTLET CONFIG in STANDBY writes a structure that passes R3, clamped, and hands it to the drive channel; a change of pool or role restarts the runtime fields, a removed meter the trim, and a WATER outlet keeps at most 600 in its limits. The port's hold of the table then lasts until its response is gone (the model's choice: log 6). The clamp of the limits on every write into WATER is the model's reading (log 18). It is refused in the order of its checks: BAD_LENGTH, BAD_INDEX above 23, DENIED, BUSY before the table; with it, BAD_STATE outside STANDBY, BAD_INDEX for an undefined code (the unused bits of the drive byte included, the model's reading: log 15), and then the cases of R3 answering BAD_STATE, ROLE and DUPLICATE. -/
def Obligations.SetOutletConfigWritesTheStructure : Prop :=
  (∀ (s : State) (p : Port) (n : OutletId) (pl : List Byte) (raw : OutletStructure), pl.length = 15 →
    Receives s p → TableIdle s → outletArg pl = some n → (s.globals p).admin = true → s.engine.state = .standby →
    State.parseStructure pl = some raw → s.structureRefusal n raw = none →
    let o := s.outlet n
    let st := { raw with
      period := max 200 (min raw.period 6000), minOn := min raw.minOn 500, coldTime := max 60 (min raw.coldTime 3600),
      dwell := min raw.dwell 600, warmCap := max 10 (min raw.warmCap 50) }
    let changed := o.struct.pool ≠ st.pool ∨ State.isRecharge o.struct.role ≠ State.isRecharge st.role
    let unmetered := o.struct.meter.isSome = true ∧ st.meter = none
    ∃ t r, exec (.setOutletConfig p pl) s = .next t ∧ (t.outlet n).struct = st ∧
      (t.outlet n).condition = o.condition ∧ (t.outlet n).continuity = o.continuity ∧
      (t.outlet n).burstRef = o.burstRef ∧
      (changed → (t.outlet n).demand = 0 ∧ (t.outlet n).grant = 0 ∧ (t.outlet n).status = .idle ∧
        (t.outlet n).owner = (if State.isRecharge st.role then .engine else .none)) ∧
      (¬ changed → (t.outlet n).demand = o.demand ∧ (t.outlet n).grant = o.grant ∧ (t.outlet n).status = o.status ∧
        (t.outlet n).owner = o.owner) ∧
      (changed ∨ unmetered → (t.outlet n).trim = 100 ∧ (t.outlet n).overStreak = 0 ∧ (t.outlet n).underStreak = 0) ∧
      (¬ changed → ¬ unmetered → (t.outlet n).trim = o.trim ∧ (t.outlet n).overStreak = o.overStreak ∧
        (t.outlet n).underStreak = o.underStreak) ∧
      (t.outlet n).limits = (if st.pool = .water then
        { o.limits with floor := min o.limits.floor 600, ceiling := min o.limits.ceiling 600,
                        fallback := min o.limits.fallback 600 } else o.limits) ∧
      t.channel n = { s.channel n with copy := st, ceiling := (t.outlet n).limits.ceiling, trim := (t.outlet n).trim,
                                       grant := (t.outlet n).grant } ∧
      OthersKept s t n ∧ PlantKept s t ∧ t.bursts = s.bursts ∧ t.branches = s.branches ∧ ArbiterHeld s t p ∧
      PortAnswered s t p s.port 0x12 r [] ∧
      r = (if st ≠ raw ∨ (t.outlet n).limits ≠ o.limits then .clamped else .ok)) ∧
  ∀ (s : State) (p : Port) (pl : List Byte), Receives s p →
    (pl.length ≠ 15 →
      ∃ t, exec (.setOutletConfig p pl) s = .next t ∧ AllKept s t ∧ PortAnswered s t p s.port 0x12 .badLength []) ∧
    (pl.length = 15 → 23 < u8At pl 0 →
      ∃ t, exec (.setOutletConfig p pl) s = .next t ∧ AllKept s t ∧ PortAnswered s t p s.port 0x12 .badIndex []) ∧
    ∀ n : OutletId, pl.length = 15 → u8At pl 0 = n.val →
      ((s.globals p).admin = false →
        ∃ t, exec (.setOutletConfig p pl) s = .next t ∧ AllKept s t ∧ PortAnswered s t p s.port 0x12 .denied []) ∧
      ((s.globals p).admin = true → s.engine.op ≠ .none →
        ∃ t, exec (.setOutletConfig p pl) s = .next t ∧ AllKept s t ∧ PortAnswered s t p s.port 0x12 .busy []) ∧
      ((s.globals p).admin = true → TableIdle s →
        ∃ t r, exec (.setOutletConfig p pl) s = .next t ∧
          (s.engine.state ≠ .standby → r = .badState) ∧
          (s.engine.state = .standby → CodeUndefined pl → r = .badIndex) ∧
          (s.engine.state = .standby → ¬ CodeUndefined pl → ∀ raw, State.parseStructure pl = some raw →
            (ChangeRefused (s.outlet n) raw → r = .badState) ∧
            (¬ ChangeRefused (s.outlet n) raw → PoolRefused raw → r = .role) ∧
            (¬ ChangeRefused (s.outlet n) raw → ¬ PoolRefused raw → BindingTaken s n raw → r = .duplicate) ∧
            (¬ ChangeRefused (s.outlet n) raw → ¬ PoolRefused raw → ¬ BindingTaken s n raw → r = .ok ∨ r = .clamped)) ∧
          (s.engine.state = .standby → ¬ CodeUndefined pl → (State.parseStructure pl).isSome = true) ∧
          PortAnswered s t p s.port 0x12 r [] ∧ (r ≠ .ok → r ≠ .clamped → AllKeptHeld s t p))

/-- PARK OUTLET on an ACTIVE outlet: PARKED, grant 0, IDLE, its burst entry revoked with cause PARK and the clearance order closed up behind it, its output off at once and its channel out of every queue; the demand and its owner stay. The port's hold of the table then lasts until its response is gone (the model's choice: log 6). A settle interval of 0 lets a running timer expire at once (the model's reading: log 27). -/
def Obligations.ParkOutletParks : Prop :=
  ∀ (s : State) (p : Port) (n : OutletId), Reaches s p n [BitVec.ofNat 8 n.val] OutletRights.park →
    (s.outlet n).struct.pool ≠ .unused → (s.outlet n).condition = .active →
    ∃ t, exec (.parkOutlet p [BitVec.ofNat 8 n.val]) s = .next t ∧
      t.outlet n = { s.outlet n with condition := .parked, grant := 0, status := .idle,
                                     burstRef := (s.outlet n).burstRef && (s.entryOf n).isNone } ∧
      t.channel n = turnedOff { s.channel n with condition := .parked, grant := 0 } s.inPattern ∧
      (∀ b, t.branch b = branchAfterOff s n b) ∧
      t.bursts = withoutOutlet s.bursts n ∧
      OthersKept s t n ∧ PlantKept s t ∧ ArbiterHeld s t p ∧
      PortAnswered s t p (entryEvent s n (fun e => .burstRevoked e.outlet .park)) 0x13 .ok []

/-- UNPARK OUTLET on a PARKED outlet and CLEAR ABSENT on an ABSENT one make it ACTIVE with its watch afresh; grant, demand and everything else stay. The port's hold of the table then lasts until its response is gone (the model's choice: log 6). -/
def Obligations.UnparkAndClearAbsentReturnToActive : Prop :=
  ∀ (s : State) (p : Port) (n : OutletId), Reaches s p n [BitVec.ofNat 8 n.val] OutletRights.park →
    (s.outlet n).struct.pool ≠ .unused →
    ((s.outlet n).condition = .parked →
      ∃ t, exec (.unparkOutlet p [BitVec.ofNat 8 n.val]) s = .next t ∧
        t.outlet n = { s.outlet n with condition := .active } ∧
        t.channel n = { s.channel n with condition := .active, watchCount := 0, watchLatch := false } ∧
        OthersKept s t n ∧ PlantKept s t ∧ t.bursts = s.bursts ∧ t.branches = s.branches ∧ ArbiterHeld s t p ∧
        PortAnswered s t p s.port 0x14 .ok []) ∧
    ((s.outlet n).condition ≠ .parked →
      ∃ t, exec (.unparkOutlet p [BitVec.ofNat 8 n.val]) s = .next t ∧ AllKeptHeld s t p ∧
        PortAnswered s t p s.port 0x14 .badState []) ∧
    ((s.outlet n).condition = .absent →
      ∃ t, exec (.clearAbsent p [BitVec.ofNat 8 n.val]) s = .next t ∧
        t.outlet n = { s.outlet n with condition := .active } ∧
        t.channel n = { s.channel n with condition := .active, watchCount := 0, watchLatch := false } ∧
        OthersKept s t n ∧ PlantKept s t ∧ t.bursts = s.bursts ∧ t.branches = s.branches ∧ ArbiterHeld s t p ∧
        PortAnswered s t p s.port 0x15 .ok []) ∧
    ((s.outlet n).condition ≠ .absent →
      ∃ t, exec (.clearAbsent p [BitVec.ofNat 8 n.val]) s = .next t ∧ AllKeptHeld s t p ∧
        PortAnswered s t p s.port 0x15 .badState [])

/-- SENSE START from PARKED or ABSENT outside SAFE puts the outlet into SENSING with its prior condition and the channel into TEST with its first pulse on and 10 s to run. The port's hold of the table then lasts until its response is gone (the model's choice: log 6). The test-pulse cycle counts from 0 (the model's choice: log 10). -/
def Obligations.SenseStartEntersTest : Prop :=
  ∀ (s : State) (p : Port) (n : OutletId) (k : Prior), Reaches s p n [BitVec.ofNat 8 n.val] OutletRights.park →
    (s.outlet n).struct.pool ≠ .unused → s.engine.state ≠ .safe →
    (s.outlet n).condition = (match k with
      | .parked => .parked
      | .absent => .absent) →
    ∃ t, exec (.senseStart p [BitVec.ofNat 8 n.val]) s = .next t ∧
      t.outlet n = { s.outlet n with condition := .sensing k } ∧
      t.channel n = { s.channel n with
        condition := .sensing k, phase := .test, applied := 0, output := .on, finding := some false,
        holdLeft := some 10000, testTick := 0, watchCount := 0, watchLatch := false } ∧
      OthersKept s t n ∧ PlantKept s t ∧ t.bursts = s.bursts ∧ t.branches = s.branches ∧ ArbiterHeld s t p ∧
      PortAnswered s t p s.port 0x16 .ok []

/-- SENSE END on a SENSING outlet writes what the channel found, returns the prior condition, stops the pulses and posts SENSE_DONE to the ports that read the outlet. The port's hold of the table then lasts until its response is gone (the model's choice: log 6). -/
def Obligations.SenseEndWritesTheFinding : Prop :=
  ∀ (s : State) (p : Port) (n : OutletId) (k : Prior), Reaches s p n [BitVec.ofNat 8 n.val] OutletRights.park →
    (s.outlet n).struct.pool ≠ .unused → (s.outlet n).condition = .sensing k →
    let prior : Condition := match k with
      | .parked => .parked
      | .absent => .absent
    ∃ t, exec (.senseEnd p [BitVec.ofNat 8 n.val]) s = .next t ∧
      t.outlet n = { s.outlet n with
        condition := prior
        continuity := if (s.channel n).finding = some true then .present else .absent } ∧
      (t.channel n).condition = prior ∧ (t.channel n).finding = (s.channel n).finding ∧
      ((s.channel n).phase = .test →
        (t.channel n).phase = (if s.inPattern then .safePattern else .off) ∧ (t.channel n).output = .off ∧
        (t.channel n).holdLeft = none) ∧
      OthersKept s t n ∧ PlantKept s t ∧ t.bursts = s.bursts ∧ t.branches = s.branches ∧ ArbiterHeld s t p ∧
      PortAnswered s t p (readEvent s n (.senseDone n)) 0x17 .ok []

/-- REQUEST BURST on an ACTIVE STEAM outlet without an entry, with room in the list and outside SAFE, appends a QUEUED entry with clamped values; a second request answers DUPLICATE and a full list QUEUE_FULL. The port's hold of the table then lasts until its response is gone (the model's choice: log 6). -/
def Obligations.RequestBurstAppendsAnEntry : Prop :=
  ∀ (s : State) (p : Port) (n : OutletId) (a₁ a₂ d₁ d₂ w₁ w₂ : Byte),
    Reaches s p n [BitVec.ofNat 8 n.val, a₁, a₂, d₁, d₂, w₁, w₂] OutletRights.burst →
    s.engine.state ≠ .safe → (s.outlet n).struct.pool = .steam → (s.outlet n).condition = .active →
    let a := a₁.toNat * 256 + a₂.toNat
    let d := d₁.toNat * 256 + d₂.toNat
    let w := w₁.toNat * 256 + w₂.toNat
    let c := (s.outlet n).limits.ceiling
    let amount := if c = 0 then 0 else max 1 (min a c)
    let i := Instr.requestBurst p [BitVec.ofNat 8 n.val, a₁, a₂, d₁, d₂, w₁, w₂]
    (s.entryOf n = none → s.bursts.length < 8 →
      ∃ t, exec i s = .next t ∧
        t.bursts = s.bursts ++
          [{ outlet := n, requester := p, amount := amount, duration := max 10 (min d 3600),
             waitLimit := max 10 (min w 600), state := .queued 0 }] ∧
        t.outlet n = { s.outlet n with burstRef := true } ∧ t.channel n = s.channel n ∧ OthersKept s t n ∧
        PlantKept s t ∧ t.branches = s.branches ∧ ArbiterHeld s t p ∧
        PortAnswered s t p s.port 0x18
          (if amount = a ∧ 10 ≤ d ∧ d ≤ 3600 ∧ 10 ≤ w ∧ w ≤ 600 then .ok else .clamped) []) ∧
    (s.entryOf n ≠ none →
      ∃ t, exec i s = .next t ∧ AllKeptHeld s t p ∧ PortAnswered s t p s.port 0x18 .duplicate []) ∧
    (s.entryOf n = none → 8 ≤ s.bursts.length →
      ∃ t, exec i s = .next t ∧ AllKeptHeld s t p ∧ PortAnswered s t p s.port 0x18 .queueFull [])

/-- END BURST by the requester removes its entry, closes up the clearance order behind a CLEARED one, lowers the grant to the demand when the entry was CLEARED, and posts BURST_ENDED or BURST_WITHDRAWN to it; another port answers DENIED. The port's hold of the table then lasts until its response is gone (the model's choice: log 6). -/
def Obligations.EndBurstRemovesTheEntry : Prop :=
  ∀ (s : State) (p : Port) (n : OutletId) (e : BurstEntry), s.BurstsKept →
    Reaches s p n [BitVec.ofNat 8 n.val] OutletRights.burst → (s.outlet n).struct.pool = .steam →
    s.entryOf n = some e →
    (e.requester = p →
      ∃ t, exec (.endBurst p [BitVec.ofNat 8 n.val]) s = .next t ∧
        t.bursts = withoutEntry s.bursts e ∧
        t.outlet n = { s.outlet n with
          burstRef := false
          grant := if e.isCleared then lowered (s.outlet n).grant (s.outlet n).demand else (s.outlet n).grant } ∧
        t.channel n =
          (if e.isCleared then loweredChannel (s.channel n) (s.outlet n).grant (s.outlet n).demand
           else s.channel n) ∧
        OthersKept s t n ∧ PlantKept s t ∧ t.branches = s.branches ∧ ArbiterHeld s t p ∧
        PortAnswered s t p
          (entryEvent s n fun e => if e.isCleared then .burstEnded e.outlet else .burstWithdrawn e.outlet)
          0x19 .ok []) ∧
    (e.requester ≠ p →
      ∃ t, exec (.endBurst p [BitVec.ofNat 8 n.val]) s = .next t ∧ AllKeptHeld s t p ∧
        PortAnswered s t p s.port 0x19 .denied [])

/-- SET PROFILE writes a profile 0 to 3 and answers BAD_INDEX above 3. The port's hold of the table then lasts until its response is gone (the model's choice: log 6). That the number is checked after the right and the table is the model's reading (log 16). -/
def Obligations.SetProfileWritesTheProfile : Prop :=
  ∀ (s : State) (p : Port) (v : Byte), Receives s p → TableIdle s → (s.globals p).profile = true →
    (∀ k : Profile, v.toNat = k.val →
      ∃ t, exec (.setProfile p [v]) s = .next t ∧ t.profile = k ∧ t.outlets = s.outlets ∧ t.bursts = s.bursts ∧
        DriveKept s t ∧ PoolsKept s t ∧ MeasureKept s t ∧ RestKept s t ∧ EngineKept s t ∧ ArbiterHeld s t p ∧
        PortAnswered s t p s.port 0x28 .ok []) ∧
    (3 < v.toNat →
      ∃ t, exec (.setProfile p [v]) s = .next t ∧ AllKeptHeld s t p ∧ PortAnswered s t p s.port 0x28 .badIndex [])

/-! ## Port events -/

/-- A received byte moves the receiver: A5h starts a frame, a length above 32 or a missing stop bit goes to DISCARD with FRAME_ERROR, a complete frame with the right CRC is the command of its code, and one with a wrong CRC is discarded with FRAME_ERROR. A good frame with an undefined code answers UNKNOWN; one of any code that completes while a command is outstanding is discarded with OVERRUN, whether it comes as OVERRUN or as the frame itself (that the row OVERRUN leaves the receiver as it is, is the model's choice: log 37); one of any code that completes while a lapse is pending is held. -/
def Obligations.FramesAreReceivedAndTaken : Prop :=
  ∀ (s : State) (p : Port), s.engine.starting = false →
    (∀ (code : Byte) (pl : List Byte), Receives s p → Code.ofByte code = none →
      ∃ t, exec (.unknownCommand p code pl) s = .next t ∧ AllKept s t ∧ PortAnswered s t p s.port code .unknown []) ∧
    ((s.port p).outstanding ≠ none → s.transmitting p = false →
      (∃ t, exec (.overrun p) s = .next t ∧ AllKept s t ∧ OtherPortsKept s t p ∧
        t.port p = { s.port p with flags := (s.port p).flags.post .overrun,
                                   silence := SilenceTimer.load (s.port p).config.silence }) ∧
      (∀ (code : Byte) (pl : List Byte),
        ∃ t, exec (frameRow p code pl) s = .next t ∧ AllKept s t ∧ OtherPortsKept s t p ∧
          t.port p = { s.port p with receiver := .idle, flags := (s.port p).flags.post .overrun,
                                     silence := SilenceTimer.load (s.port p).config.silence })) ∧
    (∀ (code : Byte) (pl : List Byte), (s.port p).outstanding = none → (s.port p).link = .lapsing →
      ∃ t, exec (frameRow p code pl) s = .next t ∧ AllKept s t ∧ OtherPortsKept s t p ∧
        t.port p = { s.port p with receiver := .idle, outstanding := some (.held code pl) }) ∧
    (∀ b : Byte, s.transmitting p = false →
      let u := { s.port p with quiet := 0 }
      let failed : PortUnit := { u with flags := u.flags.post .frameError }
      ((s.port p).receiver = .idle →
        (∃ t, exec (.receiveByte p 0xA5 true) s = .next t ∧ AllKept s t ∧ OtherPortsKept s t p ∧
          t.port p = { u with receiver := .inFrame [] }) ∧
        (∀ stop, (b ≠ 0xA5 ∨ stop = false) →
          ∃ t, exec (.receiveByte p b stop) s = .next t ∧ AllKept s t ∧ OtherPortsKept s t p ∧ t.port p = u)) ∧
      ((s.port p).receiver = .discard → ∀ stop,
        ∃ t, exec (.receiveByte p b stop) s = .next t ∧ AllKept s t ∧ OtherPortsKept s t p ∧ t.port p = u) ∧
      (∀ bs, (s.port p).receiver = .inFrame bs →
        ∃ t, exec (.receiveByte p b false) s = .next t ∧ AllKept s t ∧ OtherPortsKept s t p ∧
          t.port p = { failed with receiver := .discard }) ∧
      ((s.port p).receiver = .inFrame [] →
        ∃ t, exec (.receiveByte p b true) s = .next t ∧ AllKept s t ∧ OtherPortsKept s t p ∧
          t.port p =
            if 32 < b.toNat then { failed with receiver := .discard } else { u with receiver := .inFrame [b] }) ∧
      (∀ len bs, (s.port p).receiver = .inFrame (len :: bs) → bs.length + 1 < len.toNat + 3 →
        ∃ t, exec (.receiveByte p b true) s = .next t ∧ AllKept s t ∧ OtherPortsKept s t p ∧
          t.port p = { u with receiver := .inFrame (len :: bs ++ [b]) }) ∧
      (∀ len code pl c, (s.port p).receiver = .inFrame (len :: code :: pl ++ [c]) → pl.length = len.toNat →
        ((crc (len :: code :: pl)).toNat = c.toNat * 256 + b.toNat →
          exec (.receiveByte p b true) s =
            exec (frameRow p code pl) (s.modPort p fun u => { u with quiet := 0, receiver := .idle })) ∧
        ((crc (len :: code :: pl)).toNat ≠ c.toNat * 256 + b.toNat →
          ∃ t, exec (.receiveByte p b true) s = .next t ∧ AllKept s t ∧ OtherPortsKept s t p ∧
            t.port p = { failed with receiver := .idle })))

/-- A frame broken off by more than 5 ms is abandoned with FRAME_ERROR, a quiet line ends DISCARD, and when a response has gone nothing is outstanding and the port no longer holds the table. That the hold ends with the response is the model's choice (log 6), and so is that the rows of the two quiet times say that their time has come (log 4). -/
def Obligations.QuietLinesAndTheEndOfAResponse : Prop :=
  ∀ (s : State) (p : Port),
    (∀ bs, (s.port p).receiver = .inFrame bs →
      ∃ t, exec (.interByteTimeout p) s = .next t ∧ AllKept s t ∧ OtherPortsKept s t p ∧
        t.port p = { s.port p with receiver := .idle, flags := (s.port p).flags.post .frameError }) ∧
    ((s.port p).receiver = .discard →
      ∃ t, exec (.discardQuietExpiry p) s = .next t ∧ AllKept s t ∧ OtherPortsKept s t p ∧
        t.port p = { s.port p with receiver := .idle }) ∧
    (∀ r sent, (s.port p).outstanding = some (.answered r sent) →
      ∃ t, exec (.responseSent p) s = .next t ∧ RecordsKept s t ∧ DriveKept s t ∧ PoolsKept s t ∧ MeasureKept s t ∧
        RestKept s t ∧ EngineKept s t ∧ OtherPortsKept s t p ∧
        t.port p = { s.port p with outstanding := none, receiver := .idle, quiet := 0 } ∧
        t.arbiter = { s.arbiter with
          holder := if s.arbiter.holder = some (.port p) then none else s.arbiter.holder })

/-- LAPSE_WARNING is posted once per reload. The silence timer's expiry withdraws the capacity the port posted and, with the table free, at once takes its demands by their lapse actions, frees their owners, revokes its bursts with BURST_REVOKED and cause LAPSE, and lowers each grant to what is left of the effective demand; with the table held the link is LAPSING and APPLY_LAPSE does that part later, and then the frame that the port held meanwhile is taken like one that completes at the LAPSED port now (where it is a TABLE RESET, the frames held for the lapses it drops follow it: log 24). A row for an expiry says that its time has come (the model's choice: log 4). A table command of the port that waits at the arbiter goes on waiting (the model's choice: log 44). -/
def Obligations.LapseWithdrawsWhatThePortAskedFor : Prop :=
  ∀ (s : State) (p : Port), s.BurstsKept →
    (∀ tm, s.silenceRuns p = true → (s.port p).silence = some tm → tm.warned = false →
      ∃ t, exec (.lapseWarning p) s = .next t ∧ AllKept s t ∧ OtherPortsKept s t p ∧
        t.port p = { s.port p with flags := (s.port p).flags.post .lapseWarning,
                                   silence := some { tm with warned := true } }) ∧
    (s.silenceRuns p = true →
      ∃ t, exec (.silenceTimerExpiry p) s = .next t ∧ (t.port p).silence = none ∧
        t.steam = { s.steam with boilers := t.steam.boilers } ∧
        (∀ b, t.boiler b = if (s.boiler b).poster = some p
          then { s.boiler b with postedKw := (s.boiler b).lapseCapacity, poster := none } else s.boiler b) ∧
        t.water = (if s.water.poster = some p
          then { s.water with flow := s.water.lapseFlow, poster := none } else s.water) ∧
        MeasureKept s t ∧ RestKept s t ∧ EngineKept s t ∧ ArbiterKept s t ∧
        (s.tableFree = true → LapseApplied s t p) ∧
        (s.tableFree = false → RecordsKept s t ∧ DriveKept s t ∧ (t.port p).link = .lapsing) ∧
        ((∃ b, (s.boiler b).poster = some p) ∨ s.water.poster = some p →
          ∀ q, (t.port q).flags.capacityChange = true)) ∧
    ((s.port p).link = .lapsing → s.mayApply (.lapse p) = true →
      (∀ q code pl, q ≠ p → (s.port q).outstanding = some (.held code pl) → (s.port q).link = .lapsing) →
      ∃ m t, exec (.applyLapse p) s = .next t ∧ HeldFrameTaken m t p ∧
        PoolsKept s m ∧ MeasureKept s m ∧ RestKept s m ∧ EngineKept s m ∧ LapseApplied s m p ∧
        m.arbiter = { s.arbiter with holder := none } ∧ OtherPortsKept s m p ∧
        m.port p = { s.port p with
          link := .lapsed, flags := { (s.port p).flags with burstRevoked := (m.port p).flags.burstRevoked } })

/-! ## The arbiter and the rounds -/

/-- A table command of any kind that passes its checks answers BUSY while an operation is in progress; while the table is held, or another requester that waits comes before its port in the rotation, it becomes the outstanding command of its port and waits, and nothing else changes; otherwise it is handed the table and carried out at once. The table then goes to the nearest waiting requester after the last holder. An engine's request is taken; the self-test answers waiting commands BUSY and skips waiting rounds; the store takes the configuration and marks the image invalid; a port's command is carried out and answered. That the last holder is set at the hand-over is the model's reading (log 7), and so is the count of a dropped round request (log 19). That a port still holds the table after its command has been carried out and answered is the model's choice (log 6), and which checks come only with the table its reading (log 16). A command that waited while its port lapsed is carried out like any other (the model's choice: log 44). -/
def Obligations.HandOverFollowsTheRotation : Prop :=
  (∀ (s : State) (p : Port) (c : Code) (pl : List Byte), Receives s p → PassesChecks s p c pl →
    (s.engine.op ≠ .none →
      ∃ t, exec (commandRow c p pl) s = .next t ∧ AllKept s t ∧ PortAnswered s t p s.port c.byte .busy []) ∧
    (s.engine.op = .none → s.tableFree = false ∨ Preceded s (.port p) →
      ∃ t, exec (commandRow c p pl) s = .next t ∧ AllKept s t ∧ OtherPortsKept s t p ∧
        t.port p = waitingUnit (s.port p) c pl ∧ t.waits (.port p) = true) ∧
    (s.engine.op = .none → s.tableFree = true → ¬ Preceded s (.port p) →
      ∃ t, exec (commandRow c p pl) s = .next t ∧
        ServedFrom (s.modPort p fun u => waitingUnit u c pl) t p c pl (decide ((s.port p).link = .lapsed)))) ∧
  ∀ (s : State) (r : Requester), s.mayHandOver = true → s.waits r = true →
    (∀ r', s.waits r' = true → turn s r ≤ turn s r') →
    ∃ t, exec .tableHandover s = .next t ∧ t.arbiter.lastHolder = r ∧ t.arbiter.holder = some r ∧
      (r = .spe → RecordsKept s t ∧ DriveKept s t ∧ PoolsKept s t ∧ MeasureKept s t ∧ RestKept s t ∧ EngineKept s t ∧
        t.ports = s.ports ∧
        t.arbiter = { s.arbiter with holder := some .spe, lastHolder := .spe, steamRequest := false }) ∧
      (r = .wpe → RecordsKept s t ∧ DriveKept s t ∧ PoolsKept s t ∧ MeasureKept s t ∧ RestKept s t ∧ EngineKept s t ∧
        t.ports = s.ports ∧
        t.arbiter = { s.arbiter with holder := some .wpe, lastHolder := .wpe, waterRequest := false }) ∧
      (r = .selfTest → exec .selfTestStart s = .next t ∧ RecordsKept s t ∧ DriveKept s t ∧ RestKept s t ∧
        t.engine = { s.engine with opLeft := 400 } ∧ t.arbiter.steamRequest = false ∧ t.arbiter.waterRequest = false ∧
        t.steam = (if s.arbiter.steamRequest then { s.steam with skipped := min (s.steam.skipped + 1) 65535 }
                   else s.steam) ∧
        t.water = (if s.arbiter.waterRequest then { s.water with skipped := min (s.water.skipped + 1) 65535 }
                   else s.water) ∧
        WaitersAnsweredBusy s t) ∧
      (r = .store → exec .saveStart s = .next t ∧ RecordsKept s t ∧ DriveKept s t ∧ PoolsKept s t ∧ MeasureKept s t ∧
        t.engine = { s.engine with opLeft := 250 } ∧ t.inputs = s.inputs ∧ t.pending = s.pending ∧
        t.store = { s.store with check := none, saving := some s.workingConfig } ∧ WaitersAnsweredBusy s t) ∧
      (∀ p, r = .port p → ∃ code pl revived,
        (s.port p).outstanding = some (.waiting code pl revived) ∧
        (∀ c, Code.ofByte code = some c → ServedFrom s t p c pl revived) ∧
        (Code.ofByte code = none → ∃ resp, (t.port p).outstanding = some (.answered resp false) ∧ resp.code = code))

/-- A round timer's expiry in RUN starts the next 2.0 s at once and asks for the table; with a request still waiting or a self-test in progress the round is skipped and counted, and a skipped water round discards the pulse windows. A row for an expiry says that its time has come (the model's choice: log 4). -/
def Obligations.RoundTimersAskForTheTableOrSkip : Prop :=
  ∀ s : State, s.engine.state = .run →
    (s.steam.timer ≠ none →
      ∃ t, exec .steamRoundTimerExpiry s = .next t ∧ RecordsKept s t ∧ DriveKept s t ∧ t.water = s.water ∧
        MeasureKept s t ∧ RestKept s t ∧ EngineKept s t ∧ t.ports = s.ports ∧
        (s.engine.op = .selfTest ∨ s.arbiter.steamRequest = true →
          t.steam = { s.steam with timer := some 2000, skipped := min (s.steam.skipped + 1) 65535 } ∧
          ArbiterKept s t) ∧
        (s.engine.op ≠ .selfTest → s.arbiter.steamRequest = false →
          t.steam = { s.steam with timer := some 2000 } ∧ t.arbiter = { s.arbiter with steamRequest := true })) ∧
    (s.water.timer ≠ none →
      ∃ t, exec .waterRoundTimerExpiry s = .next t ∧ RecordsKept s t ∧ DriveKept s t ∧ t.steam = s.steam ∧
        t.stores = s.stores ∧ t.reference = s.reference ∧ t.ratio = s.ratio ∧ t.scan = s.scan ∧ RestKept s t ∧
        EngineKept s t ∧ t.ports = s.ports ∧
        (s.engine.op = .selfTest ∨ s.arbiter.waterRequest = true →
          t.water = { s.water with timer := some 2000, skipped := min (s.water.skipped + 1) 65535 } ∧
          ArbiterKept s t ∧ ∀ f, t.pulseChannel f = { s.pulseChannel f with count := 0, overflow := false }) ∧
        (s.engine.op ≠ .selfTest → s.arbiter.waterRequest = false →
          t.water = { s.water with timer := some 2000 } ∧ t.arbiter = { s.arbiter with waterRequest := true } ∧
          t.pulse = s.pulse))

/-- A steam round records C and U, writes the recharge demands and notes for each store what it wrote and from what, leaving the store's settings and reading, sets the statuses, hands the grants to the drive channels, advances count and pointers, flips the parity, posts OUTLET_SHED and OUTLET_RESTORED for the outlets that came into SHED or left it, changes nothing else at the ports but the flags of cleared and revoked bursts, and releases the table. -/
def Obligations.SteamRoundCloses : Prop :=
  ∀ s : State, s.arbiter.holder = some .spe →
    let posted := fun b => if (s.boiler b).armed = true ∧ s.tripAsserted b = false then (s.boiler b).postedKw else 0
    let c := if s.steam.lowpr then (posted 0 + posted 1) * s.steam.lowFraction / 100 else posted 0 + posted 1
    ∃ t, exec .steamRound s = .next t ∧
      t.steam.lastC = c ∧ t.steam.lastU = c - c * s.steam.margin / 100 ∧
      t.steam = { s.steam with
        lastC := c, lastU := t.steam.lastU, sumGrants := t.sumGrants .steam, outcome := t.steam.outcome,
        pointers := t.steam.pointers, roundCount := s.steam.roundCount + 1 } ∧
      (t.steam.outcome = .noCapacity ↔ t.steam.lastU = 0) ∧
      (∀ k : Tier, (t.steam.pointers[k]).val = ((s.steam.pointers[k]).val + 1) % 24) ∧
      t.parity = !s.parity ∧ t.arbiter = { s.arbiter with holder := none } ∧
      (∀ n i, (s.outlet n).struct.pool = .steam → (s.outlet n).struct.role = .recharge i →
        (t.outlet n).owner = .engine ∧
        (∀ x, (s.storeRec i).reading.value? = some x →
          ((t.outlet n).demand : Int) = min ((s.outlet n).limits.ceiling : Int)
            (((s.storeRec i).settings.gain : Int) * max 0 ((s.storeRec i).settings.setpoint - x) / 10)) ∧
        ((s.storeRec i).reading.value? = none →
          (t.outlet n).demand = min (s.storeRec i).settings.fallback (s.outlet n).limits.ceiling)) ∧
      (∀ n, (s.outlet n).struct.pool ≠ .steam ∨ (s.outlet n).struct.role = .plain →
        (t.outlet n).demand = (s.outlet n).demand ∧ (t.outlet n).owner = (s.outlet n).owner) ∧
      (∀ n, (s.outlet n).struct.pool = .steam →
        (t.channel n).grant = (t.outlet n).grant ∧
        (t.outlet n).status = roundStatus (s.outlet n).condition (t.clearedAmount n).isSome (t.outlet n).demand
          (t.outlet n).grant (s.outlet n).limits.floor) ∧
      (∀ n, (s.outlet n).struct.pool ≠ .steam → s.entryOf n = none →
        t.outlet n = s.outlet n ∧ t.channel n = s.channel n) ∧
      (∀ n, (t.outlet n).struct = (s.outlet n).struct ∧ (t.outlet n).limits = (s.outlet n).limits ∧
        (t.outlet n).condition = (s.outlet n).condition ∧ (t.outlet n).trim = (s.outlet n).trim) ∧
      ShedEventsPosted s t .steam ∧
      (∀ q, t.port q = { s.port q with flags := { (s.port q).flags with
        outletShed := (t.port q).flags.outletShed, outletRestored := (t.port q).flags.outletRestored,
        burstCleared := (t.port q).flags.burstCleared, burstRevoked := (t.port q).flags.burstRevoked } }) ∧
      (∀ i,
        let bound := fun n => (s.outlet n).struct.pool = .steam ∧ (s.outlet n).struct.role = .recharge i
        t.storeRec i = { s.storeRec i with lastRecharge := (t.storeRec i).lastRecharge } ∧
        (∀ n, bound n → (∀ k, k < n → ¬ bound k) → (t.storeRec i).lastRecharge = some {
          outlet := n, demand := (t.outlet n).demand
          origin := if (s.storeRec i).reading.value? = none then .fallback else .reading }) ∧
        ((∀ n, ¬ bound n) → (t.storeRec i).lastRecharge = none)) ∧
      t.water = s.water ∧ t.profile = s.profile ∧ t.branches = s.branches ∧ t.reference = s.reference ∧
      t.ratio = s.ratio ∧ t.pulse = s.pulse ∧ t.scan = s.scan ∧ RestKept s t ∧ EngineKept s t

/-- The stages of a round. The eligible outlets come in ascending index with their demand and a grant of 0. The floor stage gives each tier in order what it is owed, or an overloaded tier its scaled part and the tiers after it nothing. The fill of a tier gives every capped share its need in a pass, or every share and a remainder from the rotation pointer, until nothing is left or nobody needs more. A LOCKOUT revokes the entries of ports without CAPACITY, a reservation that does not fit revokes the entry cleared last, the clearance order closing up at each removal, and admission clears heads of the queue while they fit. -/
def Obligations.StagesOfARound : Prop :=
  (∀ (s : State) (pool : Pool),
    (s.shares pool).Pairwise (fun x y => x.outlet < y.outlet) ∧
    ∀ x, x ∈ s.shares pool ↔
      ((s.outlet x.outlet).struct.pool = pool ∧ (s.outlet x.outlet).condition = .active ∧
        (pool = .steam → s.clearedAmount x.outlet = none)) ∧
      x = { outlet := x.outlet, demand := (s.outlet x.outlet).demand, floor := (s.outlet x.outlet).limits.floor,
            weight := (s.outlet x.outlet).limits.weight, tier := (s.outlet x.outlet).limits.tiers[s.profile],
            grant := 0 }) ∧
  (∀ (r : Nat) (xs : List Share),
    let owed := fun x : Share => min x.floor x.demand
    let sum := fun keep : Tier → Bool => ((xs.filter fun x => keep x.tier).map owed).sum
    let before := fun k : Tier => sum fun j => decide (j < k)
    let f := fun k : Tier => sum fun j => decide (j = k)
    let total := sum fun _ => true
    floorStage [0, 1, 2, 3] r xs =
      (xs.map fun x =>
        if before x.tier + f x.tier ≤ r then { x with grant := owed x }
        else if before x.tier ≤ r then { x with grant := owed x * (r - before x.tier) / f x.tier } else x,
       r - total, decide (r < total))) ∧
  (∀ (ptrs : Vector OutletId 4) (k : Tier) (xs : List Share) (r : Nat),
    xs.Pairwise (fun x y => x.outlet < y.outlet) → (∀ x ∈ xs, 1 ≤ x.weight) →
    let isIn := fun x : Share => decide (x.tier = k ∧ x.grant < x.demand)
    let members := xs.filter isIn
    let q := fun x : Share => r * x.weight / (members.map Share.weight).sum
    let capped := fun x : Share => isIn x && decide (x.demand - x.grant ≤ q x)
    let ahead := fun x : Share =>
      (members.filter fun y => decide (handPlace ptrs[k] y.outlet < handPlace ptrs[k] x.outlet)).length
    let e := fillTier ptrs k (xs, r)
    (members = [] ∨ r = 0 → e = (xs, r)) ∧
    (members ≠ [] → r ≠ 0 → xs.any capped = false →
      e = (xs.map fun x =>
        if isIn x then { x with grant := x.grant + q x + if ahead x < r - (members.map q).sum then 1 else 0 } else x,
        0)) ∧
    (r ≠ 0 → xs.any capped = true →
      e = fillTier ptrs k
        (xs.map fun x => if capped x then { x with grant := x.demand } else x,
         r - ((xs.filter capped).map fun x => x.demand - x.grant).sum)) ∧
    e.2 + (e.1.map Share.grant).sum = r + (xs.map Share.grant).sum ∧
    (e.2 = 0 ∨ ∀ x ∈ e.1, x.tier = k → x.demand ≤ x.grant)) ∧
  (∀ s : State, s.BurstsKept →
    (s.lockout = false → s.lockoutRevocation = s) ∧
    (s.lockout = true →
      let lacks := fun e : BurstEntry => !(s.globals e.requester).capacity
      s.lockoutRevocation.bursts = withoutAll s.bursts lacks ∧
      s.lockoutRevocation.bursts.map BurstEntry.outlet =
        (s.bursts.filter fun e => !lacks e).map BurstEntry.outlet ∧
      ∀ q, (s.lockoutRevocation.port q).flags.burstRevoked = revokedNotices s q lacks .lockout) ∧
    (∀ r, s.clearedTotal ≤ r → State.revokeUntilFits s.bursts.length r s = s) ∧
    (∀ r e, r < s.clearedTotal → e ∈ s.bursts → e.isCleared = true →
      (∀ e' ∈ s.bursts, e'.isCleared = true → e' ≠ e → e'.rank < e.rank) →
      let t := s.removeEntry e.outlet (State.revoked .capacity)
      State.revokeUntilFits s.bursts.length r s = State.revokeUntilFits t.bursts.length r t ∧
      t.bursts = withoutEntry s.bursts e ∧
      ∀ q, t.port q =
        if q = e.requester then withEvent (s.port q) (.burstRevoked e.outlet .capacity) else s.port q)) ∧
  ∀ (s : State) (xs : List Share) (r : Nat), s.BurstsKept →
    let admission := fun (s : State) xs r => State.admitHeads s.bursts.length s xs r
    ((∀ e ∈ s.bursts, e.isCleared = true) → admission s xs r = (s, xs, r)) ∧
    ∀ e, s.bursts.find? (fun e => !e.isCleared) = some e →
      let back := ((xs.filter fun x => decide (x.outlet = e.outlet)).map Share.grant).sum
      let t := s.clearEntry e
      (r + back < e.amount → admission s xs r = (s, xs, r)) ∧
      (e.amount ≤ r + back →
        admission s xs r = admission t (xs.filter fun x => decide (x.outlet ≠ e.outlet)) (r + back - e.amount)) ∧
      t.bursts = s.bursts.map (fun x => if x.outlet = e.outlet
        then { x with state := .cleared (x.duration * 1000) ((s.bursts.filter BurstEntry.isCleared).length + 1) }
        else x) ∧
      (∀ q, t.port q = if q = e.requester then withEvent (s.port q) (.burstCleared e.outlet) else s.port q) ∧
      t = { s with bursts := t.bursts, ports := t.ports }

/-- What a round grants: in the steam round the floor stage from U, the fills of tiers 0 and 1, the reservation of the cleared bursts, the admission of heads, the fills of tiers 2 and 3 where every outlet of tiers 0 and 1 holds its demand, each cleared burst its amount and every other outlet 0; in the water round the floor stage from Uw and the four fills. While an outlet is short, one of a later tier holds no more than its floor. -/
def Obligations.RoundsGrantByTheirStages : Prop :=
  ∀ s : State, s.BurstsKept →
    (s.arbiter.holder = some .spe →
      ∃ t, exec .steamRound s = .next t ∧
        let u := t.steam.lastU
        let p := s.steam.pointers
        let fl := floorStage [0, 1, 2, 3] u (s.rechargeStage.shares .steam)
        let up := fillTier p 1 (fillTier p 0 (fl.1, fl.2.1))
        let s1 := s.rechargeStage.lockoutRevocation
        let s2 := State.revokeUntilFits s1.bursts.length up.2 s1
        let ad := State.admitHeads s2.bursts.length s2 up.1 (up.2 - s2.clearedTotal)
        let w := if ad.2.1.all (fun x => decide (2 ≤ x.tier.val ∨ x.demand ≤ x.grant))
                 then fillTier p 3 (fillTier p 2 ad.2) else ad.2
        s2.clearedTotal ≤ up.2 ∧ t.bursts = ad.1.bursts ∧
        t.steam.outcome = (if u = 0 then .noCapacity else if fl.2.2 then .floorOverload else .normal) ∧
        (∀ x ∈ w.1, (t.outlet x.outlet).grant = x.grant) ∧
        (∀ n, (s.outlet n).struct.pool = .steam → (∀ x ∈ w.1, x.outlet ≠ n) →
          (t.outlet n).grant = (t.clearedAmount n).getD 0) ∧
        TiersInOrder s t .steam) ∧
    (s.arbiter.holder = some .wpe →
      ∃ t, exec .waterRound s = .next t ∧
        let u := t.water.lastUsable
        let p := s.water.pointers
        let fl := floorStage [0, 1, 2, 3] u (s.shares .water)
        let w := fillTier p 3 (fillTier p 2 (fillTier p 1 (fillTier p 0 (fl.1, fl.2.1))))
        t.water.outcome = (if u = 0 then .noCapacity else if fl.2.2 then .floorOverload else .normal) ∧
        (∀ x ∈ w.1, (t.outlet x.outlet).grant = x.grant) ∧
        (∀ n, (s.outlet n).struct.pool = .water → (∀ x ∈ w.1, x.outlet ≠ n) → (t.outlet n).grant = 0) ∧
        TiersInOrder s t .water)

/-- The grants a completed round sets for its pool never exceed the usable capacity it computed, and their sum is the one it records. -/
def Obligations.GrantsNeverExceedTheUsableCapacity : Prop :=
  ∀ s : State, s.BurstsKept →
    (s.arbiter.holder = some .spe →
      ∃ t, exec .steamRound s = .next t ∧ t.sumGrants .steam ≤ t.steam.lastU ∧
        t.steam.sumGrants = t.sumGrants .steam) ∧
    (s.arbiter.holder = some .wpe →
      ∃ t, exec .waterRound s = .next t ∧ t.sumGrants .water ≤ t.water.lastUsable ∧
        t.water.sumGrants = t.sumGrants .water)

/-- The derate a water round computes and records: the fail derate with no valid reading, 100 at or above the higher setpoint, D_low at or below the lower low point, and the straight line between, over at least 10 dC when each store's low point lies 10 dC under its setpoint. -/
def Obligations.WaterRoundDerates : Prop :=
  ∀ s : State, s.arbiter.holder = some .wpe →
    let a := s.storeRec 0
    let b := s.storeRec 1
    let set := max a.settings.setpoint b.settings.setpoint
    let low := min a.settings.lowPoint b.settings.lowPoint
    (a.settings.lowPoint + 10 ≤ a.settings.setpoint → b.settings.lowPoint + 10 ≤ b.settings.setpoint → 10 ≤ set - low) ∧
    ∃ t, exec .waterRound s = .next t ∧
      (a.reading.value? = none → b.reading.value? = none → t.water.lastDerate = s.water.failDerate) ∧
      (∀ x : Int,
        (a.reading.value? = some x ∧ b.reading.value? = none) ∨ (a.reading.value? = none ∧ b.reading.value? = some x) ∨
        (∃ y z, a.reading.value? = some y ∧ b.reading.value? = some z ∧ x = min y z) →
        (set ≤ x → t.water.lastDerate = 100) ∧
        (x < set → x ≤ low → t.water.lastDerate = s.water.dLow) ∧
        (x < set → low < x → s.water.dLow ≤ 100 →
          (t.water.lastDerate : Int) = s.water.dLow + (100 - (s.water.dLow : Int)) * (x - low) / (set - low) ∧
          s.water.dLow ≤ t.water.lastDerate ∧ t.water.lastDerate ≤ max s.water.dLow 99))

/-- A water round uses Uw = floor(P × d / 100), grants nothing when it is 0, captures every pulse window, leaves the trims alone in the first round of a RUN and otherwise steps streaks and trims by the overdraw rules, sets each status by the grant, posts OVERDRAW, OUTLET_SHED and OUTLET_RESTORED, hands grants and trims to the drive channels, advances its count and pointers, keeps P, D_low and the fail derate, and releases the table. The first round is the one that runs first after the entry to RUN (the model's choice: log 33). -/
def Obligations.WaterRoundCloses : Prop :=
  ∀ s : State, s.arbiter.holder = some .wpe →
    ∃ t, exec .waterRound s = .next t ∧
      t.water.lastUsable = s.water.flow * t.water.lastDerate / 100 ∧
      (s.water.flow ≤ 2000 → t.water.lastDerate ≤ 100 → t.water.lastUsable ≤ 2000) ∧
      (t.water.lastUsable = 0 →
        t.water.outcome = .noCapacity ∧ ∀ n, (s.outlet n).struct.pool = .water → (t.outlet n).grant = 0) ∧
      (t.water.lastUsable ≠ 0 → t.water.outcome ≠ .noCapacity) ∧
      t.water = { s.water with
        lastDerate := t.water.lastDerate, lastUsable := t.water.lastUsable, sumGrants := t.sumGrants .water,
        outcome := t.water.outcome, pointers := t.water.pointers, roundCount := s.water.roundCount + 1,
        firstRound := false } ∧
      (∀ k : Tier, (t.water.pointers[k]).val = ((s.water.pointers[k]).val + 1) % 24) ∧
      (∀ f, t.pulseChannel f = { s.pulseChannel f with
        count := 0, overflow := false, lastFlow := (s.pulseChannel f).count * (s.pulseChannel f).weight * 3,
        lastSaturated := (s.pulseChannel f).overflow }) ∧
      (s.water.firstRound = true → ∀ n, (t.outlet n).trim = (s.outlet n).trim ∧
        (t.outlet n).overStreak = (s.outlet n).overStreak ∧ (t.outlet n).underStreak = (s.outlet n).underStreak) ∧
      TrimsStepped s t ∧ ShedEventsPosted s t .water ∧
      (∀ q, t.port q = { s.port q with flags := { (s.port q).flags with
        outletShed := (t.port q).flags.outletShed, outletRestored := (t.port q).flags.outletRestored,
        overdraw := (t.port q).flags.overdraw } }) ∧
      (∀ n, (s.outlet n).struct.pool = .water →
        (t.outlet n).status = roundStatus (s.outlet n).condition (s.clearedAmount n).isSome (s.outlet n).demand
          (t.outlet n).grant (s.outlet n).limits.floor) ∧
      (∀ n, (s.outlet n).struct.pool = .water →
        t.channel n = { s.channel n with grant := (t.outlet n).grant, trim := (t.outlet n).trim } ∧
        t.outlet n = { s.outlet n with
          grant := (t.outlet n).grant, trim := (t.outlet n).trim, overStreak := (t.outlet n).overStreak,
          underStreak := (t.outlet n).underStreak, status := (t.outlet n).status }) ∧
      (∀ n, (s.outlet n).struct.pool ≠ .water → t.outlet n = s.outlet n ∧ t.channel n = s.channel n) ∧
      t.arbiter = { s.arbiter with holder := none } ∧ t.bursts = s.bursts ∧ t.steam = s.steam ∧
      t.profile = s.profile ∧ t.branches = s.branches ∧ t.stores = s.stores ∧ t.reference = s.reference ∧
      t.ratio = s.ratio ∧ t.scan = s.scan ∧ RestKept s t ∧ EngineKept s t

/-! ## Plant inputs and measurement -/

/-- A pin that leaves its debounced state starts an interval of 100 ms and one that returns ends it; at the end of the interval the debounced state changes: an asserted trip disarms its boiler, LOWPR goes to the pool record, and the event is posted to all ports. The establishment of an input posts nothing. A row for an expiry says that its time has come (the model's choice: log 4). -/
def Obligations.PlantInputsAreDebounced : Prop :=
  ∀ (s : State) (i : PlantInput),
    (∀ low, (s.input i).debounce = .steady →
      ∃ t, exec (.plantInputLevelChange i low) s = .next t ∧ OnlyInput s t i ∧
        t.input i = { s.input i with
          low := low, debounce := if low = (s.input i).asserted then .steady else .differing 100 }) ∧
    (∀ low left, (s.input i).debounce = .differing left →
      ∃ t, exec (.plantInputLevelChange i low) s = .next t ∧ OnlyInput s t i ∧
        t.input i = { s.input i with
          low := low, debounce := if low = (s.input i).asserted then .steady else .differing left }) ∧
    (∀ low left seen, (s.input i).debounce = .establishing left seen →
      ∃ t, exec (.plantInputLevelChange i low) s = .next t ∧ OnlyInput s t i ∧
        t.input i = { s.input i with low := low, debounce := .establishing left (seen || low) }) ∧
    (∀ left, (s.input i).debounce = .differing left →
      ∃ t, exec (.debounceExpiry i) s = .next t ∧
        t.input i = { s.input i with asserted := !(s.input i).asserted, debounce := .steady } ∧
        (∀ j, j ≠ i → t.input j = s.input j) ∧
        (∀ q, t.port q = withEvent (s.port q) (if i = .lockout then .lockoutChange else .capacityChange)) ∧
        (∀ b : BoilerId, t.boiler b =
          if i = (if b = 0 then .trip0 else .trip1) ∧ (s.input i).asserted = false
          then { s.boiler b with armed := false } else s.boiler b) ∧
        t.steam = { s.steam with
          boilers := t.steam.boilers
          lowpr := if i = .lowpr then !(s.input .lowpr).asserted else s.steam.lowpr } ∧
        RecordsKept s t ∧ DriveKept s t ∧ t.water = s.water ∧ MeasureKept s t ∧ t.store = s.store ∧
        t.pending = s.pending ∧ EngineKept s t ∧ ArbiterKept s t) ∧
    (∀ left seen, (s.input i).debounce = .establishing left seen →
      ∃ t, exec (.inputEstablished i) s = .next t ∧
        (t.input i).asserted = (seen || (s.input i).low) ∧ (t.input i).low = (s.input i).low ∧
        (∀ j, j ≠ i → t.input j = s.input j) ∧ t.ports = s.ports ∧
        t.steam = { s.steam with lowpr := if i = .lowpr then seen || (s.input .lowpr).low else s.steam.lowpr } ∧
        RecordsKept s t ∧ DriveKept s t ∧ t.water = s.water ∧ MeasureKept s t ∧ t.store = s.store ∧
        t.pending = s.pending ∧ EngineKept s t ∧ ArbiterKept s t)

/-- A reference conversion gives VALID for a count of 2000 to 20000 and REF_FAULT otherwise; an entry to REF_FAULT posts SENSOR_FAULT and carries out the fault action (HOLD keeps the stores, INVALID faults the channels and forms the store readings again), a recovery ends the hold; the next conversion begins. The hold's expiry faults every channel that is VALID or SUSPECT. A row for an expiry says that its time has come (the model's choice: log 4). That an entry to SAFE drops the pending removals at once is the model's reading (log 40), that it starts the watch of a channel that is off already afresh its choice (log 39), and that a settle interval of 0 lets a running timer expire at once its reading (log 27). A sense whose test a reset has stopped already ends at that entry like any other (the model's choice: log 45). That senses end in the record at once where the table is held is the model's reading (log 20), and so is that an engine-state write that waits already becomes one with that of the entry (log 12). -/
def Obligations.ReferenceConversionSetsTheReference : Prop :=
  ∀ s : State,
    (∀ count : Option Word, s.engine.starting = false → s.scan.slot = .reference →
      let fails : Bool := !(count.any fun w => decide (2000 ≤ w.toNat ∧ w.toNat ≤ 20000))
      ∃ t, exec (.referenceConversion count) s = .next t ∧
        t.reference.state = (match count with
          | some w => if fails then .refFault else .valid w.toNat
          | none => .refFault) ∧
        t.reference.lastCount = (match count with
          | some w => .count w
          | none => .overflow) ∧
        t.reference.action = s.reference.action ∧ ScanGoesOn t 0 ∧ t.pulse = s.pulse ∧ RestKept s t ∧
        (fails = true → s.reference.state ≠ .refFault →
          (∀ q, (t.port q).flags.sensorFault = true) ∧
          (∀ q, t.port q = { s.port q with flags := (t.port q).flags }) ∧
          (s.reference.action ≠ .safe → RecordsKept s t ∧ DriveKept s t ∧ PoolsKept s t ∧ ArbiterKept s t ∧
            ∀ q, t.port q = withEvent (s.port q) .sensorFault) ∧
          (s.reference.action = .hold → t.reference.hold = some 30000 ∧ EngineKept s t ∧ t.stores = s.stores ∧ ∀ m, t.ratioChannel m =
            { s.ratioChannel m with
              stale := (s.ratioChannel m).stale ||
                decide ((s.ratioChannel m).state = .valid ∨ (s.ratioChannel m).state = .suspect) }) ∧
          (s.reference.action = .invalid → EngineKept s t ∧ t.reference.hold = s.reference.hold ∧
            (∀ i, t.storeRec i = { s.storeRec i with reading := t.formReading (s.storeRec i).settings }) ∧
            ∀ m, ChannelFaulted (s.ratioChannel m) (t.ratioChannel m)) ∧
          (s.reference.action = .safe → t.engine.state = .safe ∧ t.ratio = s.ratio ∧ t.stores = s.stores ∧
            (s.engine.state = .safe → RecordsKept s t ∧ DriveKept s t ∧ PoolsKept s t ∧ EngineKept s t ∧
              ArbiterKept s t ∧ ∀ q, t.port q = withEvent (s.port q) .sensorFault) ∧
            (s.engine.state ≠ .safe → t.arbiter.removals = [] ∧
              SafeEntered (noRemovals s) t fun q => (s.port q).flags.post .sensorFault))) ∧
        (fails = true → s.reference.state = .refFault →
          RecordsKept s t ∧ DriveKept s t ∧ PoolsKept s t ∧ t.stores = s.stores ∧ t.ratio = s.ratio ∧
          t.reference.hold = s.reference.hold ∧ EngineKept s t ∧ ArbiterKept s t ∧ t.ports = s.ports) ∧
        (fails = false → RecordsKept s t ∧ DriveKept s t ∧ PoolsKept s t ∧ t.stores = s.stores ∧ EngineKept s t ∧
          ArbiterKept s t ∧ t.ports = s.ports ∧
          (s.reference.state = .refFault →
            t.reference.hold = none ∧ ∀ m, t.ratioChannel m = { s.ratioChannel m with stale := false }) ∧
          (s.reference.state ≠ .refFault → t.reference.hold = s.reference.hold ∧ t.ratio = s.ratio))) ∧
    (s.reference.hold ≠ none →
      ∃ t, exec .holdTimerExpiry s = .next t ∧ t.reference = { s.reference with hold := none } ∧
        (∀ m, ChannelFaulted (s.ratioChannel m) (t.ratioChannel m)) ∧
        (∀ q, t.port q = withEvent (s.port q) .sensorFault) ∧
        (∀ i, t.storeRec i = { s.storeRec i with reading := t.formReading (s.storeRec i).settings }) ∧
        RecordsKept s t ∧ DriveKept s t ∧ PoolsKept s t ∧ t.pulse = s.pulse ∧ t.scan = s.scan ∧ RestKept s t ∧
        EngineKept s t ∧ ArbiterKept s t)

/-- A ratio conversion is judged SHORT, OPEN, REF, RANGE or good in that order; a good one gives the reading floor((ratio − 1000) × 1000 / 385) plus the trim, an invalid one strikes the channel, the third strike makes it FAULT and posts SENSOR_FAULT, and the stores naming it form their readings again. A PENDING reference is judged REF like a faulty one (the model's choice: log 26). -/
def Obligations.RatioConversionIsJudged : Prop :=
  ∀ (s : State) (m : RatioId) (count : Option Word), s.engine.starting = false → s.scan.slot = .ratio m →
    (s.ratioChannel m).state ≠ .disabled →
    let c := s.ratioChannel m
    ∃ t d, exec (.ratioConversion m count) s = .next t ∧
      t.ratioChannel m = { d with lastCount := match count with
        | some w => .count w
        | none => .overflow } ∧
      (count = none → StruckFor c d .short) ∧
      (∀ w, count = some w → w.toNat < 100 → StruckFor c d .opened) ∧
      (∀ w, count = some w → 100 ≤ w.toNat → (∀ cr, s.reference.state ≠ .valid cr) →
        (s.reference.hold = none → StruckFor c d .ref) ∧
        (s.reference.hold ≠ none → d = { c with lastCause := .ref })) ∧
      (∀ w cr, count = some w → 100 ≤ w.toNat → s.reference.state = .valid cr →
        let ratio := 1000 * cr / w.toNat
        (ratio < 900 ∨ 1600 < ratio → StruckFor c d .range) ∧
        (900 ≤ ratio → ratio ≤ 1600 →
          d = { c with state := .valid, strikes := 0, lastCause := .none,
                       reading := some (((ratio : Int) - 1000) * 1000 / 385 + c.trim) })) ∧
      (∀ k, k ≠ m → t.ratioChannel k = s.ratioChannel k) ∧
      (∀ q, t.port q =
        if c.state = .suspect ∧ d.state = .fault then withEvent (s.port q) .sensorFault else s.port q) ∧
      (∀ i, t.storeRec i =
        if (s.storeRec i).settings.primary = some m ∨ (s.storeRec i).settings.secondary = some m
        then { s.storeRec i with reading := t.formReading (s.storeRec i).settings } else s.storeRec i) ∧
      ScanGoesOn t (m.val + 1) ∧ t.reference = s.reference ∧ t.pulse = s.pulse ∧ RecordsKept s t ∧ DriveKept s t ∧
      PoolsKept s t ∧ RestKept s t ∧ EngineKept s t ∧ ArbiterKept s t

/-- A pulse raises its channel's window count by 1 up to 4095, one that does not reach 4095 leaves the overflow flag, the one that does sets it, further ones change nothing, in every engine state and for each channel by itself; the first water round after an entry to RUN clears the count without using it for the trim. That first round is the one that runs first after the entry to RUN (the model's choice: log 33). -/
def Obligations.PulsesAreCountedToSaturation : Prop :=
  (∀ (s : State) (f : PulseId),
    ∃ t, exec (.pulseCount f) s = .next t ∧
      ((s.pulseChannel f).count < 4095 → (t.pulseChannel f).count = (s.pulseChannel f).count + 1) ∧
      (4095 ≤ (s.pulseChannel f).count → t.pulseChannel f = s.pulseChannel f) ∧
      ((s.pulseChannel f).count + 1 < 4095 → (t.pulseChannel f).overflow = (s.pulseChannel f).overflow) ∧
      ((s.pulseChannel f).count = 4094 → (t.pulseChannel f).overflow = true) ∧
      ((s.pulseChannel f).overflow = true → (t.pulseChannel f).overflow = true) ∧
      t.pulseChannel f = { s.pulseChannel f with count := (t.pulseChannel f).count,
                                                 overflow := (t.pulseChannel f).overflow } ∧
      (∀ k, k ≠ f → t.pulseChannel k = s.pulseChannel k) ∧ t = { s with pulse := t.pulse }) ∧
  (∀ s : State, s.arbiter.holder = some .wpe → s.water.firstRound = true →
    ∃ t, exec .waterRound s = .next t ∧ (∀ f, (t.pulseChannel f).count = 0 ∧ (t.pulseChannel f).overflow = false) ∧
      ∀ n, (t.outlet n).trim = (s.outlet n).trim)

/-! ## The drive channels -/

/-- A period boundary takes the structure copy and begins a period: a duty D formed by R118 from the drive grant or the override; a start from OFF or a place in the branch queue; a close when D is 0; the pattern in SAFE_PATTERN; no change of the output in TEST. A settle interval of 0 lets a running timer expire at once (the model's reading: log 27). That an override takes a WARMING channel into HELD also where its capped duty is 0 is the model's choice (log 36). That the drive grant counts as 0 while an engine-state write waits is the model's reading (log 41). That a close counts for the branch of the structure taken at the boundary, where the one in use before names another, is the model's choice (log 46). -/
def Obligations.PeriodBoundaryFormsTheDuty : Prop :=
  ∀ (s : State) (n : OutletId), s.engine.starting = false →
    let c := s.channel n
    let d := formedDuty s n
    let begun : Channel := { c with inUse := c.copy, position := 0 }
    let quiet : Channel := { begun with applied := 0, output := .off }
    let startable := c.condition = .active ∧ c.pendingAbsence = false ∧ 0 < d
    let mustWait := fun b => (s.branch b).timer ≠ none ∨ (s.branch b).queue ≠ []
    ∃ t, exec (.periodBoundary n) s = .next t ∧
      (c.phase = .off → ¬ startable → t.channel n = quiet ∧ t.branches = s.branches) ∧
      (c.phase = .off → startable → ∀ b, c.copy.branch = some b → mustWait b →
        t.channel n = { quiet with phase := .settleWait } ∧
        t.branch b = { s.branch b with queue := (s.branch b).queue ++ [n] } ∧
        ∀ k, k ≠ b → t.branch k = s.branch k) ∧
      (c.phase = .off → startable → (∀ b, c.copy.branch = some b → ¬ mustWait b) →
        t.channel n = started begun d ∧ BranchRestarted s t c.copy.branch) ∧
      (c.phase = .settleWait → 0 < d → t.channel n = quiet ∧ t.branches = s.branches) ∧
      (c.phase = .settleWait → d = 0 → t.channel n = { quiet with phase := .off } ∧
        ∀ b, t.branch b = { s.branch b with queue := (s.branch b).queue.filter fun m => decide (m ≠ n) }) ∧
      (c.phase = .warming ∨ c.phase = .cycling ∨ c.phase = .held → d = 0 →
        t.channel n = { quiet with phase := .off, dwellLeft := 0 } ∧ BranchRestarted s t c.copy.branch) ∧
      (c.phase = .warming ∨ c.phase = .cycling ∨ c.phase = .held → 0 < d → c.override ≠ none →
        t.channel n = { begun with phase := .held, applied := d, output := .on, dwellLeft := 0 } ∧
        t.branches = s.branches) ∧
      (c.phase = .cycling ∨ c.phase = .held → 0 < d → c.override = none →
        t.channel n = { begun with phase := .cycling, applied := d, output := .on } ∧ t.branches = s.branches) ∧
      (c.phase = .warming → 0 < d → c.override = none →
        t.channel n = { begun with applied := warmed c.copy d,
                                   output := if warmed c.copy d = 0 then .off else .on } ∧
        t.branches = s.branches) ∧
      (c.phase = .test → t.channel n = begun ∧ t.branches = s.branches) ∧
      (c.phase = .safePattern →
        let d := patternOf c (s.engine.state = .safe)
        t.channel n = { begun with applied := d, output := if d = 0 then .off else .on } ∧
        (if c.applied ≠ 0 ∧ d = 0 then BranchRestarted s t c.copy.branch else t.branches = s.branches)) ∧
      (∀ m, m ≠ n → t.channel m = s.channel m) ∧ RecordsKept s t ∧ PoolsKept s t ∧ MeasureKept s t ∧ RestKept s t ∧
      EngineKept s t ∧ ArbiterKept s t ∧ t.ports = s.ports

/-- A warm-up's end makes the channel CYCLING with its duty for the period; a settle timer's end starts the first head of the queue whose duty is above 0 after sending those before it to OFF, and with a settle interval of 0, where no start is deferred, it takes the whole queue so (the model's reading: log 27); a tick moves the position, ends the on time at the applied duty, counts the closed time and runs the feedback watch and the sense. A row for an expiry says that its time has come (the model's choice: log 4). A position equal to the period says that the boundary is due, and the watch count stays at 100 (the model's choice: log 22). The closed time counts its part of a second in ticks beside the seconds (the model's choice: log 29). That the drive grant counts as 0 while an engine-state write waits is the model's reading (log 41). -/
def Obligations.DriveTimersAndTicks : Prop :=
  ∀ (s : State) (n : OutletId) (b : BranchId) (fb : Bool),
    ((s.channel n).phase = .warming →
      ∃ t, exec (.dwellExpiry n) s = .next t ∧ OnlyChannel s t n ∧
        t.channel n = { s.channel n with phase := .cycling, dwellLeft := 0 }) ∧
    ((s.branch b).timer ≠ none →
      ∃ t, exec (.settleTimerExpiry b) s = .next t ∧ RecordsKept s t ∧ PoolsKept s t ∧ MeasureKept s t ∧
        RestKept s t ∧ EngineKept s t ∧ ArbiterKept s t ∧ t.ports = s.ports ∧
        (∀ m, m ∉ (s.branch b).queue → t.channel m = s.channel m) ∧
        let q := (s.branch b).queue
        let idle := fun k => if k = b then { s.branch k with timer := none, queue := [] } else s.branch k
        let sentOff := fun m => { s.channel m with phase := .off, applied := 0, output := .off }
        let begun := fun m => started { s.channel m with inUse := (s.channel m).copy, position := 0 } (formedDuty s m)
        (∀ m ∈ q.takeWhile (fun m => decide (formedDuty s m = 0)), t.channel m = sentOff m) ∧
        (q.dropWhile (fun m => decide (formedDuty s m = 0)) = [] → ∀ k, t.branch k = idle k) ∧
        ((s.branch b).interval ≠ 0 → ∀ m rest, q.dropWhile (fun m => decide (formedDuty s m = 0)) = m :: rest →
          t.channel m = begun m ∧ (∀ k ∈ rest, k ≠ m → k ∉ q.takeWhile (fun m => decide (formedDuty s m = 0)) →
            t.channel k = s.channel k) ∧
          ∀ k, t.branch k =
            (let r := if k = b then { idle k with queue := rest } else idle k
             if (s.channel m).copy.branch = some k then restarted r else r)) ∧
        ((s.branch b).interval = 0 →
          (∀ m ∈ q, t.channel m = if formedDuty s m = 0 then sentOff m else begun m) ∧
          ∀ k, t.branch k =
            if ∃ m ∈ q, formedDuty s m ≠ 0 ∧ (s.channel m).copy.branch = some k then restarted (idle k) else idle k)) ∧
    (s.engine.starting = false →
      ∃ t, exec (.driveTick n fb) s = .next t ∧ OnlyChannel s t n ∧
        let c := s.channel n
        let on := decide (c.output = .on ∧ c.phase ≠ .test)
        let d := t.channel n
        d.position = min (c.position + 1) c.inUse.period ∧ d.phase = c.phase ∧ d.applied = c.applied ∧
        d.grant = c.grant ∧ d.copy = c.copy ∧ d.inUse = c.inUse ∧ d.condition = c.condition ∧
        (c.phase ≠ .test → d.output =
          (if c.applied ≤ d.position ∧ c.applied < c.inUse.period then .off else c.output) ∧ d.finding = c.finding) ∧
        (c.phase = .test → d.testTick = (c.testTick + 1) % 50 ∧ d.output = (if d.testTick = 0 then .on else .off) ∧
          d.finding = (if c.testTick = 0 then some fb else c.finding)) ∧
        (on = true → d.closedTime = 0 ∧ d.closedTicks = 0) ∧
        (on = false → c.closedTicks < 100 → c.closedTime < 65535 →
          d.closedTime * 100 + d.closedTicks = c.closedTime * 100 + c.closedTicks + 1) ∧
        (on = false ∨ c.condition ≠ .active → d.watchCount = c.watchCount ∧ d.watchLatch = c.watchLatch) ∧
        (on = true → c.condition = .active → fb = true → d.watchLatch = false ∧ d.watchCount = 0) ∧
        (on = true → c.condition = .active → fb = false → d.watchLatch = c.watchLatch ∧
          d.watchCount = if c.watchLatch then c.watchCount else min (c.watchCount + 1) 100))

/-- A confirmed loss under FORCE_OFF turns the output off at once and raises the ABSENT write, which is applied when the table is free; under REPORT_ONLY it posts OUTLET_ABSENT and sets the latch. No confirmation follows where the output was turned off at once and the count is 0. A sense's 10 s limit ends the pulses and raises its expiry write. The two APPLY commands apply such a write at a release and drop it when the condition has changed. A row for an expiry says that its time has come (the model's choice: log 4). A settle interval of 0 lets a running timer expire at once (the model's reading: log 27). The absent action is that of the structure in use (the model's reading: log 32). -/
def Obligations.FeedbackLossAndSenseExpiry : Prop :=
  ∀ (s : State) (n : OutletId), s.BurstsKept →
    ((s.channel n).watches = true → (s.channel n).inUse.absentAction = .reportOnly →
      ∃ t, exec (.feedbackLossConfirmed n) s = .next t ∧ RecordsKept s t ∧ t.branches = s.branches ∧
        t.channel n = { s.channel n with watchLatch := true } ∧ (∀ m, m ≠ n → t.channel m = s.channel m) ∧
        (∀ q, t.port q = readEvent s n (.outletAbsent n) q) ∧ PoolsKept s t ∧ MeasureKept s t ∧ RestKept s t ∧
        EngineKept s t ∧ ArbiterKept s t) ∧
    ((s.channel n).applied = 0 → (s.channel n).watchCount = 0 → exec (.feedbackLossConfirmed n) s = .next s) ∧
    ((s.channel n).watches = true → (s.channel n).inUse.absentAction = .forceOff →
      ∃ t, exec (.feedbackLossConfirmed n) s = .next t ∧ OthersKept s t n ∧ PlantKept s t ∧ ArbiterKept s t ∧
        (∀ b, t.branch b = branchAfterOff s n b) ∧
        (s.tableFree = false → RecordsKept s t ∧ t.ports = s.ports ∧
          t.channel n = { turnedOff (s.channel n) s.inPattern with pendingAbsence := true }) ∧
        (s.tableFree = true → (s.outlet n).condition = .active →
          AbsentWritten s t n ∧
          t.channel n = { turnedOff (s.channel n) s.inPattern with
            pendingAbsence := false, condition := .absent, grant := 0 })) ∧
    (s.mayApply (.absent n) = true →
      ∃ t, exec (.applyAbsentWrite n) s = .next t ∧ OthersKept s t n ∧ PlantKept s t ∧ t.branches = s.branches ∧
        t.arbiter = { s.arbiter with holder := none } ∧ (t.channel n).pendingAbsence = false ∧
        ((s.outlet n).condition = .active → AbsentWritten s t n ∧ (t.channel n).condition = .absent ∧
          (t.channel n).grant = 0) ∧
        ((s.outlet n).condition ≠ .active → RecordsKept s t ∧ t.ports = s.ports ∧
          t.channel n = { s.channel n with pendingAbsence := false })) ∧
    ((s.channel n).phase = .test →
      ∃ t, exec (.senseHoldExpiry n) s = .next t ∧ OthersKept s t n ∧ PlantKept s t ∧ t.branches = s.branches ∧
        t.bursts = s.bursts ∧ ArbiterKept s t ∧
        (t.channel n).phase = (if s.inPattern then .safePattern else .off) ∧ (t.channel n).output = .off ∧
        (t.channel n).applied = 0 ∧ (t.channel n).holdLeft = none ∧
        (s.tableFree = false → RecordsKept s t ∧ t.ports = s.ports ∧ (t.channel n).pendingSenseEnd = true) ∧
        (s.tableFree = true → (t.channel n).pendingSenseEnd = false ∧ ∀ k, (s.outlet n).condition = .sensing k →
          SenseExpired s t n k)) ∧
    (s.mayApply (.senseEnd n) = true →
      ∃ t, exec (.applySenseExpiryWrite n) s = .next t ∧ OthersKept s t n ∧ PlantKept s t ∧
        t.branches = s.branches ∧ t.bursts = s.bursts ∧ t.arbiter = { s.arbiter with holder := none } ∧
        (t.channel n).pendingSenseEnd = false ∧ (t.channel n).phase = (s.channel n).phase ∧
        (∀ k, (s.outlet n).condition = .sensing k → SenseExpired s t n k) ∧
        ((∀ k, (s.outlet n).condition ≠ .sensing k) → RecordsKept s t ∧ t.ports = s.ports))

/-! ## Bursts, engine writes and operations -/

/-- In RUN, with the table free, a CLEARED entry whose time is out and a QUEUED one whose wait is out leave the list at once with their notices, the grant lowered to the demand for a CLEARED one; with the table held the removal waits and APPLY_BURST_REMOVAL makes it, or drops it when the entry's state no longer fits or the entry has gone. A row for an expiry says that its time has come (the model's choice: log 4). -/
def Obligations.BurstTimersRemoveEntries : Prop :=
  (∀ (s : State) (n : OutletId) (e : BurstEntry), s.BurstsKept → s.entryOf n = some e →
    (s.engine.state = .run → e.isCleared = true →
      ∃ t, exec (.burstDurationExpiry n) s = .next t ∧ OthersKept s t n ∧ PlantKept s t ∧ t.branches = s.branches ∧
        (s.tableFree = true → EntryRemoved s t n e (.burstEnded n) ∧ ArbiterKept s t) ∧
        (s.tableFree = false → t.outlets = s.outlets ∧ t.channels = s.channels ∧ t.ports = s.ports ∧
          (n, .duration) ∈ t.arbiter.removals ∧ t.bursts.map BurstEntry.outlet = s.bursts.map BurstEntry.outlet)) ∧
    (s.engine.state = .run → e.isCleared = false →
      ∃ t, exec (.burstWaitExpiry n) s = .next t ∧ OthersKept s t n ∧ PlantKept s t ∧ t.branches = s.branches ∧
        (s.tableFree = true → EntryRemoved s t n e (.burstRefused n .timeout) ∧ ArbiterKept s t) ∧
        (s.tableFree = false → t.outlets = s.outlets ∧ t.channels = s.channels ∧ t.ports = s.ports ∧
          (n, .waitLimit) ∈ t.arbiter.removals ∧ t.bursts.map BurstEntry.outlet = s.bursts.map BurstEntry.outlet)) ∧
    (∀ k rest, s.mayApply (.removal n) = true → s.arbiter.removals = (n, k) :: rest →
      ∃ t, exec (.applyBurstRemoval n) s = .next t ∧ OthersKept s t n ∧ PlantKept s t ∧ t.branches = s.branches ∧
        t.arbiter = { s.arbiter with holder := none, removals := rest } ∧
        (k = .duration → e.isCleared = true → EntryRemoved s t n e (.burstEnded n)) ∧
        (k = .waitLimit → e.isCleared = false → EntryRemoved s t n e (.burstRefused n .timeout)) ∧
        (k = .duration → e.isCleared = false → RecordsKept s t ∧ t.channels = s.channels ∧ t.ports = s.ports) ∧
        (k = .waitLimit → e.isCleared = true → RecordsKept s t ∧ t.channels = s.channels ∧ t.ports = s.ports))) ∧
  ∀ (s : State) (n : OutletId) (k : RemovalKind) (rest : List (OutletId × RemovalKind)), s.entryOf n = none →
    s.mayApply (.removal n) = true → s.arbiter.removals = (n, k) :: rest →
    ∃ t, exec (.applyBurstRemoval n) s = .next t ∧ RecordsKept s t ∧ DriveKept s t ∧ PoolsKept s t ∧ MeasureKept s t ∧
      RestKept s t ∧ EngineKept s t ∧ t.ports = s.ports ∧
      t.arbiter = { s.arbiter with holder := none, removals := rest }

/-- An engine-state write that waited sets every grant to 0 and, for SAFE, empties the burst list with BURST_REVOKED and cause RESET. The self-test's end releases the table and posts TEST_DONE with PASS, FAIL_MEMORY, or FAIL_CONTENT where the content alone is unsound, a failure entering SAFE with all that the entry does; the save's end writes the image, posts CONFIG_DONE and leaves a valid check word only when the read-back agrees. That TEST_DONE, CONFIG_DONE, the end of the operation and the entry to SAFE come in the ending event, before the writes that waited for its release, is the model's reading (log 8, log 40). That entry to a pattern that is off also starts the watch of a channel that is off already afresh is its choice (log 39), and what a settle interval of 0 does its reading (log 27). That senses end in the record at once at that entry where writes wait for the release is its reading (log 20), that an engine-state write that waits already becomes one with that of the entry too (log 12), and that a sense whose test a reset has stopped already ends there like any other its choice (log 45). The check word is a free value of the image (log 11). -/
def Obligations.EngineWritesAndOperationsEnd : Prop :=
  ∀ s : State,
    (s.mayApply .engineState = true →
      ∃ t, exec .applyEngineStateWrite s = .next t ∧ DriveGrantsOnly s t ∧ PoolsKept s t ∧ MeasureKept s t ∧
        RestKept s t ∧ EngineKept s t ∧ t.profile = s.profile ∧
        (∀ n, t.outlet n = { s.outlet n with
          grant := 0
          burstRef := (s.outlet n).burstRef &&
            (decide (s.arbiter.engineWrite ≠ .grantsAndBursts) || (s.entryOf n).isNone) }) ∧
        (∀ q, t.port q = { s.port q with flags := { (s.port q).flags with burstRevoked := (t.port q).flags.burstRevoked } }) ∧
        t.arbiter.holder = none ∧ t.arbiter.engineWrite = .none ∧
        (s.arbiter.engineWrite = .grantsAndBursts → EmptiedForReset s t) ∧
        (s.arbiter.engineWrite = .grants → t.bursts = s.bursts ∧ t.ports = s.ports)) ∧
    (∀ fails, s.engine.op = .selfTest → s.arbiter.holder = some .selfTest →
      ∃ t o, exec (.selfTestEnd fails) s = .next t ∧ t.engine.op = .none ∧ t.arbiter.holder = none ∧
        (∀ q, (t.port q).flags.testDone = some o) ∧ (fails = true → o = .failMemory) ∧
        (fails = false → o = if s.contentSound = true then .pass else .failContent) ∧
        (o = .pass → RecordsKept s t ∧ DriveKept s t ∧ PoolsKept s t ∧ MeasureKept s t ∧ RestKept s t ∧
          t.engine.state = s.engine.state ∧ ∀ q, t.port q = withEvent (s.port q) (.testDone .pass)) ∧
        (let ended := { s with
           arbiter := { s.arbiter with holder := none }, engine := { s.engine with op := .none, opLeft := 0 } }
         (o = .pass ∨ s.engine.state = .safe → RecordsKept s t ∧ DriveKept s t ∧ PoolsKept s t ∧ EngineKept ended t ∧
           ArbiterKept ended t ∧ ∀ q, t.port q = withEvent (s.port q) (.testDone o)) ∧
         (o ≠ .pass → t.engine.state = .safe) ∧
         (o ≠ .pass → s.engine.state ≠ .safe →
           SafeEntered ended t (fun q => (s.port q).flags.post (.testDone o)) ∧
           ∀ q, t.port q = { s.port q with flags := (t.port q).flags })) ∧
        MeasureKept s t ∧ RestKept s t) ∧
    (∀ image good, s.engine.op = .save → s.arbiter.holder = some .store → s.store.saving = some image →
      ∃ t, exec (.saveEnd good) s = .next t ∧ RecordsKept s t ∧ DriveKept s t ∧ PoolsKept s t ∧ MeasureKept s t ∧
        t.inputs = s.inputs ∧ t.pending = s.pending ∧ t.engine = { s.engine with op := .none, opLeft := 0 } ∧
        t.arbiter = { s.arbiter with holder := none } ∧
        (∀ q, t.port q = withEvent (s.port q) (.configDone (if good then .saved else .saveFailed))) ∧
        t.store.image = image ∧ t.store.saving = none ∧
        (good = true → t.store.check = some (imageCheck image)) ∧
        (good = false → t.store.check = none ∧ t.storedValid = false))

/-- The deferred steps of a reset, at the release of the table: an ENGINE RESET's set grants 0 and IDLE and empty the list with BURST_REVOKED and cause RESET, a TABLE RESET's empty the list so, drop the lapses, leave the drive grants 0 and give the store the table for 100 ms, and the frames that ports held for those lapses are then taken, port by port (log 24). What counts as the release of a port's hold is the model's choice (log 6), and so is that these steps drop also what came to wait after the ENGINE RESET was taken (log 42) and abort a self-test only then (log 43). -/
def Obligations.DeferredResetsAreFinished : Prop :=
  ∀ s : State, s.atRelease = true →
    (s.arbiter.deferred = .engine →
      ∃ t, exec .engineResetDeferred s = .next t ∧ t.arbiter.deferred = .none ∧ t.arbiter.holder = none ∧
        EmptiedForReset s t ∧ t.arbiter.removals = [] ∧ t.arbiter.engineWrite = .none ∧ t.arbiter.steamRequest = false ∧
        (∀ q, t.port q = { s.port q with flags := { (s.port q).flags with burstRevoked := (t.port q).flags.burstRevoked } }) ∧
        t.arbiter.waterRequest = false ∧ PoolsKept s t ∧ MeasureKept s t ∧ RestKept s t ∧ t.profile = s.profile ∧
        t.branches = s.branches ∧
        t.engine = (if s.engine.op = .selfTest then { s.engine with op := .none, opLeft := 0 } else s.engine) ∧
        ∀ n, (t.outlet n).grant = 0 ∧ (t.outlet n).status = .idle ∧
          (t.outlet n).condition = State.priorOf (s.outlet n).condition ∧
          (t.outlet n).demand = (s.outlet n).demand ∧ (t.outlet n).owner = (s.outlet n).owner ∧
          (t.outlet n).burstRef = ((s.outlet n).burstRef && (s.entryOf n).isNone) ∧
          t.channel n = { s.channel n with
            grant := 0, trim := (s.outlet n).trim, ceiling := (s.outlet n).limits.ceiling
            condition := (t.outlet n).condition, pendingAbsence := false, pendingSenseEnd := false
            watchCount := 0, watchLatch := false }) ∧
    (s.arbiter.deferred = .table →
      ∃ m t, exec .tableResetLoadStart s = .next t ∧ HeldFramesTaken m t ∧
        m.arbiter = { holder := some .store, lastHolder := .store, steamRequest := false, waterRequest := false,
                      removals := [], engineWrite := .none, deferred := .none } ∧
        EmptiedForReset s m ∧
        (∀ q, m.port q = { s.port q with
          link := (m.port q).link, flags := { (s.port q).flags with burstRevoked := (m.port q).flags.burstRevoked } }) ∧
        m.engine = { s.engine with op := .load, opLeft := 100 } ∧
        (∀ q, (m.port q).link = if (s.port q).link = .lapsing then .lapsed else (s.port q).link) ∧ PoolsKept s m ∧
        MeasureKept s m ∧ RestKept s m ∧ m.profile = s.profile ∧ m.branches = s.branches ∧
        ∀ n, m.channel n = { s.channel n with grant := 0 } ∧ m.outlet n = { s.outlet n with
          grant := if s.clearedAmount n = none then (s.outlet n).grant else lowered (s.outlet n).grant (s.outlet n).demand
          burstRef := (s.outlet n).burstRef && (s.entryOf n).isNone })

/-- Power-on and the reset line set STANDBY, LOAD and their cause, keep the image, leave the outputs at neither level and begin the scan and the inputs' establishment. The load's end gives every block its part of the clamped image, or of the defaults, with the store as last holder: after power-on without an event, after a TABLE RESET with CONFIG_DONE, the reloaded fault action then entering SAFE where it is new and the reference is in REF_FAULT. Each drive channel has the reloaded structure as its copy and in use and shows its safe pattern of STANDBY, after power-on in a period begun there and after a TABLE RESET in the period and closed time it has, where an output turned off restarts its branch's settle timer (the model's reading: log 28, log 27); after a TABLE RESET each store forms its reading from the reloaded channels. A LAPSING or LAPSED port whose reloaded silence time is 0 keeps its link (the model's choice: log 38). The pulse windows keep their counts (after power-on the model's choice: log 35), and the order of the reloaded channel settings is the model's choice (log 34). Whether the stored check word fits is a free value of the image (log 11). That the place in the test-pulse cycle and the held duty of SAFE are 0 at the load's end, and that no first water round of a RUN is to come, is the model's choice (log 10). That the limits of an UNUSED outlet are clamped to 4000 is the model's choice (log 47), that those of a WATER outlet are to 600 its reading (log 18). That the close of an output that was on in the structure of before counts for the branch which that structure named, where the new one names another, is the model's choice (log 46). -/
def Obligations.PowerOnAndTheEndOfALoad : Prop :=
  ∀ s : State,
    (∀ i : Instr, i = .powerOn ∨ i = .resetLine →
      ∃ t, exec i s = .next t ∧
        t.engine = { state := .standby, op := .load, opLeft := 100, defaulted := s.engine.defaulted, starting := true,
                     cause := if i = .powerOn then .powerOn else .resetLine } ∧
        t.arbiter.holder = some .store ∧ t.bursts = [] ∧ t.store.image = s.store.image ∧
        t.store.check = s.store.check ∧ t.pending = s.pending ∧ t.scan = { slot := .reference, gateLeft := 100 } ∧
        t.reference.state = .pending ∧ t.steam.roundCount = 0 ∧ t.water.roundCount = 0 ∧
        (∀ n, (t.channel n).output = .neither ∧ (t.outlet n).grant = 0) ∧
        (∀ i, (t.input i).asserted = true ∧ (t.input i).debounce = .establishing 100 (s.input i).low) ∧
        (∀ p, (t.port p).flags = .clear ∧ (t.port p).outstanding = none ∧ (t.port p).mask = BitVec.allOnes 19)) ∧
    (s.engine.op = .load → s.arbiter.holder = some .store →
      let cfg := if s.storedValid then State.clampConfig s.store.image else Config.defaults
      ∃ t, exec .configLoadEnd s = .next t ∧ t.arbiter.holder = none ∧ t.arbiter.lastHolder = .store ∧
        t.engine.op = .none ∧ t.engine.starting = false ∧ t.engine.defaulted = !s.storedValid ∧ t.store = s.store ∧
        t.pending = s.pending ∧
        (s.engine.starting = true →
          t.scan = s.scan ∧ t.inputs = s.inputs ∧ t.engine.state = s.engine.state ∧
          ∀ p, (t.port p).flags = (s.port p).flags ∧ (t.port p).receiver = .idle ∧ (t.port p).outstanding = none ∧
            (t.port p).link = .active ∧ (t.port p).silence = SilenceTimer.load (t.port p).config.silence) ∧
        (s.engine.starting = false → ∀ p,
          (t.port p).flags.configDone = some (if s.storedValid then .loaded else .defaulted) ∧
          (t.port p).flags = { (s.port p).flags with
            configDone := (t.port p).flags.configDone
            engineState := (s.port p).flags.engineState || decide (t.engine.state ≠ s.engine.state) } ∧
          t.engine.state =
            (if s.reference.state = .refFault ∧ s.reference.action ≠ .safe ∧ cfg.faultAction = .safe then .safe
             else s.engine.state) ∧
          (t.port p).mask = (s.port p).mask ∧ (t.port p).outstanding = (s.port p).outstanding ∧
          (t.port p).link = (s.port p).link ∧
          (t.port p).silence =
            (if cfg.ports[p].silence = 0 then none
             else if (s.port p).config.silence = 0 ∧ (s.port p).link = .active then SilenceTimer.load cfg.ports[p].silence
             else (s.port p).silence)) ∧
        (s.storedValid = false → t.profile = 0 ∧ t.steam.margin = 10 ∧ (t.globals 0).admin = true) ∧
        (s.storedValid = true → t.profile = s.store.image.profile ∧ t.steam.margin = min s.store.image.margin 30) ∧
        t.profile = cfg.profile ∧
        (∀ p, (t.port p).config = cfg.ports[p]) ∧
        t.steam = { s.steam with
          boilers := tabulate fun k => { postedKw := 0, armed := false, poster := none, lapseCapacity := cfg.lapseCapacity[k] }
          margin := cfg.margin, lowFraction := cfg.lowFraction, lastC := 0, lastU := 0, sumGrants := 0, roundCount := 0,
          skipped := 0, outcome := .normal, pointers := Vector.replicate 4 0, timer := none
          lowpr := if s.engine.starting then s.steam.lowpr else (s.input .lowpr).asserted } ∧
        t.water = { s.water with
          flow := 0, poster := none, lapseFlow := cfg.lapseFlow, dLow := cfg.dLow, failDerate := cfg.failDerate
          lastDerate := 0, lastUsable := 0, sumGrants := 0, roundCount := 0, skipped := 0, outcome := .normal
          pointers := Vector.replicate 4 0, timer := none, firstRound := false } ∧
        (∀ i, t.storeRec i = {
          settings := cfg.stores[i], lastRecharge := none
          reading := if s.engine.starting then .notValid else t.formReading cfg.stores[i] }) ∧
        t.reference.action = cfg.faultAction ∧
        (∀ m, (t.ratioChannel m).trim = cfg.ratioTrim[m] ∧
          ((t.ratioChannel m).state = .disabled ↔ cfg.ratioEnable[m] = false)) ∧
        (∀ f, t.pulseChannel f = { s.pulseChannel f with weight := cfg.pulseWeight[f] }) ∧
        t.bursts = s.bursts ∧
        (∀ n, (t.outlet n).overStreak = 0 ∧ (t.outlet n).underStreak = 0 ∧ (t.outlet n).continuity = .none ∧
          (t.outlet n).burstRef = false) ∧
        (∀ b, t.branch b =
          if s.engine.starting then { interval := cfg.settle[b], timer := none, queue := [] }
          else closes s (fun n => decide ((t.channel n).applied = 0)) b
            { interval := cfg.settle[b], timer := (s.branch b).timer, queue := [] }) ∧
        (∀ n, t.channel n =
          let shown := patternOf (t.channel n) false
          { grant := 0, trim := 100, ceiling := cfg.outlets[n].limits.ceiling, copy := cfg.outlets[n].struct
            inUse := cfg.outlets[n].struct, condition := (t.outlet n).condition, phase := .safePattern
            applied := shown, output := if shown = 0 then .off else .on
            position := if s.engine.starting then 0 else (s.channel n).position
            closedTime := if s.engine.starting then 0 else (s.channel n).closedTime
            closedTicks := if s.engine.starting then 0 else (s.channel n).closedTicks
            dwellLeft := 0, watchCount := 0, watchLatch := false, pendingAbsence := false, override := none
            finding := none, holdLeft := none, testTick := 0, heldDuty := 0, pendingSenseEnd := false }) ∧
        (∀ n, (t.outlet n).struct = cfg.outlets[n].struct ∧ (t.outlet n).limits = cfg.outlets[n].limits ∧ (t.outlet n).demand = 0 ∧
          (t.outlet n).grant = 0 ∧ (t.outlet n).status = .idle ∧ (t.outlet n).trim = 100 ∧
          (t.outlet n).condition = (match cfg.outlets[n].start with
            | .active => .active
            | .parked => .parked) ∧
          (t.outlet n).owner = (match cfg.outlets[n].struct.role with
            | .recharge _ => .engine
            | .plain => .none)))

end
end

