-- ==== Sys2Proof/Laws/State.lean ====
section
/-! SUPPORT. One lemma per field per update: what each update of the state leaves as it was, and what it writes. -/

/-- An entry of a tabulated table. -/
@[simp] theorem Sys2Proof.tabulate_getElem {n : Nat} {α : Type} (f : Fin n → α) (i : Nat) (h : i < n) :
    (Sys2Proof.tabulate f)[i] = f ⟨i, h⟩ := by
  simp [Sys2Proof.tabulate]

namespace Sys2Proof.Machine.State

/-! ## modOutlet -/

@[simp] theorem modOutlet_profile (s : State) (n : OutletId) (f : Outlet → Outlet) : (s.modOutlet n f).profile = s.profile := rfl
@[simp] theorem modOutlet_arbiter (s : State) (n : OutletId) (f : Outlet → Outlet) : (s.modOutlet n f).arbiter = s.arbiter := rfl
@[simp] theorem modOutlet_bursts (s : State) (n : OutletId) (f : Outlet → Outlet) : (s.modOutlet n f).bursts = s.bursts := rfl
@[simp] theorem modOutlet_steam (s : State) (n : OutletId) (f : Outlet → Outlet) : (s.modOutlet n f).steam = s.steam := rfl
@[simp] theorem modOutlet_water (s : State) (n : OutletId) (f : Outlet → Outlet) : (s.modOutlet n f).water = s.water := rfl
@[simp] theorem modOutlet_stores (s : State) (n : OutletId) (f : Outlet → Outlet) : (s.modOutlet n f).stores = s.stores := rfl
@[simp] theorem modOutlet_reference (s : State) (n : OutletId) (f : Outlet → Outlet) : (s.modOutlet n f).reference = s.reference := rfl
@[simp] theorem modOutlet_ratio (s : State) (n : OutletId) (f : Outlet → Outlet) : (s.modOutlet n f).ratio = s.ratio := rfl
@[simp] theorem modOutlet_pulse (s : State) (n : OutletId) (f : Outlet → Outlet) : (s.modOutlet n f).pulse = s.pulse := rfl
@[simp] theorem modOutlet_scan (s : State) (n : OutletId) (f : Outlet → Outlet) : (s.modOutlet n f).scan = s.scan := rfl
@[simp] theorem modOutlet_inputs (s : State) (n : OutletId) (f : Outlet → Outlet) : (s.modOutlet n f).inputs = s.inputs := rfl
@[simp] theorem modOutlet_channels (s : State) (n : OutletId) (f : Outlet → Outlet) : (s.modOutlet n f).channels = s.channels := rfl
@[simp] theorem modOutlet_branches (s : State) (n : OutletId) (f : Outlet → Outlet) : (s.modOutlet n f).branches = s.branches := rfl
@[simp] theorem modOutlet_ports (s : State) (n : OutletId) (f : Outlet → Outlet) : (s.modOutlet n f).ports = s.ports := rfl
@[simp] theorem modOutlet_engine (s : State) (n : OutletId) (f : Outlet → Outlet) : (s.modOutlet n f).engine = s.engine := rfl
@[simp] theorem modOutlet_store (s : State) (n : OutletId) (f : Outlet → Outlet) : (s.modOutlet n f).store = s.store := rfl
@[simp] theorem modOutlet_pending (s : State) (n : OutletId) (f : Outlet → Outlet) : (s.modOutlet n f).pending = s.pending := rfl

/-! ## mapOutlets -/

@[simp] theorem mapOutlets_profile (s : State) (f : OutletId → Outlet → Outlet) : (s.mapOutlets f).profile = s.profile := rfl
@[simp] theorem mapOutlets_arbiter (s : State) (f : OutletId → Outlet → Outlet) : (s.mapOutlets f).arbiter = s.arbiter := rfl
@[simp] theorem mapOutlets_bursts (s : State) (f : OutletId → Outlet → Outlet) : (s.mapOutlets f).bursts = s.bursts := rfl
@[simp] theorem mapOutlets_steam (s : State) (f : OutletId → Outlet → Outlet) : (s.mapOutlets f).steam = s.steam := rfl
@[simp] theorem mapOutlets_water (s : State) (f : OutletId → Outlet → Outlet) : (s.mapOutlets f).water = s.water := rfl
@[simp] theorem mapOutlets_stores (s : State) (f : OutletId → Outlet → Outlet) : (s.mapOutlets f).stores = s.stores := rfl
@[simp] theorem mapOutlets_reference (s : State) (f : OutletId → Outlet → Outlet) : (s.mapOutlets f).reference = s.reference := rfl
@[simp] theorem mapOutlets_ratio (s : State) (f : OutletId → Outlet → Outlet) : (s.mapOutlets f).ratio = s.ratio := rfl
@[simp] theorem mapOutlets_pulse (s : State) (f : OutletId → Outlet → Outlet) : (s.mapOutlets f).pulse = s.pulse := rfl
@[simp] theorem mapOutlets_scan (s : State) (f : OutletId → Outlet → Outlet) : (s.mapOutlets f).scan = s.scan := rfl
@[simp] theorem mapOutlets_inputs (s : State) (f : OutletId → Outlet → Outlet) : (s.mapOutlets f).inputs = s.inputs := rfl
@[simp] theorem mapOutlets_channels (s : State) (f : OutletId → Outlet → Outlet) : (s.mapOutlets f).channels = s.channels := rfl
@[simp] theorem mapOutlets_branches (s : State) (f : OutletId → Outlet → Outlet) : (s.mapOutlets f).branches = s.branches := rfl
@[simp] theorem mapOutlets_ports (s : State) (f : OutletId → Outlet → Outlet) : (s.mapOutlets f).ports = s.ports := rfl
@[simp] theorem mapOutlets_engine (s : State) (f : OutletId → Outlet → Outlet) : (s.mapOutlets f).engine = s.engine := rfl
@[simp] theorem mapOutlets_store (s : State) (f : OutletId → Outlet → Outlet) : (s.mapOutlets f).store = s.store := rfl
@[simp] theorem mapOutlets_pending (s : State) (f : OutletId → Outlet → Outlet) : (s.mapOutlets f).pending = s.pending := rfl

/-! ## modChannel -/

@[simp] theorem modChannel_outlets (s : State) (n : OutletId) (f : Channel → Channel) : (s.modChannel n f).outlets = s.outlets := rfl
@[simp] theorem modChannel_profile (s : State) (n : OutletId) (f : Channel → Channel) : (s.modChannel n f).profile = s.profile := rfl
@[simp] theorem modChannel_arbiter (s : State) (n : OutletId) (f : Channel → Channel) : (s.modChannel n f).arbiter = s.arbiter := rfl
@[simp] theorem modChannel_bursts (s : State) (n : OutletId) (f : Channel → Channel) : (s.modChannel n f).bursts = s.bursts := rfl
@[simp] theorem modChannel_steam (s : State) (n : OutletId) (f : Channel → Channel) : (s.modChannel n f).steam = s.steam := rfl
@[simp] theorem modChannel_water (s : State) (n : OutletId) (f : Channel → Channel) : (s.modChannel n f).water = s.water := rfl
@[simp] theorem modChannel_stores (s : State) (n : OutletId) (f : Channel → Channel) : (s.modChannel n f).stores = s.stores := rfl
@[simp] theorem modChannel_reference (s : State) (n : OutletId) (f : Channel → Channel) : (s.modChannel n f).reference = s.reference := rfl
@[simp] theorem modChannel_ratio (s : State) (n : OutletId) (f : Channel → Channel) : (s.modChannel n f).ratio = s.ratio := rfl
@[simp] theorem modChannel_pulse (s : State) (n : OutletId) (f : Channel → Channel) : (s.modChannel n f).pulse = s.pulse := rfl
@[simp] theorem modChannel_scan (s : State) (n : OutletId) (f : Channel → Channel) : (s.modChannel n f).scan = s.scan := rfl
@[simp] theorem modChannel_inputs (s : State) (n : OutletId) (f : Channel → Channel) : (s.modChannel n f).inputs = s.inputs := rfl
@[simp] theorem modChannel_branches (s : State) (n : OutletId) (f : Channel → Channel) : (s.modChannel n f).branches = s.branches := rfl
@[simp] theorem modChannel_ports (s : State) (n : OutletId) (f : Channel → Channel) : (s.modChannel n f).ports = s.ports := rfl
@[simp] theorem modChannel_engine (s : State) (n : OutletId) (f : Channel → Channel) : (s.modChannel n f).engine = s.engine := rfl
@[simp] theorem modChannel_store (s : State) (n : OutletId) (f : Channel → Channel) : (s.modChannel n f).store = s.store := rfl
@[simp] theorem modChannel_pending (s : State) (n : OutletId) (f : Channel → Channel) : (s.modChannel n f).pending = s.pending := rfl

/-! ## mapChannels -/

@[simp] theorem mapChannels_outlets (s : State) (f : OutletId → Channel → Channel) : (s.mapChannels f).outlets = s.outlets := rfl
@[simp] theorem mapChannels_profile (s : State) (f : OutletId → Channel → Channel) : (s.mapChannels f).profile = s.profile := rfl
@[simp] theorem mapChannels_arbiter (s : State) (f : OutletId → Channel → Channel) : (s.mapChannels f).arbiter = s.arbiter := rfl
@[simp] theorem mapChannels_bursts (s : State) (f : OutletId → Channel → Channel) : (s.mapChannels f).bursts = s.bursts := rfl
@[simp] theorem mapChannels_steam (s : State) (f : OutletId → Channel → Channel) : (s.mapChannels f).steam = s.steam := rfl
@[simp] theorem mapChannels_water (s : State) (f : OutletId → Channel → Channel) : (s.mapChannels f).water = s.water := rfl
@[simp] theorem mapChannels_stores (s : State) (f : OutletId → Channel → Channel) : (s.mapChannels f).stores = s.stores := rfl
@[simp] theorem mapChannels_reference (s : State) (f : OutletId → Channel → Channel) : (s.mapChannels f).reference = s.reference := rfl
@[simp] theorem mapChannels_ratio (s : State) (f : OutletId → Channel → Channel) : (s.mapChannels f).ratio = s.ratio := rfl
@[simp] theorem mapChannels_pulse (s : State) (f : OutletId → Channel → Channel) : (s.mapChannels f).pulse = s.pulse := rfl
@[simp] theorem mapChannels_scan (s : State) (f : OutletId → Channel → Channel) : (s.mapChannels f).scan = s.scan := rfl
@[simp] theorem mapChannels_inputs (s : State) (f : OutletId → Channel → Channel) : (s.mapChannels f).inputs = s.inputs := rfl
@[simp] theorem mapChannels_branches (s : State) (f : OutletId → Channel → Channel) : (s.mapChannels f).branches = s.branches := rfl
@[simp] theorem mapChannels_ports (s : State) (f : OutletId → Channel → Channel) : (s.mapChannels f).ports = s.ports := rfl
@[simp] theorem mapChannels_engine (s : State) (f : OutletId → Channel → Channel) : (s.mapChannels f).engine = s.engine := rfl
@[simp] theorem mapChannels_store (s : State) (f : OutletId → Channel → Channel) : (s.mapChannels f).store = s.store := rfl
@[simp] theorem mapChannels_pending (s : State) (f : OutletId → Channel → Channel) : (s.mapChannels f).pending = s.pending := rfl

/-! ## modBranch -/

@[simp] theorem modBranch_outlets (s : State) (b : BranchId) (f : Branch → Branch) : (s.modBranch b f).outlets = s.outlets := rfl
@[simp] theorem modBranch_profile (s : State) (b : BranchId) (f : Branch → Branch) : (s.modBranch b f).profile = s.profile := rfl
@[simp] theorem modBranch_arbiter (s : State) (b : BranchId) (f : Branch → Branch) : (s.modBranch b f).arbiter = s.arbiter := rfl
@[simp] theorem modBranch_bursts (s : State) (b : BranchId) (f : Branch → Branch) : (s.modBranch b f).bursts = s.bursts := rfl
@[simp] theorem modBranch_steam (s : State) (b : BranchId) (f : Branch → Branch) : (s.modBranch b f).steam = s.steam := rfl
@[simp] theorem modBranch_water (s : State) (b : BranchId) (f : Branch → Branch) : (s.modBranch b f).water = s.water := rfl
@[simp] theorem modBranch_stores (s : State) (b : BranchId) (f : Branch → Branch) : (s.modBranch b f).stores = s.stores := rfl
@[simp] theorem modBranch_reference (s : State) (b : BranchId) (f : Branch → Branch) : (s.modBranch b f).reference = s.reference := rfl
@[simp] theorem modBranch_ratio (s : State) (b : BranchId) (f : Branch → Branch) : (s.modBranch b f).ratio = s.ratio := rfl
@[simp] theorem modBranch_pulse (s : State) (b : BranchId) (f : Branch → Branch) : (s.modBranch b f).pulse = s.pulse := rfl
@[simp] theorem modBranch_scan (s : State) (b : BranchId) (f : Branch → Branch) : (s.modBranch b f).scan = s.scan := rfl
@[simp] theorem modBranch_inputs (s : State) (b : BranchId) (f : Branch → Branch) : (s.modBranch b f).inputs = s.inputs := rfl
@[simp] theorem modBranch_channels (s : State) (b : BranchId) (f : Branch → Branch) : (s.modBranch b f).channels = s.channels := rfl
@[simp] theorem modBranch_ports (s : State) (b : BranchId) (f : Branch → Branch) : (s.modBranch b f).ports = s.ports := rfl
@[simp] theorem modBranch_engine (s : State) (b : BranchId) (f : Branch → Branch) : (s.modBranch b f).engine = s.engine := rfl
@[simp] theorem modBranch_store (s : State) (b : BranchId) (f : Branch → Branch) : (s.modBranch b f).store = s.store := rfl
@[simp] theorem modBranch_pending (s : State) (b : BranchId) (f : Branch → Branch) : (s.modBranch b f).pending = s.pending := rfl

/-! ## mapBranches -/

@[simp] theorem mapBranches_outlets (s : State) (f : BranchId → Branch → Branch) : (s.mapBranches f).outlets = s.outlets := rfl
@[simp] theorem mapBranches_profile (s : State) (f : BranchId → Branch → Branch) : (s.mapBranches f).profile = s.profile := rfl
@[simp] theorem mapBranches_arbiter (s : State) (f : BranchId → Branch → Branch) : (s.mapBranches f).arbiter = s.arbiter := rfl
@[simp] theorem mapBranches_bursts (s : State) (f : BranchId → Branch → Branch) : (s.mapBranches f).bursts = s.bursts := rfl
@[simp] theorem mapBranches_steam (s : State) (f : BranchId → Branch → Branch) : (s.mapBranches f).steam = s.steam := rfl
@[simp] theorem mapBranches_water (s : State) (f : BranchId → Branch → Branch) : (s.mapBranches f).water = s.water := rfl
@[simp] theorem mapBranches_stores (s : State) (f : BranchId → Branch → Branch) : (s.mapBranches f).stores = s.stores := rfl
@[simp] theorem mapBranches_reference (s : State) (f : BranchId → Branch → Branch) : (s.mapBranches f).reference = s.reference := rfl
@[simp] theorem mapBranches_ratio (s : State) (f : BranchId → Branch → Branch) : (s.mapBranches f).ratio = s.ratio := rfl
@[simp] theorem mapBranches_pulse (s : State) (f : BranchId → Branch → Branch) : (s.mapBranches f).pulse = s.pulse := rfl
@[simp] theorem mapBranches_scan (s : State) (f : BranchId → Branch → Branch) : (s.mapBranches f).scan = s.scan := rfl
@[simp] theorem mapBranches_inputs (s : State) (f : BranchId → Branch → Branch) : (s.mapBranches f).inputs = s.inputs := rfl
@[simp] theorem mapBranches_channels (s : State) (f : BranchId → Branch → Branch) : (s.mapBranches f).channels = s.channels := rfl
@[simp] theorem mapBranches_ports (s : State) (f : BranchId → Branch → Branch) : (s.mapBranches f).ports = s.ports := rfl
@[simp] theorem mapBranches_engine (s : State) (f : BranchId → Branch → Branch) : (s.mapBranches f).engine = s.engine := rfl
@[simp] theorem mapBranches_store (s : State) (f : BranchId → Branch → Branch) : (s.mapBranches f).store = s.store := rfl
@[simp] theorem mapBranches_pending (s : State) (f : BranchId → Branch → Branch) : (s.mapBranches f).pending = s.pending := rfl

/-! ## modPort -/

@[simp] theorem modPort_outlets (s : State) (p : Port) (f : PortUnit → PortUnit) : (s.modPort p f).outlets = s.outlets := rfl
@[simp] theorem modPort_profile (s : State) (p : Port) (f : PortUnit → PortUnit) : (s.modPort p f).profile = s.profile := rfl
@[simp] theorem modPort_arbiter (s : State) (p : Port) (f : PortUnit → PortUnit) : (s.modPort p f).arbiter = s.arbiter := rfl
@[simp] theorem modPort_bursts (s : State) (p : Port) (f : PortUnit → PortUnit) : (s.modPort p f).bursts = s.bursts := rfl
@[simp] theorem modPort_steam (s : State) (p : Port) (f : PortUnit → PortUnit) : (s.modPort p f).steam = s.steam := rfl
@[simp] theorem modPort_water (s : State) (p : Port) (f : PortUnit → PortUnit) : (s.modPort p f).water = s.water := rfl
@[simp] theorem modPort_stores (s : State) (p : Port) (f : PortUnit → PortUnit) : (s.modPort p f).stores = s.stores := rfl
@[simp] theorem modPort_reference (s : State) (p : Port) (f : PortUnit → PortUnit) : (s.modPort p f).reference = s.reference := rfl
@[simp] theorem modPort_ratio (s : State) (p : Port) (f : PortUnit → PortUnit) : (s.modPort p f).ratio = s.ratio := rfl
@[simp] theorem modPort_pulse (s : State) (p : Port) (f : PortUnit → PortUnit) : (s.modPort p f).pulse = s.pulse := rfl
@[simp] theorem modPort_scan (s : State) (p : Port) (f : PortUnit → PortUnit) : (s.modPort p f).scan = s.scan := rfl
@[simp] theorem modPort_inputs (s : State) (p : Port) (f : PortUnit → PortUnit) : (s.modPort p f).inputs = s.inputs := rfl
@[simp] theorem modPort_channels (s : State) (p : Port) (f : PortUnit → PortUnit) : (s.modPort p f).channels = s.channels := rfl
@[simp] theorem modPort_branches (s : State) (p : Port) (f : PortUnit → PortUnit) : (s.modPort p f).branches = s.branches := rfl
@[simp] theorem modPort_engine (s : State) (p : Port) (f : PortUnit → PortUnit) : (s.modPort p f).engine = s.engine := rfl
@[simp] theorem modPort_store (s : State) (p : Port) (f : PortUnit → PortUnit) : (s.modPort p f).store = s.store := rfl
@[simp] theorem modPort_pending (s : State) (p : Port) (f : PortUnit → PortUnit) : (s.modPort p f).pending = s.pending := rfl

/-! ## mapPorts -/

@[simp] theorem mapPorts_outlets (s : State) (f : Port → PortUnit → PortUnit) : (s.mapPorts f).outlets = s.outlets := rfl
@[simp] theorem mapPorts_profile (s : State) (f : Port → PortUnit → PortUnit) : (s.mapPorts f).profile = s.profile := rfl
@[simp] theorem mapPorts_arbiter (s : State) (f : Port → PortUnit → PortUnit) : (s.mapPorts f).arbiter = s.arbiter := rfl
@[simp] theorem mapPorts_bursts (s : State) (f : Port → PortUnit → PortUnit) : (s.mapPorts f).bursts = s.bursts := rfl
@[simp] theorem mapPorts_steam (s : State) (f : Port → PortUnit → PortUnit) : (s.mapPorts f).steam = s.steam := rfl
@[simp] theorem mapPorts_water (s : State) (f : Port → PortUnit → PortUnit) : (s.mapPorts f).water = s.water := rfl
@[simp] theorem mapPorts_stores (s : State) (f : Port → PortUnit → PortUnit) : (s.mapPorts f).stores = s.stores := rfl
@[simp] theorem mapPorts_reference (s : State) (f : Port → PortUnit → PortUnit) : (s.mapPorts f).reference = s.reference := rfl
@[simp] theorem mapPorts_ratio (s : State) (f : Port → PortUnit → PortUnit) : (s.mapPorts f).ratio = s.ratio := rfl
@[simp] theorem mapPorts_pulse (s : State) (f : Port → PortUnit → PortUnit) : (s.mapPorts f).pulse = s.pulse := rfl
@[simp] theorem mapPorts_scan (s : State) (f : Port → PortUnit → PortUnit) : (s.mapPorts f).scan = s.scan := rfl
@[simp] theorem mapPorts_inputs (s : State) (f : Port → PortUnit → PortUnit) : (s.mapPorts f).inputs = s.inputs := rfl
@[simp] theorem mapPorts_channels (s : State) (f : Port → PortUnit → PortUnit) : (s.mapPorts f).channels = s.channels := rfl
@[simp] theorem mapPorts_branches (s : State) (f : Port → PortUnit → PortUnit) : (s.mapPorts f).branches = s.branches := rfl
@[simp] theorem mapPorts_engine (s : State) (f : Port → PortUnit → PortUnit) : (s.mapPorts f).engine = s.engine := rfl
@[simp] theorem mapPorts_store (s : State) (f : Port → PortUnit → PortUnit) : (s.mapPorts f).store = s.store := rfl
@[simp] theorem mapPorts_pending (s : State) (f : Port → PortUnit → PortUnit) : (s.mapPorts f).pending = s.pending := rfl

/-! ## modRatio -/

@[simp] theorem modRatio_outlets (s : State) (m : RatioId) (f : RatioChannel → RatioChannel) : (s.modRatio m f).outlets = s.outlets := rfl
@[simp] theorem modRatio_profile (s : State) (m : RatioId) (f : RatioChannel → RatioChannel) : (s.modRatio m f).profile = s.profile := rfl
@[simp] theorem modRatio_arbiter (s : State) (m : RatioId) (f : RatioChannel → RatioChannel) : (s.modRatio m f).arbiter = s.arbiter := rfl
@[simp] theorem modRatio_bursts (s : State) (m : RatioId) (f : RatioChannel → RatioChannel) : (s.modRatio m f).bursts = s.bursts := rfl
@[simp] theorem modRatio_steam (s : State) (m : RatioId) (f : RatioChannel → RatioChannel) : (s.modRatio m f).steam = s.steam := rfl
@[simp] theorem modRatio_water (s : State) (m : RatioId) (f : RatioChannel → RatioChannel) : (s.modRatio m f).water = s.water := rfl
@[simp] theorem modRatio_stores (s : State) (m : RatioId) (f : RatioChannel → RatioChannel) : (s.modRatio m f).stores = s.stores := rfl
@[simp] theorem modRatio_reference (s : State) (m : RatioId) (f : RatioChannel → RatioChannel) : (s.modRatio m f).reference = s.reference := rfl
@[simp] theorem modRatio_pulse (s : State) (m : RatioId) (f : RatioChannel → RatioChannel) : (s.modRatio m f).pulse = s.pulse := rfl
@[simp] theorem modRatio_scan (s : State) (m : RatioId) (f : RatioChannel → RatioChannel) : (s.modRatio m f).scan = s.scan := rfl
@[simp] theorem modRatio_inputs (s : State) (m : RatioId) (f : RatioChannel → RatioChannel) : (s.modRatio m f).inputs = s.inputs := rfl
@[simp] theorem modRatio_channels (s : State) (m : RatioId) (f : RatioChannel → RatioChannel) : (s.modRatio m f).channels = s.channels := rfl
@[simp] theorem modRatio_branches (s : State) (m : RatioId) (f : RatioChannel → RatioChannel) : (s.modRatio m f).branches = s.branches := rfl
@[simp] theorem modRatio_ports (s : State) (m : RatioId) (f : RatioChannel → RatioChannel) : (s.modRatio m f).ports = s.ports := rfl
@[simp] theorem modRatio_engine (s : State) (m : RatioId) (f : RatioChannel → RatioChannel) : (s.modRatio m f).engine = s.engine := rfl
@[simp] theorem modRatio_store (s : State) (m : RatioId) (f : RatioChannel → RatioChannel) : (s.modRatio m f).store = s.store := rfl
@[simp] theorem modRatio_pending (s : State) (m : RatioId) (f : RatioChannel → RatioChannel) : (s.modRatio m f).pending = s.pending := rfl

/-! ## mapRatio -/

@[simp] theorem mapRatio_outlets (s : State) (f : RatioId → RatioChannel → RatioChannel) : (s.mapRatio f).outlets = s.outlets := rfl
@[simp] theorem mapRatio_profile (s : State) (f : RatioId → RatioChannel → RatioChannel) : (s.mapRatio f).profile = s.profile := rfl
@[simp] theorem mapRatio_arbiter (s : State) (f : RatioId → RatioChannel → RatioChannel) : (s.mapRatio f).arbiter = s.arbiter := rfl
@[simp] theorem mapRatio_bursts (s : State) (f : RatioId → RatioChannel → RatioChannel) : (s.mapRatio f).bursts = s.bursts := rfl
@[simp] theorem mapRatio_steam (s : State) (f : RatioId → RatioChannel → RatioChannel) : (s.mapRatio f).steam = s.steam := rfl
@[simp] theorem mapRatio_water (s : State) (f : RatioId → RatioChannel → RatioChannel) : (s.mapRatio f).water = s.water := rfl
@[simp] theorem mapRatio_stores (s : State) (f : RatioId → RatioChannel → RatioChannel) : (s.mapRatio f).stores = s.stores := rfl
@[simp] theorem mapRatio_reference (s : State) (f : RatioId → RatioChannel → RatioChannel) : (s.mapRatio f).reference = s.reference := rfl
@[simp] theorem mapRatio_pulse (s : State) (f : RatioId → RatioChannel → RatioChannel) : (s.mapRatio f).pulse = s.pulse := rfl
@[simp] theorem mapRatio_scan (s : State) (f : RatioId → RatioChannel → RatioChannel) : (s.mapRatio f).scan = s.scan := rfl
@[simp] theorem mapRatio_inputs (s : State) (f : RatioId → RatioChannel → RatioChannel) : (s.mapRatio f).inputs = s.inputs := rfl
@[simp] theorem mapRatio_channels (s : State) (f : RatioId → RatioChannel → RatioChannel) : (s.mapRatio f).channels = s.channels := rfl
@[simp] theorem mapRatio_branches (s : State) (f : RatioId → RatioChannel → RatioChannel) : (s.mapRatio f).branches = s.branches := rfl
@[simp] theorem mapRatio_ports (s : State) (f : RatioId → RatioChannel → RatioChannel) : (s.mapRatio f).ports = s.ports := rfl
@[simp] theorem mapRatio_engine (s : State) (f : RatioId → RatioChannel → RatioChannel) : (s.mapRatio f).engine = s.engine := rfl
@[simp] theorem mapRatio_store (s : State) (f : RatioId → RatioChannel → RatioChannel) : (s.mapRatio f).store = s.store := rfl
@[simp] theorem mapRatio_pending (s : State) (f : RatioId → RatioChannel → RatioChannel) : (s.mapRatio f).pending = s.pending := rfl

/-! ## modPulse -/

@[simp] theorem modPulse_outlets (s : State) (i : PulseId) (f : PulseChannel → PulseChannel) : (s.modPulse i f).outlets = s.outlets := rfl
@[simp] theorem modPulse_profile (s : State) (i : PulseId) (f : PulseChannel → PulseChannel) : (s.modPulse i f).profile = s.profile := rfl
@[simp] theorem modPulse_arbiter (s : State) (i : PulseId) (f : PulseChannel → PulseChannel) : (s.modPulse i f).arbiter = s.arbiter := rfl
@[simp] theorem modPulse_bursts (s : State) (i : PulseId) (f : PulseChannel → PulseChannel) : (s.modPulse i f).bursts = s.bursts := rfl
@[simp] theorem modPulse_steam (s : State) (i : PulseId) (f : PulseChannel → PulseChannel) : (s.modPulse i f).steam = s.steam := rfl
@[simp] theorem modPulse_water (s : State) (i : PulseId) (f : PulseChannel → PulseChannel) : (s.modPulse i f).water = s.water := rfl
@[simp] theorem modPulse_stores (s : State) (i : PulseId) (f : PulseChannel → PulseChannel) : (s.modPulse i f).stores = s.stores := rfl
@[simp] theorem modPulse_reference (s : State) (i : PulseId) (f : PulseChannel → PulseChannel) : (s.modPulse i f).reference = s.reference := rfl
@[simp] theorem modPulse_ratio (s : State) (i : PulseId) (f : PulseChannel → PulseChannel) : (s.modPulse i f).ratio = s.ratio := rfl
@[simp] theorem modPulse_scan (s : State) (i : PulseId) (f : PulseChannel → PulseChannel) : (s.modPulse i f).scan = s.scan := rfl
@[simp] theorem modPulse_inputs (s : State) (i : PulseId) (f : PulseChannel → PulseChannel) : (s.modPulse i f).inputs = s.inputs := rfl
@[simp] theorem modPulse_channels (s : State) (i : PulseId) (f : PulseChannel → PulseChannel) : (s.modPulse i f).channels = s.channels := rfl
@[simp] theorem modPulse_branches (s : State) (i : PulseId) (f : PulseChannel → PulseChannel) : (s.modPulse i f).branches = s.branches := rfl
@[simp] theorem modPulse_ports (s : State) (i : PulseId) (f : PulseChannel → PulseChannel) : (s.modPulse i f).ports = s.ports := rfl
@[simp] theorem modPulse_engine (s : State) (i : PulseId) (f : PulseChannel → PulseChannel) : (s.modPulse i f).engine = s.engine := rfl
@[simp] theorem modPulse_store (s : State) (i : PulseId) (f : PulseChannel → PulseChannel) : (s.modPulse i f).store = s.store := rfl
@[simp] theorem modPulse_pending (s : State) (i : PulseId) (f : PulseChannel → PulseChannel) : (s.modPulse i f).pending = s.pending := rfl

/-! ## mapPulse -/

@[simp] theorem mapPulse_outlets (s : State) (f : PulseId → PulseChannel → PulseChannel) : (s.mapPulse f).outlets = s.outlets := rfl
@[simp] theorem mapPulse_profile (s : State) (f : PulseId → PulseChannel → PulseChannel) : (s.mapPulse f).profile = s.profile := rfl
@[simp] theorem mapPulse_arbiter (s : State) (f : PulseId → PulseChannel → PulseChannel) : (s.mapPulse f).arbiter = s.arbiter := rfl
@[simp] theorem mapPulse_bursts (s : State) (f : PulseId → PulseChannel → PulseChannel) : (s.mapPulse f).bursts = s.bursts := rfl
@[simp] theorem mapPulse_steam (s : State) (f : PulseId → PulseChannel → PulseChannel) : (s.mapPulse f).steam = s.steam := rfl
@[simp] theorem mapPulse_water (s : State) (f : PulseId → PulseChannel → PulseChannel) : (s.mapPulse f).water = s.water := rfl
@[simp] theorem mapPulse_stores (s : State) (f : PulseId → PulseChannel → PulseChannel) : (s.mapPulse f).stores = s.stores := rfl
@[simp] theorem mapPulse_reference (s : State) (f : PulseId → PulseChannel → PulseChannel) : (s.mapPulse f).reference = s.reference := rfl
@[simp] theorem mapPulse_ratio (s : State) (f : PulseId → PulseChannel → PulseChannel) : (s.mapPulse f).ratio = s.ratio := rfl
@[simp] theorem mapPulse_scan (s : State) (f : PulseId → PulseChannel → PulseChannel) : (s.mapPulse f).scan = s.scan := rfl
@[simp] theorem mapPulse_inputs (s : State) (f : PulseId → PulseChannel → PulseChannel) : (s.mapPulse f).inputs = s.inputs := rfl
@[simp] theorem mapPulse_channels (s : State) (f : PulseId → PulseChannel → PulseChannel) : (s.mapPulse f).channels = s.channels := rfl
@[simp] theorem mapPulse_branches (s : State) (f : PulseId → PulseChannel → PulseChannel) : (s.mapPulse f).branches = s.branches := rfl
@[simp] theorem mapPulse_ports (s : State) (f : PulseId → PulseChannel → PulseChannel) : (s.mapPulse f).ports = s.ports := rfl
@[simp] theorem mapPulse_engine (s : State) (f : PulseId → PulseChannel → PulseChannel) : (s.mapPulse f).engine = s.engine := rfl
@[simp] theorem mapPulse_store (s : State) (f : PulseId → PulseChannel → PulseChannel) : (s.mapPulse f).store = s.store := rfl
@[simp] theorem mapPulse_pending (s : State) (f : PulseId → PulseChannel → PulseChannel) : (s.mapPulse f).pending = s.pending := rfl

/-! ## modStore -/

@[simp] theorem modStore_outlets (s : State) (i : StoreId) (f : Store → Store) : (s.modStore i f).outlets = s.outlets := rfl
@[simp] theorem modStore_profile (s : State) (i : StoreId) (f : Store → Store) : (s.modStore i f).profile = s.profile := rfl
@[simp] theorem modStore_arbiter (s : State) (i : StoreId) (f : Store → Store) : (s.modStore i f).arbiter = s.arbiter := rfl
@[simp] theorem modStore_bursts (s : State) (i : StoreId) (f : Store → Store) : (s.modStore i f).bursts = s.bursts := rfl
@[simp] theorem modStore_steam (s : State) (i : StoreId) (f : Store → Store) : (s.modStore i f).steam = s.steam := rfl
@[simp] theorem modStore_water (s : State) (i : StoreId) (f : Store → Store) : (s.modStore i f).water = s.water := rfl
@[simp] theorem modStore_reference (s : State) (i : StoreId) (f : Store → Store) : (s.modStore i f).reference = s.reference := rfl
@[simp] theorem modStore_ratio (s : State) (i : StoreId) (f : Store → Store) : (s.modStore i f).ratio = s.ratio := rfl
@[simp] theorem modStore_pulse (s : State) (i : StoreId) (f : Store → Store) : (s.modStore i f).pulse = s.pulse := rfl
@[simp] theorem modStore_scan (s : State) (i : StoreId) (f : Store → Store) : (s.modStore i f).scan = s.scan := rfl
@[simp] theorem modStore_inputs (s : State) (i : StoreId) (f : Store → Store) : (s.modStore i f).inputs = s.inputs := rfl
@[simp] theorem modStore_channels (s : State) (i : StoreId) (f : Store → Store) : (s.modStore i f).channels = s.channels := rfl
@[simp] theorem modStore_branches (s : State) (i : StoreId) (f : Store → Store) : (s.modStore i f).branches = s.branches := rfl
@[simp] theorem modStore_ports (s : State) (i : StoreId) (f : Store → Store) : (s.modStore i f).ports = s.ports := rfl
@[simp] theorem modStore_engine (s : State) (i : StoreId) (f : Store → Store) : (s.modStore i f).engine = s.engine := rfl
@[simp] theorem modStore_store (s : State) (i : StoreId) (f : Store → Store) : (s.modStore i f).store = s.store := rfl
@[simp] theorem modStore_pending (s : State) (i : StoreId) (f : Store → Store) : (s.modStore i f).pending = s.pending := rfl

/-! ## mapStores -/

@[simp] theorem mapStores_outlets (s : State) (f : StoreId → Store → Store) : (s.mapStores f).outlets = s.outlets := rfl
@[simp] theorem mapStores_profile (s : State) (f : StoreId → Store → Store) : (s.mapStores f).profile = s.profile := rfl
@[simp] theorem mapStores_arbiter (s : State) (f : StoreId → Store → Store) : (s.mapStores f).arbiter = s.arbiter := rfl
@[simp] theorem mapStores_bursts (s : State) (f : StoreId → Store → Store) : (s.mapStores f).bursts = s.bursts := rfl
@[simp] theorem mapStores_steam (s : State) (f : StoreId → Store → Store) : (s.mapStores f).steam = s.steam := rfl
@[simp] theorem mapStores_water (s : State) (f : StoreId → Store → Store) : (s.mapStores f).water = s.water := rfl
@[simp] theorem mapStores_reference (s : State) (f : StoreId → Store → Store) : (s.mapStores f).reference = s.reference := rfl
@[simp] theorem mapStores_ratio (s : State) (f : StoreId → Store → Store) : (s.mapStores f).ratio = s.ratio := rfl
@[simp] theorem mapStores_pulse (s : State) (f : StoreId → Store → Store) : (s.mapStores f).pulse = s.pulse := rfl
@[simp] theorem mapStores_scan (s : State) (f : StoreId → Store → Store) : (s.mapStores f).scan = s.scan := rfl
@[simp] theorem mapStores_inputs (s : State) (f : StoreId → Store → Store) : (s.mapStores f).inputs = s.inputs := rfl
@[simp] theorem mapStores_channels (s : State) (f : StoreId → Store → Store) : (s.mapStores f).channels = s.channels := rfl
@[simp] theorem mapStores_branches (s : State) (f : StoreId → Store → Store) : (s.mapStores f).branches = s.branches := rfl
@[simp] theorem mapStores_ports (s : State) (f : StoreId → Store → Store) : (s.mapStores f).ports = s.ports := rfl
@[simp] theorem mapStores_engine (s : State) (f : StoreId → Store → Store) : (s.mapStores f).engine = s.engine := rfl
@[simp] theorem mapStores_store (s : State) (f : StoreId → Store → Store) : (s.mapStores f).store = s.store := rfl
@[simp] theorem mapStores_pending (s : State) (f : StoreId → Store → Store) : (s.mapStores f).pending = s.pending := rfl

/-! ## modBoiler -/

@[simp] theorem modBoiler_outlets (s : State) (b : BoilerId) (f : Boiler → Boiler) : (s.modBoiler b f).outlets = s.outlets := rfl
@[simp] theorem modBoiler_profile (s : State) (b : BoilerId) (f : Boiler → Boiler) : (s.modBoiler b f).profile = s.profile := rfl
@[simp] theorem modBoiler_arbiter (s : State) (b : BoilerId) (f : Boiler → Boiler) : (s.modBoiler b f).arbiter = s.arbiter := rfl
@[simp] theorem modBoiler_bursts (s : State) (b : BoilerId) (f : Boiler → Boiler) : (s.modBoiler b f).bursts = s.bursts := rfl
@[simp] theorem modBoiler_water (s : State) (b : BoilerId) (f : Boiler → Boiler) : (s.modBoiler b f).water = s.water := rfl
@[simp] theorem modBoiler_stores (s : State) (b : BoilerId) (f : Boiler → Boiler) : (s.modBoiler b f).stores = s.stores := rfl
@[simp] theorem modBoiler_reference (s : State) (b : BoilerId) (f : Boiler → Boiler) : (s.modBoiler b f).reference = s.reference := rfl
@[simp] theorem modBoiler_ratio (s : State) (b : BoilerId) (f : Boiler → Boiler) : (s.modBoiler b f).ratio = s.ratio := rfl
@[simp] theorem modBoiler_pulse (s : State) (b : BoilerId) (f : Boiler → Boiler) : (s.modBoiler b f).pulse = s.pulse := rfl
@[simp] theorem modBoiler_scan (s : State) (b : BoilerId) (f : Boiler → Boiler) : (s.modBoiler b f).scan = s.scan := rfl
@[simp] theorem modBoiler_inputs (s : State) (b : BoilerId) (f : Boiler → Boiler) : (s.modBoiler b f).inputs = s.inputs := rfl
@[simp] theorem modBoiler_channels (s : State) (b : BoilerId) (f : Boiler → Boiler) : (s.modBoiler b f).channels = s.channels := rfl
@[simp] theorem modBoiler_branches (s : State) (b : BoilerId) (f : Boiler → Boiler) : (s.modBoiler b f).branches = s.branches := rfl
@[simp] theorem modBoiler_ports (s : State) (b : BoilerId) (f : Boiler → Boiler) : (s.modBoiler b f).ports = s.ports := rfl
@[simp] theorem modBoiler_engine (s : State) (b : BoilerId) (f : Boiler → Boiler) : (s.modBoiler b f).engine = s.engine := rfl
@[simp] theorem modBoiler_store (s : State) (b : BoilerId) (f : Boiler → Boiler) : (s.modBoiler b f).store = s.store := rfl
@[simp] theorem modBoiler_pending (s : State) (b : BoilerId) (f : Boiler → Boiler) : (s.modBoiler b f).pending = s.pending := rfl

/-! ## modArbiter -/

@[simp] theorem modArbiter_outlets (s : State) (f : Arbiter → Arbiter) : (s.modArbiter f).outlets = s.outlets := rfl
@[simp] theorem modArbiter_profile (s : State) (f : Arbiter → Arbiter) : (s.modArbiter f).profile = s.profile := rfl
@[simp] theorem modArbiter_bursts (s : State) (f : Arbiter → Arbiter) : (s.modArbiter f).bursts = s.bursts := rfl
@[simp] theorem modArbiter_steam (s : State) (f : Arbiter → Arbiter) : (s.modArbiter f).steam = s.steam := rfl
@[simp] theorem modArbiter_water (s : State) (f : Arbiter → Arbiter) : (s.modArbiter f).water = s.water := rfl
@[simp] theorem modArbiter_stores (s : State) (f : Arbiter → Arbiter) : (s.modArbiter f).stores = s.stores := rfl
@[simp] theorem modArbiter_reference (s : State) (f : Arbiter → Arbiter) : (s.modArbiter f).reference = s.reference := rfl
@[simp] theorem modArbiter_ratio (s : State) (f : Arbiter → Arbiter) : (s.modArbiter f).ratio = s.ratio := rfl
@[simp] theorem modArbiter_pulse (s : State) (f : Arbiter → Arbiter) : (s.modArbiter f).pulse = s.pulse := rfl
@[simp] theorem modArbiter_scan (s : State) (f : Arbiter → Arbiter) : (s.modArbiter f).scan = s.scan := rfl
@[simp] theorem modArbiter_inputs (s : State) (f : Arbiter → Arbiter) : (s.modArbiter f).inputs = s.inputs := rfl
@[simp] theorem modArbiter_channels (s : State) (f : Arbiter → Arbiter) : (s.modArbiter f).channels = s.channels := rfl
@[simp] theorem modArbiter_branches (s : State) (f : Arbiter → Arbiter) : (s.modArbiter f).branches = s.branches := rfl
@[simp] theorem modArbiter_ports (s : State) (f : Arbiter → Arbiter) : (s.modArbiter f).ports = s.ports := rfl
@[simp] theorem modArbiter_engine (s : State) (f : Arbiter → Arbiter) : (s.modArbiter f).engine = s.engine := rfl
@[simp] theorem modArbiter_store (s : State) (f : Arbiter → Arbiter) : (s.modArbiter f).store = s.store := rfl
@[simp] theorem modArbiter_pending (s : State) (f : Arbiter → Arbiter) : (s.modArbiter f).pending = s.pending := rfl

/-! ## modEngine -/

@[simp] theorem modEngine_outlets (s : State) (f : EngineControl → EngineControl) : (s.modEngine f).outlets = s.outlets := rfl
@[simp] theorem modEngine_profile (s : State) (f : EngineControl → EngineControl) : (s.modEngine f).profile = s.profile := rfl
@[simp] theorem modEngine_arbiter (s : State) (f : EngineControl → EngineControl) : (s.modEngine f).arbiter = s.arbiter := rfl
@[simp] theorem modEngine_bursts (s : State) (f : EngineControl → EngineControl) : (s.modEngine f).bursts = s.bursts := rfl
@[simp] theorem modEngine_steam (s : State) (f : EngineControl → EngineControl) : (s.modEngine f).steam = s.steam := rfl
@[simp] theorem modEngine_water (s : State) (f : EngineControl → EngineControl) : (s.modEngine f).water = s.water := rfl
@[simp] theorem modEngine_stores (s : State) (f : EngineControl → EngineControl) : (s.modEngine f).stores = s.stores := rfl
@[simp] theorem modEngine_reference (s : State) (f : EngineControl → EngineControl) : (s.modEngine f).reference = s.reference := rfl
@[simp] theorem modEngine_ratio (s : State) (f : EngineControl → EngineControl) : (s.modEngine f).ratio = s.ratio := rfl
@[simp] theorem modEngine_pulse (s : State) (f : EngineControl → EngineControl) : (s.modEngine f).pulse = s.pulse := rfl
@[simp] theorem modEngine_scan (s : State) (f : EngineControl → EngineControl) : (s.modEngine f).scan = s.scan := rfl
@[simp] theorem modEngine_inputs (s : State) (f : EngineControl → EngineControl) : (s.modEngine f).inputs = s.inputs := rfl
@[simp] theorem modEngine_channels (s : State) (f : EngineControl → EngineControl) : (s.modEngine f).channels = s.channels := rfl
@[simp] theorem modEngine_branches (s : State) (f : EngineControl → EngineControl) : (s.modEngine f).branches = s.branches := rfl
@[simp] theorem modEngine_ports (s : State) (f : EngineControl → EngineControl) : (s.modEngine f).ports = s.ports := rfl
@[simp] theorem modEngine_store (s : State) (f : EngineControl → EngineControl) : (s.modEngine f).store = s.store := rfl
@[simp] theorem modEngine_pending (s : State) (f : EngineControl → EngineControl) : (s.modEngine f).pending = s.pending := rfl

/-! ## modEntry -/

@[simp] theorem modEntry_outlets (s : State) (n : OutletId) (f : BurstEntry → BurstEntry) : (s.modEntry n f).outlets = s.outlets := rfl
@[simp] theorem modEntry_profile (s : State) (n : OutletId) (f : BurstEntry → BurstEntry) : (s.modEntry n f).profile = s.profile := rfl
@[simp] theorem modEntry_arbiter (s : State) (n : OutletId) (f : BurstEntry → BurstEntry) : (s.modEntry n f).arbiter = s.arbiter := rfl
@[simp] theorem modEntry_steam (s : State) (n : OutletId) (f : BurstEntry → BurstEntry) : (s.modEntry n f).steam = s.steam := rfl
@[simp] theorem modEntry_water (s : State) (n : OutletId) (f : BurstEntry → BurstEntry) : (s.modEntry n f).water = s.water := rfl
@[simp] theorem modEntry_stores (s : State) (n : OutletId) (f : BurstEntry → BurstEntry) : (s.modEntry n f).stores = s.stores := rfl
@[simp] theorem modEntry_reference (s : State) (n : OutletId) (f : BurstEntry → BurstEntry) : (s.modEntry n f).reference = s.reference := rfl
@[simp] theorem modEntry_ratio (s : State) (n : OutletId) (f : BurstEntry → BurstEntry) : (s.modEntry n f).ratio = s.ratio := rfl
@[simp] theorem modEntry_pulse (s : State) (n : OutletId) (f : BurstEntry → BurstEntry) : (s.modEntry n f).pulse = s.pulse := rfl
@[simp] theorem modEntry_scan (s : State) (n : OutletId) (f : BurstEntry → BurstEntry) : (s.modEntry n f).scan = s.scan := rfl
@[simp] theorem modEntry_inputs (s : State) (n : OutletId) (f : BurstEntry → BurstEntry) : (s.modEntry n f).inputs = s.inputs := rfl
@[simp] theorem modEntry_channels (s : State) (n : OutletId) (f : BurstEntry → BurstEntry) : (s.modEntry n f).channels = s.channels := rfl
@[simp] theorem modEntry_branches (s : State) (n : OutletId) (f : BurstEntry → BurstEntry) : (s.modEntry n f).branches = s.branches := rfl
@[simp] theorem modEntry_ports (s : State) (n : OutletId) (f : BurstEntry → BurstEntry) : (s.modEntry n f).ports = s.ports := rfl
@[simp] theorem modEntry_engine (s : State) (n : OutletId) (f : BurstEntry → BurstEntry) : (s.modEntry n f).engine = s.engine := rfl
@[simp] theorem modEntry_store (s : State) (n : OutletId) (f : BurstEntry → BurstEntry) : (s.modEntry n f).store = s.store := rfl
@[simp] theorem modEntry_pending (s : State) (n : OutletId) (f : BurstEntry → BurstEntry) : (s.modEntry n f).pending = s.pending := rfl

/-! ## postTo -/

@[simp] theorem postTo_outlets (s : State) (p : Port) (e : Event) : (s.postTo p e).outlets = s.outlets := rfl
@[simp] theorem postTo_profile (s : State) (p : Port) (e : Event) : (s.postTo p e).profile = s.profile := rfl
@[simp] theorem postTo_arbiter (s : State) (p : Port) (e : Event) : (s.postTo p e).arbiter = s.arbiter := rfl
@[simp] theorem postTo_bursts (s : State) (p : Port) (e : Event) : (s.postTo p e).bursts = s.bursts := rfl
@[simp] theorem postTo_steam (s : State) (p : Port) (e : Event) : (s.postTo p e).steam = s.steam := rfl
@[simp] theorem postTo_water (s : State) (p : Port) (e : Event) : (s.postTo p e).water = s.water := rfl
@[simp] theorem postTo_stores (s : State) (p : Port) (e : Event) : (s.postTo p e).stores = s.stores := rfl
@[simp] theorem postTo_reference (s : State) (p : Port) (e : Event) : (s.postTo p e).reference = s.reference := rfl
@[simp] theorem postTo_ratio (s : State) (p : Port) (e : Event) : (s.postTo p e).ratio = s.ratio := rfl
@[simp] theorem postTo_pulse (s : State) (p : Port) (e : Event) : (s.postTo p e).pulse = s.pulse := rfl
@[simp] theorem postTo_scan (s : State) (p : Port) (e : Event) : (s.postTo p e).scan = s.scan := rfl
@[simp] theorem postTo_inputs (s : State) (p : Port) (e : Event) : (s.postTo p e).inputs = s.inputs := rfl
@[simp] theorem postTo_channels (s : State) (p : Port) (e : Event) : (s.postTo p e).channels = s.channels := rfl
@[simp] theorem postTo_branches (s : State) (p : Port) (e : Event) : (s.postTo p e).branches = s.branches := rfl
@[simp] theorem postTo_engine (s : State) (p : Port) (e : Event) : (s.postTo p e).engine = s.engine := rfl
@[simp] theorem postTo_store (s : State) (p : Port) (e : Event) : (s.postTo p e).store = s.store := rfl
@[simp] theorem postTo_pending (s : State) (p : Port) (e : Event) : (s.postTo p e).pending = s.pending := rfl

/-! ## postAll -/

@[simp] theorem postAll_outlets (s : State) (e : Event) : (s.postAll e).outlets = s.outlets := rfl
@[simp] theorem postAll_profile (s : State) (e : Event) : (s.postAll e).profile = s.profile := rfl
@[simp] theorem postAll_arbiter (s : State) (e : Event) : (s.postAll e).arbiter = s.arbiter := rfl
@[simp] theorem postAll_bursts (s : State) (e : Event) : (s.postAll e).bursts = s.bursts := rfl
@[simp] theorem postAll_steam (s : State) (e : Event) : (s.postAll e).steam = s.steam := rfl
@[simp] theorem postAll_water (s : State) (e : Event) : (s.postAll e).water = s.water := rfl
@[simp] theorem postAll_stores (s : State) (e : Event) : (s.postAll e).stores = s.stores := rfl
@[simp] theorem postAll_reference (s : State) (e : Event) : (s.postAll e).reference = s.reference := rfl
@[simp] theorem postAll_ratio (s : State) (e : Event) : (s.postAll e).ratio = s.ratio := rfl
@[simp] theorem postAll_pulse (s : State) (e : Event) : (s.postAll e).pulse = s.pulse := rfl
@[simp] theorem postAll_scan (s : State) (e : Event) : (s.postAll e).scan = s.scan := rfl
@[simp] theorem postAll_inputs (s : State) (e : Event) : (s.postAll e).inputs = s.inputs := rfl
@[simp] theorem postAll_channels (s : State) (e : Event) : (s.postAll e).channels = s.channels := rfl
@[simp] theorem postAll_branches (s : State) (e : Event) : (s.postAll e).branches = s.branches := rfl
@[simp] theorem postAll_engine (s : State) (e : Event) : (s.postAll e).engine = s.engine := rfl
@[simp] theorem postAll_store (s : State) (e : Event) : (s.postAll e).store = s.store := rfl
@[simp] theorem postAll_pending (s : State) (e : Event) : (s.postAll e).pending = s.pending := rfl

/-! ## postOutlet -/

@[simp] theorem postOutlet_outlets (s : State) (n : OutletId) (e : Event) : (s.postOutlet n e).outlets = s.outlets := rfl
@[simp] theorem postOutlet_profile (s : State) (n : OutletId) (e : Event) : (s.postOutlet n e).profile = s.profile := rfl
@[simp] theorem postOutlet_arbiter (s : State) (n : OutletId) (e : Event) : (s.postOutlet n e).arbiter = s.arbiter := rfl
@[simp] theorem postOutlet_bursts (s : State) (n : OutletId) (e : Event) : (s.postOutlet n e).bursts = s.bursts := rfl
@[simp] theorem postOutlet_steam (s : State) (n : OutletId) (e : Event) : (s.postOutlet n e).steam = s.steam := rfl
@[simp] theorem postOutlet_water (s : State) (n : OutletId) (e : Event) : (s.postOutlet n e).water = s.water := rfl
@[simp] theorem postOutlet_stores (s : State) (n : OutletId) (e : Event) : (s.postOutlet n e).stores = s.stores := rfl
@[simp] theorem postOutlet_reference (s : State) (n : OutletId) (e : Event) : (s.postOutlet n e).reference = s.reference := rfl
@[simp] theorem postOutlet_ratio (s : State) (n : OutletId) (e : Event) : (s.postOutlet n e).ratio = s.ratio := rfl
@[simp] theorem postOutlet_pulse (s : State) (n : OutletId) (e : Event) : (s.postOutlet n e).pulse = s.pulse := rfl
@[simp] theorem postOutlet_scan (s : State) (n : OutletId) (e : Event) : (s.postOutlet n e).scan = s.scan := rfl
@[simp] theorem postOutlet_inputs (s : State) (n : OutletId) (e : Event) : (s.postOutlet n e).inputs = s.inputs := rfl
@[simp] theorem postOutlet_channels (s : State) (n : OutletId) (e : Event) : (s.postOutlet n e).channels = s.channels := rfl
@[simp] theorem postOutlet_branches (s : State) (n : OutletId) (e : Event) : (s.postOutlet n e).branches = s.branches := rfl
@[simp] theorem postOutlet_engine (s : State) (n : OutletId) (e : Event) : (s.postOutlet n e).engine = s.engine := rfl
@[simp] theorem postOutlet_store (s : State) (n : OutletId) (e : Event) : (s.postOutlet n e).store = s.store := rfl
@[simp] theorem postOutlet_pending (s : State) (n : OutletId) (e : Event) : (s.postOutlet n e).pending = s.pending := rfl

/-! ## setGrant -/

@[simp] theorem setGrant_profile (s : State) (n : OutletId) (g : Nat) : (s.setGrant n g).profile = s.profile := rfl
@[simp] theorem setGrant_arbiter (s : State) (n : OutletId) (g : Nat) : (s.setGrant n g).arbiter = s.arbiter := rfl
@[simp] theorem setGrant_bursts (s : State) (n : OutletId) (g : Nat) : (s.setGrant n g).bursts = s.bursts := rfl
@[simp] theorem setGrant_steam (s : State) (n : OutletId) (g : Nat) : (s.setGrant n g).steam = s.steam := rfl
@[simp] theorem setGrant_water (s : State) (n : OutletId) (g : Nat) : (s.setGrant n g).water = s.water := rfl
@[simp] theorem setGrant_stores (s : State) (n : OutletId) (g : Nat) : (s.setGrant n g).stores = s.stores := rfl
@[simp] theorem setGrant_reference (s : State) (n : OutletId) (g : Nat) : (s.setGrant n g).reference = s.reference := rfl
@[simp] theorem setGrant_ratio (s : State) (n : OutletId) (g : Nat) : (s.setGrant n g).ratio = s.ratio := rfl
@[simp] theorem setGrant_pulse (s : State) (n : OutletId) (g : Nat) : (s.setGrant n g).pulse = s.pulse := rfl
@[simp] theorem setGrant_scan (s : State) (n : OutletId) (g : Nat) : (s.setGrant n g).scan = s.scan := rfl
@[simp] theorem setGrant_inputs (s : State) (n : OutletId) (g : Nat) : (s.setGrant n g).inputs = s.inputs := rfl
@[simp] theorem setGrant_branches (s : State) (n : OutletId) (g : Nat) : (s.setGrant n g).branches = s.branches := rfl
@[simp] theorem setGrant_ports (s : State) (n : OutletId) (g : Nat) : (s.setGrant n g).ports = s.ports := rfl
@[simp] theorem setGrant_engine (s : State) (n : OutletId) (g : Nat) : (s.setGrant n g).engine = s.engine := rfl
@[simp] theorem setGrant_store (s : State) (n : OutletId) (g : Nat) : (s.setGrant n g).store = s.store := rfl
@[simp] theorem setGrant_pending (s : State) (n : OutletId) (g : Nat) : (s.setGrant n g).pending = s.pending := rfl

/-! ## The record an update writes, and the others -/

@[simp] theorem modOutlet_outlet_self (s : State) (n : OutletId) (f : Outlet → Outlet) :
    (s.modOutlet n f).outlet n = f (s.outlet n) := by
  simp [modOutlet, outlet]

theorem modOutlet_outlet_ne (s : State) {n k : OutletId} (f : Outlet → Outlet) (h : k ≠ n) :
    (s.modOutlet n f).outlet k = s.outlet k := by
  have h' : n.val ≠ k.val := fun e => h (Fin.ext e.symm)
  simp [modOutlet, outlet, h']

theorem modOutlet_outlet (s : State) (n k : OutletId) (f : Outlet → Outlet) :
    (s.modOutlet n f).outlet k = if k = n then f (s.outlet n) else s.outlet k := by
  by_cases h : k = n
  · subst h; simp
  · simp [modOutlet_outlet_ne s f h, h]

@[simp] theorem modChannel_channel_self (s : State) (n : OutletId) (f : Channel → Channel) :
    (s.modChannel n f).channel n = f (s.channel n) := by
  simp [modChannel, channel]

theorem modChannel_channel_ne (s : State) {n k : OutletId} (f : Channel → Channel) (h : k ≠ n) :
    (s.modChannel n f).channel k = s.channel k := by
  have h' : n.val ≠ k.val := fun e => h (Fin.ext e.symm)
  simp [modChannel, channel, h']

theorem modChannel_channel (s : State) (n k : OutletId) (f : Channel → Channel) :
    (s.modChannel n f).channel k = if k = n then f (s.channel n) else s.channel k := by
  by_cases h : k = n
  · subst h; simp
  · simp [modChannel_channel_ne s f h, h]

@[simp] theorem modBranch_branch_self (s : State) (b : BranchId) (f : Branch → Branch) :
    (s.modBranch b f).branch b = f (s.branch b) := by
  simp [modBranch, branch]

theorem modBranch_branch_ne (s : State) {b k : BranchId} (f : Branch → Branch) (h : k ≠ b) :
    (s.modBranch b f).branch k = s.branch k := by
  have h' : b.val ≠ k.val := fun e => h (Fin.ext e.symm)
  simp [modBranch, branch, h']

theorem modBranch_branch (s : State) (b k : BranchId) (f : Branch → Branch) :
    (s.modBranch b f).branch k = if k = b then f (s.branch b) else s.branch k := by
  by_cases h : k = b
  · subst h; simp
  · simp [modBranch_branch_ne s f h, h]

@[simp] theorem modPort_port_self (s : State) (p : Port) (f : PortUnit → PortUnit) :
    (s.modPort p f).port p = f (s.port p) := by
  simp [modPort, port]

theorem modPort_port_ne (s : State) {p k : Port} (f : PortUnit → PortUnit) (h : k ≠ p) :
    (s.modPort p f).port k = s.port k := by
  have h' : p.val ≠ k.val := fun e => h (Fin.ext e.symm)
  simp [modPort, port, h']

theorem modPort_port (s : State) (p k : Port) (f : PortUnit → PortUnit) :
    (s.modPort p f).port k = if k = p then f (s.port p) else s.port k := by
  by_cases h : k = p
  · subst h; simp
  · simp [modPort_port_ne s f h, h]

@[simp] theorem modRatio_ratioChannel_self (s : State) (m : RatioId) (f : RatioChannel → RatioChannel) :
    (s.modRatio m f).ratioChannel m = f (s.ratioChannel m) := by
  simp [modRatio, ratioChannel]

theorem modRatio_ratioChannel_ne (s : State) {m k : RatioId} (f : RatioChannel → RatioChannel) (h : k ≠ m) :
    (s.modRatio m f).ratioChannel k = s.ratioChannel k := by
  have h' : m.val ≠ k.val := fun e => h (Fin.ext e.symm)
  simp [modRatio, ratioChannel, h']

theorem modRatio_ratioChannel (s : State) (m k : RatioId) (f : RatioChannel → RatioChannel) :
    (s.modRatio m f).ratioChannel k = if k = m then f (s.ratioChannel m) else s.ratioChannel k := by
  by_cases h : k = m
  · subst h; simp
  · simp [modRatio_ratioChannel_ne s f h, h]

@[simp] theorem modPulse_pulseChannel_self (s : State) (i : PulseId) (f : PulseChannel → PulseChannel) :
    (s.modPulse i f).pulseChannel i = f (s.pulseChannel i) := by
  simp [modPulse, pulseChannel]

theorem modPulse_pulseChannel_ne (s : State) {i k : PulseId} (f : PulseChannel → PulseChannel) (h : k ≠ i) :
    (s.modPulse i f).pulseChannel k = s.pulseChannel k := by
  have h' : i.val ≠ k.val := fun e => h (Fin.ext e.symm)
  simp [modPulse, pulseChannel, h']

theorem modPulse_pulseChannel (s : State) (i k : PulseId) (f : PulseChannel → PulseChannel) :
    (s.modPulse i f).pulseChannel k = if k = i then f (s.pulseChannel i) else s.pulseChannel k := by
  by_cases h : k = i
  · subst h; simp
  · simp [modPulse_pulseChannel_ne s f h, h]

@[simp] theorem modStore_storeRec_self (s : State) (i : StoreId) (f : Store → Store) :
    (s.modStore i f).storeRec i = f (s.storeRec i) := by
  simp [modStore, storeRec]

theorem modStore_storeRec_ne (s : State) {i k : StoreId} (f : Store → Store) (h : k ≠ i) :
    (s.modStore i f).storeRec k = s.storeRec k := by
  have h' : i.val ≠ k.val := fun e => h (Fin.ext e.symm)
  simp [modStore, storeRec, h']

theorem modStore_storeRec (s : State) (i k : StoreId) (f : Store → Store) :
    (s.modStore i f).storeRec k = if k = i then f (s.storeRec i) else s.storeRec k := by
  by_cases h : k = i
  · subst h; simp
  · simp [modStore_storeRec_ne s f h, h]

@[simp] theorem mapOutlets_outlet (s : State) (f : OutletId → Outlet → Outlet) (n : OutletId) :
    (s.mapOutlets f).outlet n = f n (s.outlet n) := by
  simp [mapOutlets, outlet, tabulate_getElem]

@[simp] theorem mapChannels_channel (s : State) (f : OutletId → Channel → Channel) (n : OutletId) :
    (s.mapChannels f).channel n = f n (s.channel n) := by
  simp [mapChannels, channel, tabulate_getElem]

@[simp] theorem mapBranches_branch (s : State) (f : BranchId → Branch → Branch) (b : BranchId) :
    (s.mapBranches f).branch b = f b (s.branch b) := by
  simp [mapBranches, branch, tabulate_getElem]

@[simp] theorem mapPorts_port (s : State) (f : Port → PortUnit → PortUnit) (p : Port) :
    (s.mapPorts f).port p = f p (s.port p) := by
  simp [mapPorts, port, tabulate_getElem]

@[simp] theorem mapRatio_ratioChannel (s : State) (f : RatioId → RatioChannel → RatioChannel) (m : RatioId) :
    (s.mapRatio f).ratioChannel m = f m (s.ratioChannel m) := by
  simp [mapRatio, ratioChannel, tabulate_getElem]

@[simp] theorem mapPulse_pulseChannel (s : State) (f : PulseId → PulseChannel → PulseChannel) (i : PulseId) :
    (s.mapPulse f).pulseChannel i = f i (s.pulseChannel i) := by
  simp [mapPulse, pulseChannel, tabulate_getElem]

@[simp] theorem mapStores_storeRec (s : State) (f : StoreId → Store → Store) (i : StoreId) :
    (s.mapStores f).storeRec i = f i (s.storeRec i) := by
  simp [mapStores, storeRec, tabulate_getElem]

/-! ## Records of the fields an update leaves as they were -/

@[simp] theorem modOutlet_channel_kept (s : State) (n : OutletId) (f : Outlet → Outlet) (k : OutletId) :
    (s.modOutlet n f).channel k = s.channel k := by
  rfl
@[simp] theorem modOutlet_branch_kept (s : State) (n : OutletId) (f : Outlet → Outlet) (k : BranchId) :
    (s.modOutlet n f).branch k = s.branch k := by
  rfl
@[simp] theorem modOutlet_port_kept (s : State) (n : OutletId) (f : Outlet → Outlet) (k : Port) :
    (s.modOutlet n f).port k = s.port k := by
  rfl
@[simp] theorem modOutlet_ratioChannel_kept (s : State) (n : OutletId) (f : Outlet → Outlet) (k : RatioId) :
    (s.modOutlet n f).ratioChannel k = s.ratioChannel k := by
  rfl
@[simp] theorem modOutlet_pulseChannel_kept (s : State) (n : OutletId) (f : Outlet → Outlet) (k : PulseId) :
    (s.modOutlet n f).pulseChannel k = s.pulseChannel k := by
  rfl
@[simp] theorem modOutlet_storeRec_kept (s : State) (n : OutletId) (f : Outlet → Outlet) (k : StoreId) :
    (s.modOutlet n f).storeRec k = s.storeRec k := by
  rfl
@[simp] theorem modOutlet_boiler_kept (s : State) (n : OutletId) (f : Outlet → Outlet) (k : BoilerId) :
    (s.modOutlet n f).boiler k = s.boiler k := by
  rfl
@[simp] theorem modOutlet_input_kept (s : State) (n : OutletId) (f : Outlet → Outlet) (k : PlantInput) :
    (s.modOutlet n f).input k = s.input k := by
  cases k <;> rfl

@[simp] theorem mapOutlets_channel_kept (s : State) (f : OutletId → Outlet → Outlet) (k : OutletId) :
    (s.mapOutlets f).channel k = s.channel k := by
  rfl
@[simp] theorem mapOutlets_branch_kept (s : State) (f : OutletId → Outlet → Outlet) (k : BranchId) :
    (s.mapOutlets f).branch k = s.branch k := by
  rfl
@[simp] theorem mapOutlets_port_kept (s : State) (f : OutletId → Outlet → Outlet) (k : Port) :
    (s.mapOutlets f).port k = s.port k := by
  rfl
@[simp] theorem mapOutlets_ratioChannel_kept (s : State) (f : OutletId → Outlet → Outlet) (k : RatioId) :
    (s.mapOutlets f).ratioChannel k = s.ratioChannel k := by
  rfl
@[simp] theorem mapOutlets_pulseChannel_kept (s : State) (f : OutletId → Outlet → Outlet) (k : PulseId) :
    (s.mapOutlets f).pulseChannel k = s.pulseChannel k := by
  rfl
@[simp] theorem mapOutlets_storeRec_kept (s : State) (f : OutletId → Outlet → Outlet) (k : StoreId) :
    (s.mapOutlets f).storeRec k = s.storeRec k := by
  rfl
@[simp] theorem mapOutlets_boiler_kept (s : State) (f : OutletId → Outlet → Outlet) (k : BoilerId) :
    (s.mapOutlets f).boiler k = s.boiler k := by
  rfl
@[simp] theorem mapOutlets_input_kept (s : State) (f : OutletId → Outlet → Outlet) (k : PlantInput) :
    (s.mapOutlets f).input k = s.input k := by
  cases k <;> rfl

@[simp] theorem modChannel_outlet_kept (s : State) (n : OutletId) (f : Channel → Channel) (k : OutletId) :
    (s.modChannel n f).outlet k = s.outlet k := by
  rfl
@[simp] theorem modChannel_branch_kept (s : State) (n : OutletId) (f : Channel → Channel) (k : BranchId) :
    (s.modChannel n f).branch k = s.branch k := by
  rfl
@[simp] theorem modChannel_port_kept (s : State) (n : OutletId) (f : Channel → Channel) (k : Port) :
    (s.modChannel n f).port k = s.port k := by
  rfl
@[simp] theorem modChannel_ratioChannel_kept (s : State) (n : OutletId) (f : Channel → Channel) (k : RatioId) :
    (s.modChannel n f).ratioChannel k = s.ratioChannel k := by
  rfl
@[simp] theorem modChannel_pulseChannel_kept (s : State) (n : OutletId) (f : Channel → Channel) (k : PulseId) :
    (s.modChannel n f).pulseChannel k = s.pulseChannel k := by
  rfl
@[simp] theorem modChannel_storeRec_kept (s : State) (n : OutletId) (f : Channel → Channel) (k : StoreId) :
    (s.modChannel n f).storeRec k = s.storeRec k := by
  rfl
@[simp] theorem modChannel_boiler_kept (s : State) (n : OutletId) (f : Channel → Channel) (k : BoilerId) :
    (s.modChannel n f).boiler k = s.boiler k := by
  rfl
@[simp] theorem modChannel_input_kept (s : State) (n : OutletId) (f : Channel → Channel) (k : PlantInput) :
    (s.modChannel n f).input k = s.input k := by
  cases k <;> rfl

@[simp] theorem mapChannels_outlet_kept (s : State) (f : OutletId → Channel → Channel) (k : OutletId) :
    (s.mapChannels f).outlet k = s.outlet k := by
  rfl
@[simp] theorem mapChannels_branch_kept (s : State) (f : OutletId → Channel → Channel) (k : BranchId) :
    (s.mapChannels f).branch k = s.branch k := by
  rfl
@[simp] theorem mapChannels_port_kept (s : State) (f : OutletId → Channel → Channel) (k : Port) :
    (s.mapChannels f).port k = s.port k := by
  rfl
@[simp] theorem mapChannels_ratioChannel_kept (s : State) (f : OutletId → Channel → Channel) (k : RatioId) :
    (s.mapChannels f).ratioChannel k = s.ratioChannel k := by
  rfl
@[simp] theorem mapChannels_pulseChannel_kept (s : State) (f : OutletId → Channel → Channel) (k : PulseId) :
    (s.mapChannels f).pulseChannel k = s.pulseChannel k := by
  rfl
@[simp] theorem mapChannels_storeRec_kept (s : State) (f : OutletId → Channel → Channel) (k : StoreId) :
    (s.mapChannels f).storeRec k = s.storeRec k := by
  rfl
@[simp] theorem mapChannels_boiler_kept (s : State) (f : OutletId → Channel → Channel) (k : BoilerId) :
    (s.mapChannels f).boiler k = s.boiler k := by
  rfl
@[simp] theorem mapChannels_input_kept (s : State) (f : OutletId → Channel → Channel) (k : PlantInput) :
    (s.mapChannels f).input k = s.input k := by
  cases k <;> rfl

@[simp] theorem modBranch_outlet_kept (s : State) (b : BranchId) (f : Branch → Branch) (k : OutletId) :
    (s.modBranch b f).outlet k = s.outlet k := by
  rfl
@[simp] theorem modBranch_channel_kept (s : State) (b : BranchId) (f : Branch → Branch) (k : OutletId) :
    (s.modBranch b f).channel k = s.channel k := by
  rfl
@[simp] theorem modBranch_port_kept (s : State) (b : BranchId) (f : Branch → Branch) (k : Port) :
    (s.modBranch b f).port k = s.port k := by
  rfl
@[simp] theorem modBranch_ratioChannel_kept (s : State) (b : BranchId) (f : Branch → Branch) (k : RatioId) :
    (s.modBranch b f).ratioChannel k = s.ratioChannel k := by
  rfl
@[simp] theorem modBranch_pulseChannel_kept (s : State) (b : BranchId) (f : Branch → Branch) (k : PulseId) :
    (s.modBranch b f).pulseChannel k = s.pulseChannel k := by
  rfl
@[simp] theorem modBranch_storeRec_kept (s : State) (b : BranchId) (f : Branch → Branch) (k : StoreId) :
    (s.modBranch b f).storeRec k = s.storeRec k := by
  rfl
@[simp] theorem modBranch_boiler_kept (s : State) (b : BranchId) (f : Branch → Branch) (k : BoilerId) :
    (s.modBranch b f).boiler k = s.boiler k := by
  rfl
@[simp] theorem modBranch_input_kept (s : State) (b : BranchId) (f : Branch → Branch) (k : PlantInput) :
    (s.modBranch b f).input k = s.input k := by
  cases k <;> rfl

@[simp] theorem mapBranches_outlet_kept (s : State) (f : BranchId → Branch → Branch) (k : OutletId) :
    (s.mapBranches f).outlet k = s.outlet k := by
  rfl
@[simp] theorem mapBranches_channel_kept (s : State) (f : BranchId → Branch → Branch) (k : OutletId) :
    (s.mapBranches f).channel k = s.channel k := by
  rfl
@[simp] theorem mapBranches_port_kept (s : State) (f : BranchId → Branch → Branch) (k : Port) :
    (s.mapBranches f).port k = s.port k := by
  rfl
@[simp] theorem mapBranches_ratioChannel_kept (s : State) (f : BranchId → Branch → Branch) (k : RatioId) :
    (s.mapBranches f).ratioChannel k = s.ratioChannel k := by
  rfl
@[simp] theorem mapBranches_pulseChannel_kept (s : State) (f : BranchId → Branch → Branch) (k : PulseId) :
    (s.mapBranches f).pulseChannel k = s.pulseChannel k := by
  rfl
@[simp] theorem mapBranches_storeRec_kept (s : State) (f : BranchId → Branch → Branch) (k : StoreId) :
    (s.mapBranches f).storeRec k = s.storeRec k := by
  rfl
@[simp] theorem mapBranches_boiler_kept (s : State) (f : BranchId → Branch → Branch) (k : BoilerId) :
    (s.mapBranches f).boiler k = s.boiler k := by
  rfl
@[simp] theorem mapBranches_input_kept (s : State) (f : BranchId → Branch → Branch) (k : PlantInput) :
    (s.mapBranches f).input k = s.input k := by
  cases k <;> rfl

@[simp] theorem modPort_outlet_kept (s : State) (p : Port) (f : PortUnit → PortUnit) (k : OutletId) :
    (s.modPort p f).outlet k = s.outlet k := by
  rfl
@[simp] theorem modPort_channel_kept (s : State) (p : Port) (f : PortUnit → PortUnit) (k : OutletId) :
    (s.modPort p f).channel k = s.channel k := by
  rfl
@[simp] theorem modPort_branch_kept (s : State) (p : Port) (f : PortUnit → PortUnit) (k : BranchId) :
    (s.modPort p f).branch k = s.branch k := by
  rfl
@[simp] theorem modPort_ratioChannel_kept (s : State) (p : Port) (f : PortUnit → PortUnit) (k : RatioId) :
    (s.modPort p f).ratioChannel k = s.ratioChannel k := by
  rfl
@[simp] theorem modPort_pulseChannel_kept (s : State) (p : Port) (f : PortUnit → PortUnit) (k : PulseId) :
    (s.modPort p f).pulseChannel k = s.pulseChannel k := by
  rfl
@[simp] theorem modPort_storeRec_kept (s : State) (p : Port) (f : PortUnit → PortUnit) (k : StoreId) :
    (s.modPort p f).storeRec k = s.storeRec k := by
  rfl
@[simp] theorem modPort_boiler_kept (s : State) (p : Port) (f : PortUnit → PortUnit) (k : BoilerId) :
    (s.modPort p f).boiler k = s.boiler k := by
  rfl
@[simp] theorem modPort_input_kept (s : State) (p : Port) (f : PortUnit → PortUnit) (k : PlantInput) :
    (s.modPort p f).input k = s.input k := by
  cases k <;> rfl

@[simp] theorem mapPorts_outlet_kept (s : State) (f : Port → PortUnit → PortUnit) (k : OutletId) :
    (s.mapPorts f).outlet k = s.outlet k := by
  rfl
@[simp] theorem mapPorts_channel_kept (s : State) (f : Port → PortUnit → PortUnit) (k : OutletId) :
    (s.mapPorts f).channel k = s.channel k := by
  rfl
@[simp] theorem mapPorts_branch_kept (s : State) (f : Port → PortUnit → PortUnit) (k : BranchId) :
    (s.mapPorts f).branch k = s.branch k := by
  rfl
@[simp] theorem mapPorts_ratioChannel_kept (s : State) (f : Port → PortUnit → PortUnit) (k : RatioId) :
    (s.mapPorts f).ratioChannel k = s.ratioChannel k := by
  rfl
@[simp] theorem mapPorts_pulseChannel_kept (s : State) (f : Port → PortUnit → PortUnit) (k : PulseId) :
    (s.mapPorts f).pulseChannel k = s.pulseChannel k := by
  rfl
@[simp] theorem mapPorts_storeRec_kept (s : State) (f : Port → PortUnit → PortUnit) (k : StoreId) :
    (s.mapPorts f).storeRec k = s.storeRec k := by
  rfl
@[simp] theorem mapPorts_boiler_kept (s : State) (f : Port → PortUnit → PortUnit) (k : BoilerId) :
    (s.mapPorts f).boiler k = s.boiler k := by
  rfl
@[simp] theorem mapPorts_input_kept (s : State) (f : Port → PortUnit → PortUnit) (k : PlantInput) :
    (s.mapPorts f).input k = s.input k := by
  cases k <;> rfl

@[simp] theorem modRatio_outlet_kept (s : State) (m : RatioId) (f : RatioChannel → RatioChannel) (k : OutletId) :
    (s.modRatio m f).outlet k = s.outlet k := by
  rfl
@[simp] theorem modRatio_channel_kept (s : State) (m : RatioId) (f : RatioChannel → RatioChannel) (k : OutletId) :
    (s.modRatio m f).channel k = s.channel k := by
  rfl
@[simp] theorem modRatio_branch_kept (s : State) (m : RatioId) (f : RatioChannel → RatioChannel) (k : BranchId) :
    (s.modRatio m f).branch k = s.branch k := by
  rfl
@[simp] theorem modRatio_port_kept (s : State) (m : RatioId) (f : RatioChannel → RatioChannel) (k : Port) :
    (s.modRatio m f).port k = s.port k := by
  rfl
@[simp] theorem modRatio_pulseChannel_kept (s : State) (m : RatioId) (f : RatioChannel → RatioChannel) (k : PulseId) :
    (s.modRatio m f).pulseChannel k = s.pulseChannel k := by
  rfl
@[simp] theorem modRatio_storeRec_kept (s : State) (m : RatioId) (f : RatioChannel → RatioChannel) (k : StoreId) :
    (s.modRatio m f).storeRec k = s.storeRec k := by
  rfl
@[simp] theorem modRatio_boiler_kept (s : State) (m : RatioId) (f : RatioChannel → RatioChannel) (k : BoilerId) :
    (s.modRatio m f).boiler k = s.boiler k := by
  rfl
@[simp] theorem modRatio_input_kept (s : State) (m : RatioId) (f : RatioChannel → RatioChannel) (k : PlantInput) :
    (s.modRatio m f).input k = s.input k := by
  cases k <;> rfl

@[simp] theorem mapRatio_outlet_kept (s : State) (f : RatioId → RatioChannel → RatioChannel) (k : OutletId) :
    (s.mapRatio f).outlet k = s.outlet k := by
  rfl
@[simp] theorem mapRatio_channel_kept (s : State) (f : RatioId → RatioChannel → RatioChannel) (k : OutletId) :
    (s.mapRatio f).channel k = s.channel k := by
  rfl
@[simp] theorem mapRatio_branch_kept (s : State) (f : RatioId → RatioChannel → RatioChannel) (k : BranchId) :
    (s.mapRatio f).branch k = s.branch k := by
  rfl
@[simp] theorem mapRatio_port_kept (s : State) (f : RatioId → RatioChannel → RatioChannel) (k : Port) :
    (s.mapRatio f).port k = s.port k := by
  rfl
@[simp] theorem mapRatio_pulseChannel_kept (s : State) (f : RatioId → RatioChannel → RatioChannel) (k : PulseId) :
    (s.mapRatio f).pulseChannel k = s.pulseChannel k := by
  rfl
@[simp] theorem mapRatio_storeRec_kept (s : State) (f : RatioId → RatioChannel → RatioChannel) (k : StoreId) :
    (s.mapRatio f).storeRec k = s.storeRec k := by
  rfl
@[simp] theorem mapRatio_boiler_kept (s : State) (f : RatioId → RatioChannel → RatioChannel) (k : BoilerId) :
    (s.mapRatio f).boiler k = s.boiler k := by
  rfl
@[simp] theorem mapRatio_input_kept (s : State) (f : RatioId → RatioChannel → RatioChannel) (k : PlantInput) :
    (s.mapRatio f).input k = s.input k := by
  cases k <;> rfl

@[simp] theorem modPulse_outlet_kept (s : State) (i : PulseId) (f : PulseChannel → PulseChannel) (k : OutletId) :
    (s.modPulse i f).outlet k = s.outlet k := by
  rfl
@[simp] theorem modPulse_channel_kept (s : State) (i : PulseId) (f : PulseChannel → PulseChannel) (k : OutletId) :
    (s.modPulse i f).channel k = s.channel k := by
  rfl
@[simp] theorem modPulse_branch_kept (s : State) (i : PulseId) (f : PulseChannel → PulseChannel) (k : BranchId) :
    (s.modPulse i f).branch k = s.branch k := by
  rfl
@[simp] theorem modPulse_port_kept (s : State) (i : PulseId) (f : PulseChannel → PulseChannel) (k : Port) :
    (s.modPulse i f).port k = s.port k := by
  rfl
@[simp] theorem modPulse_ratioChannel_kept (s : State) (i : PulseId) (f : PulseChannel → PulseChannel) (k : RatioId) :
    (s.modPulse i f).ratioChannel k = s.ratioChannel k := by
  rfl
@[simp] theorem modPulse_storeRec_kept (s : State) (i : PulseId) (f : PulseChannel → PulseChannel) (k : StoreId) :
    (s.modPulse i f).storeRec k = s.storeRec k := by
  rfl
@[simp] theorem modPulse_boiler_kept (s : State) (i : PulseId) (f : PulseChannel → PulseChannel) (k : BoilerId) :
    (s.modPulse i f).boiler k = s.boiler k := by
  rfl
@[simp] theorem modPulse_input_kept (s : State) (i : PulseId) (f : PulseChannel → PulseChannel) (k : PlantInput) :
    (s.modPulse i f).input k = s.input k := by
  cases k <;> rfl

@[simp] theorem mapPulse_outlet_kept (s : State) (f : PulseId → PulseChannel → PulseChannel) (k : OutletId) :
    (s.mapPulse f).outlet k = s.outlet k := by
  rfl
@[simp] theorem mapPulse_channel_kept (s : State) (f : PulseId → PulseChannel → PulseChannel) (k : OutletId) :
    (s.mapPulse f).channel k = s.channel k := by
  rfl
@[simp] theorem mapPulse_branch_kept (s : State) (f : PulseId → PulseChannel → PulseChannel) (k : BranchId) :
    (s.mapPulse f).branch k = s.branch k := by
  rfl
@[simp] theorem mapPulse_port_kept (s : State) (f : PulseId → PulseChannel → PulseChannel) (k : Port) :
    (s.mapPulse f).port k = s.port k := by
  rfl
@[simp] theorem mapPulse_ratioChannel_kept (s : State) (f : PulseId → PulseChannel → PulseChannel) (k : RatioId) :
    (s.mapPulse f).ratioChannel k = s.ratioChannel k := by
  rfl
@[simp] theorem mapPulse_storeRec_kept (s : State) (f : PulseId → PulseChannel → PulseChannel) (k : StoreId) :
    (s.mapPulse f).storeRec k = s.storeRec k := by
  rfl
@[simp] theorem mapPulse_boiler_kept (s : State) (f : PulseId → PulseChannel → PulseChannel) (k : BoilerId) :
    (s.mapPulse f).boiler k = s.boiler k := by
  rfl
@[simp] theorem mapPulse_input_kept (s : State) (f : PulseId → PulseChannel → PulseChannel) (k : PlantInput) :
    (s.mapPulse f).input k = s.input k := by
  cases k <;> rfl

@[simp] theorem modStore_outlet_kept (s : State) (i : StoreId) (f : Store → Store) (k : OutletId) :
    (s.modStore i f).outlet k = s.outlet k := by
  rfl
@[simp] theorem modStore_channel_kept (s : State) (i : StoreId) (f : Store → Store) (k : OutletId) :
    (s.modStore i f).channel k = s.channel k := by
  rfl
@[simp] theorem modStore_branch_kept (s : State) (i : StoreId) (f : Store → Store) (k : BranchId) :
    (s.modStore i f).branch k = s.branch k := by
  rfl
@[simp] theorem modStore_port_kept (s : State) (i : StoreId) (f : Store → Store) (k : Port) :
    (s.modStore i f).port k = s.port k := by
  rfl
@[simp] theorem modStore_ratioChannel_kept (s : State) (i : StoreId) (f : Store → Store) (k : RatioId) :
    (s.modStore i f).ratioChannel k = s.ratioChannel k := by
  rfl
@[simp] theorem modStore_pulseChannel_kept (s : State) (i : StoreId) (f : Store → Store) (k : PulseId) :
    (s.modStore i f).pulseChannel k = s.pulseChannel k := by
  rfl
@[simp] theorem modStore_boiler_kept (s : State) (i : StoreId) (f : Store → Store) (k : BoilerId) :
    (s.modStore i f).boiler k = s.boiler k := by
  rfl
@[simp] theorem modStore_input_kept (s : State) (i : StoreId) (f : Store → Store) (k : PlantInput) :
    (s.modStore i f).input k = s.input k := by
  cases k <;> rfl

@[simp] theorem mapStores_outlet_kept (s : State) (f : StoreId → Store → Store) (k : OutletId) :
    (s.mapStores f).outlet k = s.outlet k := by
  rfl
@[simp] theorem mapStores_channel_kept (s : State) (f : StoreId → Store → Store) (k : OutletId) :
    (s.mapStores f).channel k = s.channel k := by
  rfl
@[simp] theorem mapStores_branch_kept (s : State) (f : StoreId → Store → Store) (k : BranchId) :
    (s.mapStores f).branch k = s.branch k := by
  rfl
@[simp] theorem mapStores_port_kept (s : State) (f : StoreId → Store → Store) (k : Port) :
    (s.mapStores f).port k = s.port k := by
  rfl
@[simp] theorem mapStores_ratioChannel_kept (s : State) (f : StoreId → Store → Store) (k : RatioId) :
    (s.mapStores f).ratioChannel k = s.ratioChannel k := by
  rfl
@[simp] theorem mapStores_pulseChannel_kept (s : State) (f : StoreId → Store → Store) (k : PulseId) :
    (s.mapStores f).pulseChannel k = s.pulseChannel k := by
  rfl
@[simp] theorem mapStores_boiler_kept (s : State) (f : StoreId → Store → Store) (k : BoilerId) :
    (s.mapStores f).boiler k = s.boiler k := by
  rfl
@[simp] theorem mapStores_input_kept (s : State) (f : StoreId → Store → Store) (k : PlantInput) :
    (s.mapStores f).input k = s.input k := by
  cases k <;> rfl

@[simp] theorem modBoiler_outlet_kept (s : State) (b : BoilerId) (f : Boiler → Boiler) (k : OutletId) :
    (s.modBoiler b f).outlet k = s.outlet k := by
  rfl
@[simp] theorem modBoiler_channel_kept (s : State) (b : BoilerId) (f : Boiler → Boiler) (k : OutletId) :
    (s.modBoiler b f).channel k = s.channel k := by
  rfl
@[simp] theorem modBoiler_branch_kept (s : State) (b : BoilerId) (f : Boiler → Boiler) (k : BranchId) :
    (s.modBoiler b f).branch k = s.branch k := by
  rfl
@[simp] theorem modBoiler_port_kept (s : State) (b : BoilerId) (f : Boiler → Boiler) (k : Port) :
    (s.modBoiler b f).port k = s.port k := by
  rfl
@[simp] theorem modBoiler_ratioChannel_kept (s : State) (b : BoilerId) (f : Boiler → Boiler) (k : RatioId) :
    (s.modBoiler b f).ratioChannel k = s.ratioChannel k := by
  rfl
@[simp] theorem modBoiler_pulseChannel_kept (s : State) (b : BoilerId) (f : Boiler → Boiler) (k : PulseId) :
    (s.modBoiler b f).pulseChannel k = s.pulseChannel k := by
  rfl
@[simp] theorem modBoiler_storeRec_kept (s : State) (b : BoilerId) (f : Boiler → Boiler) (k : StoreId) :
    (s.modBoiler b f).storeRec k = s.storeRec k := by
  rfl
@[simp] theorem modBoiler_input_kept (s : State) (b : BoilerId) (f : Boiler → Boiler) (k : PlantInput) :
    (s.modBoiler b f).input k = s.input k := by
  cases k <;> rfl

@[simp] theorem modArbiter_outlet_kept (s : State) (f : Arbiter → Arbiter) (k : OutletId) :
    (s.modArbiter f).outlet k = s.outlet k := by
  rfl
@[simp] theorem modArbiter_channel_kept (s : State) (f : Arbiter → Arbiter) (k : OutletId) :
    (s.modArbiter f).channel k = s.channel k := by
  rfl
@[simp] theorem modArbiter_branch_kept (s : State) (f : Arbiter → Arbiter) (k : BranchId) :
    (s.modArbiter f).branch k = s.branch k := by
  rfl
@[simp] theorem modArbiter_port_kept (s : State) (f : Arbiter → Arbiter) (k : Port) :
    (s.modArbiter f).port k = s.port k := by
  rfl
@[simp] theorem modArbiter_ratioChannel_kept (s : State) (f : Arbiter → Arbiter) (k : RatioId) :
    (s.modArbiter f).ratioChannel k = s.ratioChannel k := by
  rfl
@[simp] theorem modArbiter_pulseChannel_kept (s : State) (f : Arbiter → Arbiter) (k : PulseId) :
    (s.modArbiter f).pulseChannel k = s.pulseChannel k := by
  rfl
@[simp] theorem modArbiter_storeRec_kept (s : State) (f : Arbiter → Arbiter) (k : StoreId) :
    (s.modArbiter f).storeRec k = s.storeRec k := by
  rfl
@[simp] theorem modArbiter_boiler_kept (s : State) (f : Arbiter → Arbiter) (k : BoilerId) :
    (s.modArbiter f).boiler k = s.boiler k := by
  rfl
@[simp] theorem modArbiter_input_kept (s : State) (f : Arbiter → Arbiter) (k : PlantInput) :
    (s.modArbiter f).input k = s.input k := by
  cases k <;> rfl

@[simp] theorem modEngine_outlet_kept (s : State) (f : EngineControl → EngineControl) (k : OutletId) :
    (s.modEngine f).outlet k = s.outlet k := by
  rfl
@[simp] theorem modEngine_channel_kept (s : State) (f : EngineControl → EngineControl) (k : OutletId) :
    (s.modEngine f).channel k = s.channel k := by
  rfl
@[simp] theorem modEngine_branch_kept (s : State) (f : EngineControl → EngineControl) (k : BranchId) :
    (s.modEngine f).branch k = s.branch k := by
  rfl
@[simp] theorem modEngine_port_kept (s : State) (f : EngineControl → EngineControl) (k : Port) :
    (s.modEngine f).port k = s.port k := by
  rfl
@[simp] theorem modEngine_ratioChannel_kept (s : State) (f : EngineControl → EngineControl) (k : RatioId) :
    (s.modEngine f).ratioChannel k = s.ratioChannel k := by
  rfl
@[simp] theorem modEngine_pulseChannel_kept (s : State) (f : EngineControl → EngineControl) (k : PulseId) :
    (s.modEngine f).pulseChannel k = s.pulseChannel k := by
  rfl
@[simp] theorem modEngine_storeRec_kept (s : State) (f : EngineControl → EngineControl) (k : StoreId) :
    (s.modEngine f).storeRec k = s.storeRec k := by
  rfl
@[simp] theorem modEngine_boiler_kept (s : State) (f : EngineControl → EngineControl) (k : BoilerId) :
    (s.modEngine f).boiler k = s.boiler k := by
  rfl
@[simp] theorem modEngine_input_kept (s : State) (f : EngineControl → EngineControl) (k : PlantInput) :
    (s.modEngine f).input k = s.input k := by
  cases k <;> rfl

@[simp] theorem modEntry_outlet_kept (s : State) (n : OutletId) (f : BurstEntry → BurstEntry) (k : OutletId) :
    (s.modEntry n f).outlet k = s.outlet k := by
  rfl
@[simp] theorem modEntry_channel_kept (s : State) (n : OutletId) (f : BurstEntry → BurstEntry) (k : OutletId) :
    (s.modEntry n f).channel k = s.channel k := by
  rfl
@[simp] theorem modEntry_branch_kept (s : State) (n : OutletId) (f : BurstEntry → BurstEntry) (k : BranchId) :
    (s.modEntry n f).branch k = s.branch k := by
  rfl
@[simp] theorem modEntry_port_kept (s : State) (n : OutletId) (f : BurstEntry → BurstEntry) (k : Port) :
    (s.modEntry n f).port k = s.port k := by
  rfl
@[simp] theorem modEntry_ratioChannel_kept (s : State) (n : OutletId) (f : BurstEntry → BurstEntry) (k : RatioId) :
    (s.modEntry n f).ratioChannel k = s.ratioChannel k := by
  rfl
@[simp] theorem modEntry_pulseChannel_kept (s : State) (n : OutletId) (f : BurstEntry → BurstEntry) (k : PulseId) :
    (s.modEntry n f).pulseChannel k = s.pulseChannel k := by
  rfl
@[simp] theorem modEntry_storeRec_kept (s : State) (n : OutletId) (f : BurstEntry → BurstEntry) (k : StoreId) :
    (s.modEntry n f).storeRec k = s.storeRec k := by
  rfl
@[simp] theorem modEntry_boiler_kept (s : State) (n : OutletId) (f : BurstEntry → BurstEntry) (k : BoilerId) :
    (s.modEntry n f).boiler k = s.boiler k := by
  rfl
@[simp] theorem modEntry_input_kept (s : State) (n : OutletId) (f : BurstEntry → BurstEntry) (k : PlantInput) :
    (s.modEntry n f).input k = s.input k := by
  cases k <;> rfl

@[simp] theorem postTo_outlet_kept (s : State) (p : Port) (e : Event) (k : OutletId) :
    (s.postTo p e).outlet k = s.outlet k := by
  rfl
@[simp] theorem postTo_channel_kept (s : State) (p : Port) (e : Event) (k : OutletId) :
    (s.postTo p e).channel k = s.channel k := by
  rfl
@[simp] theorem postTo_branch_kept (s : State) (p : Port) (e : Event) (k : BranchId) :
    (s.postTo p e).branch k = s.branch k := by
  rfl
@[simp] theorem postTo_ratioChannel_kept (s : State) (p : Port) (e : Event) (k : RatioId) :
    (s.postTo p e).ratioChannel k = s.ratioChannel k := by
  rfl
@[simp] theorem postTo_pulseChannel_kept (s : State) (p : Port) (e : Event) (k : PulseId) :
    (s.postTo p e).pulseChannel k = s.pulseChannel k := by
  rfl
@[simp] theorem postTo_storeRec_kept (s : State) (p : Port) (e : Event) (k : StoreId) :
    (s.postTo p e).storeRec k = s.storeRec k := by
  rfl
@[simp] theorem postTo_boiler_kept (s : State) (p : Port) (e : Event) (k : BoilerId) :
    (s.postTo p e).boiler k = s.boiler k := by
  rfl
@[simp] theorem postTo_input_kept (s : State) (p : Port) (e : Event) (k : PlantInput) :
    (s.postTo p e).input k = s.input k := by
  cases k <;> rfl

@[simp] theorem postAll_outlet_kept (s : State) (e : Event) (k : OutletId) :
    (s.postAll e).outlet k = s.outlet k := by
  rfl
@[simp] theorem postAll_channel_kept (s : State) (e : Event) (k : OutletId) :
    (s.postAll e).channel k = s.channel k := by
  rfl
@[simp] theorem postAll_branch_kept (s : State) (e : Event) (k : BranchId) :
    (s.postAll e).branch k = s.branch k := by
  rfl
@[simp] theorem postAll_ratioChannel_kept (s : State) (e : Event) (k : RatioId) :
    (s.postAll e).ratioChannel k = s.ratioChannel k := by
  rfl
@[simp] theorem postAll_pulseChannel_kept (s : State) (e : Event) (k : PulseId) :
    (s.postAll e).pulseChannel k = s.pulseChannel k := by
  rfl
@[simp] theorem postAll_storeRec_kept (s : State) (e : Event) (k : StoreId) :
    (s.postAll e).storeRec k = s.storeRec k := by
  rfl
@[simp] theorem postAll_boiler_kept (s : State) (e : Event) (k : BoilerId) :
    (s.postAll e).boiler k = s.boiler k := by
  rfl
@[simp] theorem postAll_input_kept (s : State) (e : Event) (k : PlantInput) :
    (s.postAll e).input k = s.input k := by
  cases k <;> rfl

@[simp] theorem postOutlet_outlet_kept (s : State) (n : OutletId) (e : Event) (k : OutletId) :
    (s.postOutlet n e).outlet k = s.outlet k := by
  rfl
@[simp] theorem postOutlet_channel_kept (s : State) (n : OutletId) (e : Event) (k : OutletId) :
    (s.postOutlet n e).channel k = s.channel k := by
  rfl
@[simp] theorem postOutlet_branch_kept (s : State) (n : OutletId) (e : Event) (k : BranchId) :
    (s.postOutlet n e).branch k = s.branch k := by
  rfl
@[simp] theorem postOutlet_ratioChannel_kept (s : State) (n : OutletId) (e : Event) (k : RatioId) :
    (s.postOutlet n e).ratioChannel k = s.ratioChannel k := by
  rfl
@[simp] theorem postOutlet_pulseChannel_kept (s : State) (n : OutletId) (e : Event) (k : PulseId) :
    (s.postOutlet n e).pulseChannel k = s.pulseChannel k := by
  rfl
@[simp] theorem postOutlet_storeRec_kept (s : State) (n : OutletId) (e : Event) (k : StoreId) :
    (s.postOutlet n e).storeRec k = s.storeRec k := by
  rfl
@[simp] theorem postOutlet_boiler_kept (s : State) (n : OutletId) (e : Event) (k : BoilerId) :
    (s.postOutlet n e).boiler k = s.boiler k := by
  rfl
@[simp] theorem postOutlet_input_kept (s : State) (n : OutletId) (e : Event) (k : PlantInput) :
    (s.postOutlet n e).input k = s.input k := by
  cases k <;> rfl

@[simp] theorem setGrant_branch_kept (s : State) (n : OutletId) (g : Nat) (k : BranchId) :
    (s.setGrant n g).branch k = s.branch k := by
  rfl
@[simp] theorem setGrant_port_kept (s : State) (n : OutletId) (g : Nat) (k : Port) :
    (s.setGrant n g).port k = s.port k := by
  rfl
@[simp] theorem setGrant_ratioChannel_kept (s : State) (n : OutletId) (g : Nat) (k : RatioId) :
    (s.setGrant n g).ratioChannel k = s.ratioChannel k := by
  rfl
@[simp] theorem setGrant_pulseChannel_kept (s : State) (n : OutletId) (g : Nat) (k : PulseId) :
    (s.setGrant n g).pulseChannel k = s.pulseChannel k := by
  rfl
@[simp] theorem setGrant_storeRec_kept (s : State) (n : OutletId) (g : Nat) (k : StoreId) :
    (s.setGrant n g).storeRec k = s.storeRec k := by
  rfl
@[simp] theorem setGrant_boiler_kept (s : State) (n : OutletId) (g : Nat) (k : BoilerId) :
    (s.setGrant n g).boiler k = s.boiler k := by
  rfl
@[simp] theorem setGrant_input_kept (s : State) (n : OutletId) (g : Nat) (k : PlantInput) :
    (s.setGrant n g).input k = s.input k := by
  cases k <;> rfl

end Sys2Proof.Machine.State
end

