-- ==== Sys2Proof/Laws/Bursts.lean ====
section
/-! SUPPORT. The grants and the burst list: what setting or lowering a grant and removing an entry do, and what they leave. -/

namespace Sys2Proof.Machine.State

/-! ## Setting and lowering a grant (R10) -/

@[simp] theorem setGrant_outlet (s : State) (n : OutletId) (g : Nat) :
    (s.setGrant n g).outlet n = { s.outlet n with grant := g } := by
  simp [setGrant]

@[simp] theorem setGrant_channel (s : State) (n : OutletId) (g : Nat) :
    (s.setGrant n g).channel n = { s.channel n with grant := g } := by
  simp [setGrant]

theorem setGrant_outlet_ne (s : State) (n m : OutletId) (g : Nat) (h : m ≠ n) :
    (s.setGrant n g).outlet m = s.outlet m := by
  simp [setGrant, modOutlet_outlet, h]

theorem setGrant_channel_ne (s : State) (n m : OutletId) (g : Nat) (h : m ≠ n) :
    (s.setGrant n g).channel m = s.channel m := by
  simp [setGrant, modChannel_channel, h]

/-- Setting a grant changes outlet records and drive channels alone. -/
theorem setGrant_frame (s : State) (n : OutletId) (g : Nat) :
    s.setGrant n g = { s with outlets := (s.setGrant n g).outlets, channels := (s.setGrant n g).channels } := rfl

/-- Lowering a grant to the effective demand changes outlet records and drive channels alone. -/
theorem enforceEffective_frame (s : State) (n : OutletId) :
    s.enforceEffective n =
      { s with outlets := (s.enforceEffective n).outlets, channels := (s.enforceEffective n).channels } := by
  unfold enforceEffective
  split <;> rfl

/-- The grant after it has been lowered is the lesser of itself and the effective demand. -/
theorem enforceEffective_grant (s : State) (n : OutletId) :
    ((s.enforceEffective n).outlet n).grant = min (s.outlet n).grant (s.effectiveDemand n) := by
  unfold enforceEffective
  split
  · simp only [setGrant_outlet]; omega
  · omega

/-- Lowering a grant writes nothing but the grant of that outlet's record. -/
theorem enforceEffective_outlet (s : State) (n : OutletId) :
    (s.enforceEffective n).outlet n =
      { s.outlet n with grant := min (s.outlet n).grant (s.effectiveDemand n) } := by
  unfold enforceEffective
  split
  · rename_i h
    rw [setGrant_outlet, Nat.min_eq_right h.le]
  · rename_i h
    rw [Nat.min_eq_left (not_lt.mp h)]

theorem enforceEffective_outlet_ne (s : State) (n m : OutletId) (h : m ≠ n) :
    (s.enforceEffective n).outlet m = s.outlet m := by
  unfold enforceEffective
  split
  · exact setGrant_outlet_ne s n m _ h
  · rfl

theorem enforceEffective_channel_ne (s : State) (n m : OutletId) (h : m ≠ n) :
    (s.enforceEffective n).channel m = s.channel m := by
  unfold enforceEffective
  split
  · exact setGrant_channel_ne s n m _ h
  · rfl

/-- A channel is handed a lowered grant and keeps everything else. -/
theorem enforceEffective_channel (s : State) (n : OutletId) :
    (s.enforceEffective n).channel n =
      if s.effectiveDemand n < (s.outlet n).grant then { s.channel n with grant := s.effectiveDemand n }
      else s.channel n := by
  unfold enforceEffective
  split <;> simp

/-! ## Dropping an entry from the list (R100, R107) -/

@[simp] theorem closeRank_outlet (r : Nat) (e : BurstEntry) : (closeRank r e).outlet = e.outlet := by
  unfold closeRank
  split
  · split <;> rfl
  · rfl

@[simp] theorem closeRank_requester (r : Nat) (e : BurstEntry) : (closeRank r e).requester = e.requester := by
  unfold closeRank
  split
  · split <;> rfl
  · rfl

@[simp] theorem closeRank_amount (r : Nat) (e : BurstEntry) : (closeRank r e).amount = e.amount := by
  unfold closeRank
  split
  · split <;> rfl
  · rfl

/-- The outlets of the list without an entry's outlet, in their order. -/
theorem dropEntry_outlets (l : List BurstEntry) (e : BurstEntry) :
    (dropEntry l e).map BurstEntry.outlet =
      (l.map BurstEntry.outlet).filter fun m => decide (m ≠ e.outlet) := by
  have : ∀ l : List BurstEntry, (l.filter fun x => decide (x.outlet ≠ e.outlet)).map BurstEntry.outlet =
      (l.map BurstEntry.outlet).filter fun m => decide (m ≠ e.outlet) := by
    intro l
    rw [List.filter_map]
    rfl
  unfold dropEntry
  split
  · simp only [List.map_map]
    rw [← this]
    congr 1
    funext x
    simp
  · exact this l

theorem dropEntry_length_le (l : List BurstEntry) (e : BurstEntry) : (dropEntry l e).length ≤ l.length := by
  have h := List.length_filter_le (fun m => decide (m ≠ e.outlet)) (l.map BurstEntry.outlet)
  rw [← dropEntry_outlets] at h
  simpa using h

/-- Every entry left over is, up to its clearance order, an entry that was there for another outlet. -/
theorem mem_dropEntry (l : List BurstEntry) (e x : BurstEntry) (h : x ∈ dropEntry l e) :
    ∃ y ∈ l, y.outlet ≠ e.outlet ∧ x.outlet = y.outlet ∧ x.requester = y.requester ∧ x.amount = y.amount := by
  unfold dropEntry at h
  split at h
  · obtain ⟨y, hy, rfl⟩ := List.mem_map.mp h
    obtain ⟨h1, h2⟩ := List.mem_filter.mp hy
    exact ⟨y, h1, by simpa using h2, by simp, by simp, by simp⟩
  · obtain ⟨h1, h2⟩ := List.mem_filter.mp h
    exact ⟨x, h1, by simpa using h2, rfl, rfl, rfl⟩

/-- No entry is left for the outlet of a dropped one. -/
theorem find_dropEntry (l : List BurstEntry) (e : BurstEntry) :
    (dropEntry l e).find? (fun x => decide (x.outlet = e.outlet)) = none := by
  rw [List.find?_eq_none]
  intro x hx
  obtain ⟨y, -, h, hxy, -⟩ := mem_dropEntry l e x hx
  simp [hxy, h]

theorem entryOf_outlet {s : State} {n : OutletId} {e : BurstEntry} (h : s.entryOf n = some e) : e.outlet = n := by
  have := List.find?_some h
  simpa using this

/-! ## Removing an entry (R107) -/

theorem removeEntry_none (s : State) (n : OutletId) (f : BurstEntry → Event) (h : s.entryOf n = none) :
    s.removeEntry n f = s := by
  simp [removeEntry, h]

/-- A removal changes outlet records, drive channels, port flags and the list alone. -/
theorem removeEntry_frame (s : State) (n : OutletId) (f : BurstEntry → Event) :
    s.removeEntry n f =
      { s with
        outlets := (s.removeEntry n f).outlets, channels := (s.removeEntry n f).channels,
        bursts := (s.removeEntry n f).bursts, ports := (s.removeEntry n f).ports } := by
  unfold removeEntry
  split
  · rfl
  · dsimp only
    split
    · simp only [postTo]
      rw [enforceEffective_frame]
      rfl
    · rfl

/-- The list after a removal. -/
theorem removeEntry_bursts (s : State) (n : OutletId) (f : BurstEntry → Event) (e : BurstEntry)
    (h : s.entryOf n = some e) : (s.removeEntry n f).bursts = dropEntry s.bursts e := by
  simp only [removeEntry, h]
  split
  · simp only [postTo]
    rw [enforceEffective_frame]
    rfl
  · rfl

/-- The outlets of the list after a removal, whether there was an entry or not. -/
theorem removeEntry_outlets (s : State) (n : OutletId) (f : BurstEntry → Event) :
    (s.removeEntry n f).bursts.map BurstEntry.outlet =
      (s.bursts.map BurstEntry.outlet).filter fun m => decide (m ≠ n) := by
  cases h : s.entryOf n with
  | some e => rw [removeEntry_bursts s n f e h, dropEntry_outlets, entryOf_outlet h]
  | none =>
    rw [removeEntry_none s n f h, eq_comm, List.filter_eq_self]
    intro m hm
    obtain ⟨x, hx, rfl⟩ := List.mem_map.mp hm
    have := List.find?_eq_none.mp h x hx
    simpa using this

/-- A removal touches the record and the channel of its outlet alone. -/
theorem removeEntry_others (s : State) (n m : OutletId) (f : BurstEntry → Event) (hm : m ≠ n) :
    (s.removeEntry n f).outlet m = s.outlet m ∧ (s.removeEntry n f).channel m = s.channel m := by
  unfold removeEntry
  split
  · exact ⟨rfl, rfl⟩
  · dsimp only
    split
    · constructor
      · change (State.enforceEffective _ n).outlet m = _
        rw [enforceEffective_outlet_ne _ n m hm]
        simp [modOutlet_outlet, hm]
        rfl
      · change (State.enforceEffective _ n).channel m = _
        rw [enforceEffective_channel_ne _ n m hm]
        rfl
    · constructor
      · simp only [postTo, modPort_outlet_kept, modOutlet_outlet, hm, if_false]
        rfl
      · rfl

/-- The list keeps its length and has no outlet twice after a removal. -/
theorem removeEntry_lawful (s : State) (n : OutletId) (f : BurstEntry → Event)
    (h : s.bursts.length ≤ 8 ∧ (s.bursts.map BurstEntry.outlet).Nodup) :
    (s.removeEntry n f).bursts.length ≤ 8 ∧ ((s.removeEntry n f).bursts.map BurstEntry.outlet).Nodup := by
  rw [removeEntry_outlets]
  refine ⟨?_, h.2.filter _⟩
  have e := congrArg List.length (removeEntry_outlets s n f)
  have l := List.length_filter_le (fun m => decide (m ≠ n)) (s.bursts.map BurstEntry.outlet)
  rw [List.length_map] at e
  rw [List.length_map] at l
  exact e ▸ le_trans l h.1

end Sys2Proof.Machine.State
end

