-- ==== Sys2Proof/Laws/Table.lean ====
section
/-! SUPPORT. Going over all outlets, ports or entries, the holder of the table, and the burst list under every write that waits for the table. -/

namespace Sys2Proof.Machine.State

/-! ## Going over outlets, ports and entries -/

/-- What every outlet's operation keeps, going over all of them keeps. -/
theorem forOutlets_induct (P : State → Prop) (f : OutletId → State → State) (s : State) (hs : P s)
    (h : ∀ n t, P t → P (f n t)) : P (s.forOutlets f) := by
  unfold forOutlets
  generalize List.finRange 24 = l
  induction l generalizing s with
  | nil => exact hs
  | cons n l ih => exact ih (f n s) (h n s hs)

/-- What every port's operation keeps, going over all of them keeps. -/
theorem forPorts_induct (P : State → Prop) (f : Port → State → State) (s : State) (hs : P s)
    (h : ∀ p t, P t → P (f p t)) : P (s.forPorts f) := by
  unfold forPorts
  generalize List.finRange 3 = l
  induction l generalizing s with
  | nil => exact hs
  | cons p l ih => exact ih (f p s) (h p s hs)

/-- What the removal of any entry keeps, revoking entries keeps. -/
theorem revokeWhere_induct (P : State → Prop) (s : State) (pick : BurstEntry → Bool) (c : BurstCause) (hs : P s)
    (h : ∀ n t, P t → P (t.removeEntry n (revoked c))) : P (s.revokeWhere pick c) := by
  unfold revokeWhere
  generalize s.bursts.filter pick = l
  induction l generalizing s with
  | nil => exact hs
  | cons e l ih => exact ih (s.removeEntry e.outlet (revoked c)) (h e.outlet s hs)

/-- A value that every outlet's operation leaves alone is left alone by all of them. -/
theorem forOutlets_kept {α : Type} (g : State → α) (f : OutletId → State → State) (s : State)
    (h : ∀ n t, g (f n t) = g t) : g (s.forOutlets f) = g s :=
  forOutlets_induct (fun t => g t = g s) f s rfl fun n t ht => (h n t).trans ht

theorem forPorts_kept {α : Type} (g : State → α) (f : Port → State → State) (s : State)
    (h : ∀ p t, g (f p t) = g t) : g (s.forPorts f) = g s :=
  forPorts_induct (fun t => g t = g s) f s rfl fun p t ht => (h p t).trans ht

theorem revokeWhere_kept {α : Type} (g : State → α) (s : State) (pick : BurstEntry → Bool) (c : BurstCause)
    (h : ∀ n t, g (State.removeEntry t n (revoked c)) = g t) : g (s.revokeWhere pick c) = g s :=
  revokeWhere_induct (fun t => g t = g s) s pick c rfl fun n t ht => (h n t).trans ht

/-! ## The outlets of the list after revocations -/

/-- After the entries of some outlets have been removed in turn, none of them is in the list. -/
theorem foldl_removeEntry_outlets (l : List BurstEntry) (c : BurstCause) (s : State) :
    (l.foldl (fun t e => t.removeEntry e.outlet (revoked c)) s).bursts.map BurstEntry.outlet =
      (s.bursts.map BurstEntry.outlet).filter fun m => decide (m ∉ l.map BurstEntry.outlet) := by
  induction l generalizing s with
  | nil => simp
  | cons e l ih =>
    rw [List.foldl_cons, ih, removeEntry_outlets, List.filter_filter]
    congr 1
    funext m
    simp [not_or, Bool.and_comm]

/-- Emptying the list leaves no entry and no pending removal. -/
theorem emptyBursts_empty (s : State) : s.emptyBursts.bursts = [] ∧ s.emptyBursts.arbiter.removals = [] := by
  refine ⟨?_, rfl⟩
  have h := foldl_removeEntry_outlets (s.bursts.filter fun _ => true) .reset s
  have e : s.emptyBursts.bursts.map BurstEntry.outlet = [] := by
    rw [show s.emptyBursts.bursts =
      ((s.bursts.filter fun _ => true).foldl (fun t e => t.removeEntry e.outlet (revoked .reset)) s).bursts from rfl, h]
    rw [List.filter_eq_nil_iff]
    intro m hm
    simpa using hm
  exact List.map_eq_nil_iff.mp e

/-! ## The burst list keeps its laws under every write (BurstsKept) -/

theorem burstsKept_of_eq {s t : State} (h : t.bursts = s.bursts) (hs : s.BurstsKept) : t.BurstsKept := by
  unfold BurstsKept at *
  rw [h]
  exact hs

theorem removeEntry_burstsKept (s : State) (n : OutletId) (f : BurstEntry → Event) (h : s.BurstsKept) :
    (s.removeEntry n f).BurstsKept := removeEntry_lawful s n f h

theorem revokeWhere_burstsKept (s : State) (pick : BurstEntry → Bool) (c : BurstCause) (h : s.BurstsKept) :
    (s.revokeWhere pick c).BurstsKept :=
  revokeWhere_induct BurstsKept s pick c h fun n t ht => removeEntry_burstsKept t n _ ht

theorem modEntry_burstsKept (s : State) (n : OutletId) (f : BurstEntry → BurstEntry)
    (hf : ∀ e, (f e).outlet = e.outlet) (h : s.BurstsKept) : (s.modEntry n f).BurstsKept := by
  have e : (s.modEntry n f).bursts.map BurstEntry.outlet = s.bursts.map BurstEntry.outlet := by
    simp only [modEntry, List.map_map]
    congr 1
    funext x
    simp only [Function.comp_apply]
    split
    · exact hf x
    · rfl
  refine ⟨?_, e ▸ h.2⟩
  simpa [modEntry] using h.1

theorem enforceEffective_burstsKept (s : State) (n : OutletId) (h : s.BurstsKept) :
    (s.enforceEffective n).BurstsKept :=
  burstsKept_of_eq (by rw [enforceEffective_frame]) h

theorem emptyBursts_burstsKept (s : State) : s.emptyBursts.BurstsKept := by
  unfold BurstsKept
  rw [s.emptyBursts_empty.1]
  exact ⟨by decide, by simp⟩

theorem applyRemoval_burstsKept (s : State) (n : OutletId) (k : RemovalKind) (h : s.BurstsKept) :
    (s.applyRemoval n k).BurstsKept := by
  unfold applyRemoval
  split
  · split
    · exact removeEntry_burstsKept s n _ h
    · exact h
  · split
    · exact h
    · exact removeEntry_burstsKept s n _ h
  · exact h

theorem writeAbsent_burstsKept (s : State) (n : OutletId) (h : s.BurstsKept) : (s.writeAbsent n).BurstsKept := by
  unfold writeAbsent
  dsimp only
  split
  · refine burstsKept_of_eq rfl (removeEntry_burstsKept _ n _ ?_)
    exact burstsKept_of_eq (s := s) (by simp only [modChannel_bursts, modOutlet_bursts]) h
  · exact burstsKept_of_eq (s := s) (by simp only [modChannel_bursts]) h

theorem writeSenseEnd_bursts (s : State) (n : OutletId) : (s.writeSenseEnd n).bursts = s.bursts := by
  unfold writeSenseEnd
  dsimp only
  split <;> rfl

theorem writeRemoval_burstsKept (s : State) (n : OutletId) (h : s.BurstsKept) : (s.writeRemoval n).BurstsKept := by
  unfold writeRemoval
  split
  · exact applyRemoval_burstsKept _ n _ (burstsKept_of_eq (s := s) rfl h)
  · exact h

theorem writeLapse_burstsKept (s : State) (p : Port) (h : s.BurstsKept) : (s.writeLapse p).BurstsKept := by
  unfold writeLapse
  dsimp only
  refine burstsKept_of_eq (modPort_bursts _ _ _) (revokeWhere_burstsKept _ _ _ ?_)
  refine forOutlets_induct BurstsKept _ s h fun n t ht => ?_
  split
  · exact enforceEffective_burstsKept _ n (burstsKept_of_eq (modOutlet_bursts t n lapseDemand) ht)
  · exact ht

theorem writeEngine_burstsKept (s : State) (w : EngineWrite) (h : s.BurstsKept) : (s.writeEngine w).BurstsKept := by
  cases w
  · exact burstsKept_of_eq (s := s) rfl h
  · exact burstsKept_of_eq (s := s) rfl h
  · exact emptyBursts_burstsKept _

theorem raiseAbsent_burstsKept (s : State) (n : OutletId) (h : s.BurstsKept) : (s.raiseAbsent n).BurstsKept := by
  unfold raiseAbsent
  dsimp only
  split
  · exact writeAbsent_burstsKept _ n (burstsKept_of_eq (s := s) rfl h)
  · exact burstsKept_of_eq (s := s) rfl h

theorem raiseRemoval_burstsKept (s : State) (n : OutletId) (k : RemovalKind) (h : s.BurstsKept) :
    (s.raiseRemoval n k).BurstsKept := by
  unfold raiseRemoval
  split
  · exact applyRemoval_burstsKept s n k h
  · split
    · exact h
    · exact burstsKept_of_eq (s := s) rfl h

theorem raiseLapse_burstsKept (s : State) (p : Port) (h : s.BurstsKept) : (s.raiseLapse p).BurstsKept := by
  unfold raiseLapse
  dsimp only
  split
  · exact writeLapse_burstsKept _ p (burstsKept_of_eq (s := s) rfl h)
  · exact burstsKept_of_eq (s := s) rfl h

theorem raiseEngineWrite_burstsKept (s : State) (w : EngineWrite) (h : s.BurstsKept) :
    (s.raiseEngineWrite w).BurstsKept := by
  unfold raiseEngineWrite
  split
  · exact writeEngine_burstsKept s w h
  · exact burstsKept_of_eq (s := s) rfl h

/-! ## The holder of the table -/

@[simp] theorem hold_arbiter (s : State) (r : Requester) :
    (s.hold r).arbiter = { s.arbiter with holder := some r, lastHolder := r } := rfl

@[simp] theorem release_arbiter (s : State) : s.release.arbiter = { s.arbiter with holder := none } := rfl

/-- Holding the table changes the arbiter alone. -/
theorem hold_frame (s : State) (r : Requester) : s.hold r = { s with arbiter := (s.hold r).arbiter } := rfl

/-- At a release by a port nobody holds the table afterwards. -/
theorem releasePort_holder (s : State) (h : s.atRelease = true) :
    s.releasePort.arbiter = { s.arbiter with holder := none } := by
  simp [releasePort, h]
  rfl

/-- The end of a port's hold changes the holder alone. -/
theorem releasePort_frame (s : State) : s.releasePort = { s with arbiter := s.releasePort.arbiter } := by
  unfold releasePort
  split <;> rfl

/-- Whether the table is free does not depend on the grants, the pools or the measurement. -/
theorem tableFree_holder {s : State} (h : s.tableFree = true) : s.arbiter.holder = none := by
  simp only [tableFree, Bool.and_eq_true, decide_eq_true_eq] at h
  exact h.1.1

/-! ## Drive grants and held frames -/

/-- Making the drive grants 0 changes the drive channels alone, and of them the grants. -/
theorem zeroDriveGrants_frame (s : State) :
    s.zeroDriveGrants = { s with channels := tabulate fun n => { s.channels[n] with grant := 0 } } := rfl

/-- From the start of a TABLE RESET's load no channel has a drive grant (R136). -/
theorem startTableLoad_grant (s : State) (n : OutletId) : ((s.startTableLoad).channel n).grant = 0 := by
  simp [startTableLoad, zeroDriveGrants_frame, dropLapses, channel, mapPorts, modArbiter, modEngine, tabulate]

/-- A port that holds no frame has none to be taken. -/
theorem takeHeldOf_none (s : State) (p : Port) (h : ∀ code pl, (s.port p).outstanding ≠ some (.held code pl)) :
    s.takeHeldOf p = s := by
  unfold takeHeldOf
  split
  · exact absurd ‹_› (h _ _)
  · rfl
  · rfl
  · rfl

/-- A frame held for a lapse that is still pending stays held. -/
theorem takeHeldOf_lapsing (s : State) (p : Port) (h : (s.port p).link = .lapsing) : s.takeHeldOf p = s := by
  unfold takeHeldOf
  split <;> simp [h]

end Sys2Proof.Machine.State
end

