-- ==== Sys2Proof/Laws/Drive.lean ====
section
/-! SUPPORT. The drive channels and branches: every operation of the Drive Unit changes channels and branches alone. -/

namespace Sys2Proof.Machine.State

/-- Two states that differ in their drive channels and branches alone. -/
def DriveOnly (s t : State) : Prop := t = { s with channels := t.channels, branches := t.branches }

theorem DriveOnly.refl (s : State) : DriveOnly s s := rfl

theorem DriveOnly.trans {s t u : State} (h : DriveOnly s t) (k : DriveOnly t u) : DriveOnly s u := by
  unfold DriveOnly at *
  rw [k, h]

theorem modChannel_driveOnly (s : State) (n : OutletId) (f : Channel → Channel) : DriveOnly s (s.modChannel n f) := rfl

theorem modBranch_driveOnly (s : State) (b : BranchId) (f : Branch → Branch) : DriveOnly s (s.modBranch b f) := rfl

theorem mapBranches_driveOnly (s : State) (f : BranchId → Branch → Branch) : DriveOnly s (s.mapBranches f) := rfl

theorem restartSettle_driveOnly (s : State) (b : Option BranchId) : DriveOnly s (s.restartSettle b) := by
  cases b <;> rfl

theorem leaveQueues_driveOnly (s : State) (n : OutletId) : DriveOnly s (s.leaveQueues n) := rfl

theorem startNow_driveOnly (s : State) (n : OutletId) : DriveOnly s (s.startNow n) :=
  (modChannel_driveOnly s n _).trans (restartSettle_driveOnly _ _)

theorem turnOffNow_driveOnly (s : State) (n : OutletId) : DriveOnly s (s.turnOffNow n) := by
  unfold turnOffNow
  dsimp only
  split
  · exact (modChannel_driveOnly s n _).trans (leaveQueues_driveOnly _ n)
  · exact ((modChannel_driveOnly s n _).trans (leaveQueues_driveOnly _ n)).trans (restartSettle_driveOnly _ _)

theorem boundaryOff_driveOnly (s : State) (n : OutletId) : DriveOnly s (s.boundaryOff n) := by
  unfold boundaryOff
  dsimp only
  split
  · split
    · split
      · exact (modChannel_driveOnly s n _).trans (modBranch_driveOnly _ _ _)
      · exact startNow_driveOnly s n
    · exact startNow_driveOnly s n
  · exact modChannel_driveOnly s n _

theorem boundaryWaiting_driveOnly (s : State) (n : OutletId) : DriveOnly s (s.boundaryWaiting n) := by
  unfold boundaryWaiting
  dsimp only
  split
  · exact (modChannel_driveOnly s n _).trans (leaveQueues_driveOnly _ n)
  · exact modChannel_driveOnly s n _

theorem boundaryRunning_driveOnly (s : State) (n : OutletId) : DriveOnly s (s.boundaryRunning n) := by
  unfold boundaryRunning
  dsimp only
  split
  · exact (modChannel_driveOnly s n _).trans (restartSettle_driveOnly _ _)
  · split
    · exact modChannel_driveOnly s n _
    · split <;> exact modChannel_driveOnly s n _

theorem boundaryPattern_driveOnly (s : State) (n : OutletId) : DriveOnly s (s.boundaryPattern n) := by
  unfold boundaryPattern
  dsimp only
  split
  · exact (modChannel_driveOnly s n _).trans (restartSettle_driveOnly _ _)
  · exact modChannel_driveOnly s n _

/-- A period boundary changes channels and branches alone. -/
theorem boundary_driveOnly (s : State) (n : OutletId) : DriveOnly s (s.boundary n) := by
  unfold boundary
  split
  · exact boundaryOff_driveOnly s n
  · exact boundaryWaiting_driveOnly s n
  · exact boundaryRunning_driveOnly s n
  · exact boundaryRunning_driveOnly s n
  · exact boundaryRunning_driveOnly s n
  · exact modChannel_driveOnly s n _
  · exact boundaryPattern_driveOnly s n

theorem takeQueue_driveOnly (s : State) (b : BranchId) (q : List OutletId) : DriveOnly s (s.takeQueue b q) := by
  induction q generalizing s with
  | nil => exact DriveOnly.refl s
  | cons n rest ih =>
    unfold takeQueue
    dsimp only
    split
    · exact ((modBranch_driveOnly s b _).trans (modChannel_driveOnly _ n _)).trans (ih _)
    · split
      · exact ((modBranch_driveOnly s b _).trans (startNow_driveOnly _ n)).trans (ih _)
      · exact (modBranch_driveOnly s b _).trans (startNow_driveOnly _ n)

/-- The expiry of a settle timer changes channels and branches alone. -/
theorem settleExpiry_driveOnly (s : State) (b : BranchId) : DriveOnly s (s.settleExpiry b) :=
  (modBranch_driveOnly s b _).trans (takeQueue_driveOnly _ b _)

theorem enterPattern_driveOnly (s : State) (n : OutletId) : DriveOnly s (s.enterPattern n) := by
  unfold enterPattern
  split
  · exact DriveOnly.refl s
  · dsimp only
    split
    · exact (modChannel_driveOnly s n _).trans (restartSettle_driveOnly _ _)
    · exact modChannel_driveOnly s n _

/-- The entry to a safe pattern changes channels and branches alone. -/
theorem enterPatternAll_driveOnly (s : State) : DriveOnly s s.enterPatternAll :=
  (forOutlets_induct (DriveOnly s) _ s (DriveOnly.refl s)
    fun n _ ht => ht.trans (enterPattern_driveOnly _ n)).trans (mapBranches_driveOnly _ _)

/-- A reset of the Drive Unit changes channels and branches alone. -/
theorem resetDrive_driveOnly (s : State) : DriveOnly s s.resetDrive := by
  refine DriveOnly.trans (t := s.forOutlets _) (forOutlets_induct (DriveOnly s) _ s (DriveOnly.refl s) ?_)
    (mapBranches_driveOnly _ _)
  intro n t ht
  dsimp only
  split
  · exact ht.trans ((modChannel_driveOnly t n _).trans (restartSettle_driveOnly _ _))
  · exact ht.trans (modChannel_driveOnly t n _)

end Sys2Proof.Machine.State
end

