-- ==== Sys2Proof/Laws/Ports.lean ====
section
/-! SUPPORT. What a good frame does, said once: a command that does not wait for the table, a table command with the table idle, and the frames that are refused. -/

namespace Sys2Proof.Machine.State

open Sys2Proof.Statements

/-- The port unit as the taking of a frame leaves it: receiver IDLE, timer reloaded, link ACTIVE. -/
def heardUnit (u : PortUnit) : PortUnit :=
  { u with receiver := .idle, silence := SilenceTimer.load u.config.silence, link := .active }

/-- The state in which a taken frame is checked and carried out (R140 steps 1 to 3). -/
def heard (s : State) (p : Port) : State := s.modPort p heardUnit

@[simp] theorem heard_outlets (s : State) (p : Port) : (s.heard p).outlets = s.outlets := rfl
@[simp] theorem heard_profile (s : State) (p : Port) : (s.heard p).profile = s.profile := rfl
@[simp] theorem heard_arbiter (s : State) (p : Port) : (s.heard p).arbiter = s.arbiter := rfl
@[simp] theorem heard_bursts (s : State) (p : Port) : (s.heard p).bursts = s.bursts := rfl
@[simp] theorem heard_steam (s : State) (p : Port) : (s.heard p).steam = s.steam := rfl
@[simp] theorem heard_water (s : State) (p : Port) : (s.heard p).water = s.water := rfl
@[simp] theorem heard_stores (s : State) (p : Port) : (s.heard p).stores = s.stores := rfl
@[simp] theorem heard_reference (s : State) (p : Port) : (s.heard p).reference = s.reference := rfl
@[simp] theorem heard_ratio (s : State) (p : Port) : (s.heard p).ratio = s.ratio := rfl
@[simp] theorem heard_pulse (s : State) (p : Port) : (s.heard p).pulse = s.pulse := rfl
@[simp] theorem heard_scan (s : State) (p : Port) : (s.heard p).scan = s.scan := rfl
@[simp] theorem heard_inputs (s : State) (p : Port) : (s.heard p).inputs = s.inputs := rfl
@[simp] theorem heard_channels (s : State) (p : Port) : (s.heard p).channels = s.channels := rfl
@[simp] theorem heard_branches (s : State) (p : Port) : (s.heard p).branches = s.branches := rfl
@[simp] theorem heard_engine (s : State) (p : Port) : (s.heard p).engine = s.engine := rfl
@[simp] theorem heard_store (s : State) (p : Port) : (s.heard p).store = s.store := rfl
@[simp] theorem heard_pending (s : State) (p : Port) : (s.heard p).pending = s.pending := rfl

@[simp] theorem heard_port (s : State) (p : Port) : (s.heard p).port p = heardUnit (s.port p) := by
  simp [heard]

@[simp] theorem heard_port_ne (s : State) (p q : Port) (h : q ≠ p) : (s.heard p).port q = s.port q := by
  simp [heard, modPort_port, h]

theorem heard_config (s : State) (p q : Port) : ((s.heard p).port q).config = (s.port q).config := by
  by_cases h : q = p
  · subst h; simp [heardUnit]
  · simp [h]

@[simp] theorem heard_globals (s : State) (p q : Port) : (s.heard p).globals q = s.globals q := by
  simp [globals, heard_config]

@[simp] theorem heard_rights (s : State) (p q : Port) (n : OutletId) : (s.heard p).rights q n = s.rights q n := by
  simp only [rights, heard_config, heard_globals, lockout, heard_inputs]
  rfl

/-- Two changes of one port unit are one. -/
theorem modPort_modPort (s : State) (p : Port) (f g : PortUnit → PortUnit) :
    (s.modPort p f).modPort p g = s.modPort p fun u => g (f u) := by
  simp [modPort]

/-- A frame that is taken is carried out on the heard state. -/
theorem takeFrame_receives (s : State) (p : Port) (code : Byte) (pl : List Byte) (h : Receives s p) :
    (s.modPort p fun u => { u with receiver := .idle }).takeFrame p code pl =
      match Code.ofByte code with
      | none => (s.heard p).answer p code (decide ((s.port p).link = .lapsed)) .unknown []
      | some c =>
        if c.lengthOk pl then (s.heard p).takeCommand p c pl (decide ((s.port p).link = .lapsed))
        else (s.heard p).answer p code (decide ((s.port p).link = .lapsed)) .badLength [] := by
  obtain ⟨-, -, hl⟩ := h
  have e : ((s.modPort p fun u => { u with receiver := .idle }).reloadSilence p).revive p = s.heard p := by
    simp only [reloadSilence, revive, heard, modPort_modPort]
    have : (s.ports[p]).link ≠ .lapsing := hl
    simp only [modPort]
    congr 2
    simp only [heardUnit]
    cases hk : (s.ports[p]).link <;> simp_all
  simp only [takeFrame, e, revives, modPort_port, if_true] <;> rfl

/-- A good frame at a port that receives. -/
theorem goodFrame_receives (s : State) (p : Port) (code : Byte) (pl : List Byte) (h : Receives s p)
    (hc : code ≠ Code.tableReset.byte) :
    s.goodFrame p code pl = (s.modPort p fun u => { u with receiver := .idle }).takeFrame p code pl := by
  obtain ⟨h1, h2, h3⟩ := h
  have ht : s.transmitting p = false := by simp [transmitting, h2]
  simp only [goodFrame, h1, ht, Bool.or_false, Bool.false_eq_true, if_false, h2, hc]
  cases hk : (s.port p).link <;> simp_all

@[simp] theorem ofByte_byte (c : Code) : Code.ofByte c.byte = some c := by cases c <;> rfl

/-- A command that does not wait for the table is carried out at once and answered. -/
theorem frameOf_direct (s : State) (p : Port) (c : Code) (pl : List Byte) (h : Receives s p) (hr : c ≠ .tableReset)
    (ht : c.isTable = false) (hl : c.lengthOk pl = true) :
    s.frameOf p c pl =
      respond ((s.heard p).runDirect c p pl) p c.byte (decide ((s.port p).link = .lapsed)) := by
  have hc : c.byte ≠ Code.tableReset.byte := fun e => hr (by
    have := congrArg Code.ofByte e
    simpa using this)
  simp [frameOf, goodFrame_receives s p _ pl h hc, takeFrame_receives s p _ pl h, hl, takeCommand, ht]

/-- A frame of a length its command does not accept answers BAD_LENGTH. -/
theorem frameOf_badLength (s : State) (p : Port) (c : Code) (pl : List Byte) (h : Receives s p) (hr : c ≠ .tableReset)
    (hl : c.lengthOk pl = false) :
    s.frameOf p c pl = (s.heard p).answer p c.byte (decide ((s.port p).link = .lapsed)) .badLength [] := by
  have hc : c.byte ≠ Code.tableReset.byte := fun e => hr (by
    have := congrArg Code.ofByte e
    simpa using this)
  simp [frameOf, goodFrame_receives s p _ pl h hc, takeFrame_receives s p _ pl h, hl]

/-- A table command that fails a check before the table answers with it. -/
theorem frameOf_refused (s : State) (p : Port) (c : Code) (pl : List Byte) (r : Result) (h : Receives s p)
    (ht : c.isTable = true) (hl : c.lengthOk pl = true) (hk : (s.heard p).checkTable c p pl = some r) :
    s.frameOf p c pl = (s.heard p).answer p c.byte (decide ((s.port p).link = .lapsed)) r [] := by
  have hr : c ≠ .tableReset := by rintro rfl; simp [Code.isTable] at ht
  have hc : c.byte ≠ Code.tableReset.byte := fun e => hr (by
    have := congrArg Code.ofByte e
    simpa using this)
  simp [frameOf, goodFrame_receives s p _ pl h hc, takeFrame_receives s p _ pl h, hl, takeCommand, ht, hk]

/-! ## Table commands with the table idle -/

/-- Every requester has its place in every rotation. -/
theorem mem_rotation (last r : Requester) : r ∈ rotation last := by
  have : ∀ last ∈ requesters, ∀ r ∈ requesters, r ∈ rotation last := by decide
  have all : ∀ r : Requester, r ∈ requesters := by
    intro r
    cases r with
    | port p => fin_cases p <;> decide
    | spe | wpe | selfTest | store => decide
  exact this last (all last) r (all r)

/-- With no next requester nobody waits. -/
theorem waits_of_nextRequester_none (s : State) (h : s.nextRequester = none) (r : Requester) : s.waits r = false := by
  have := List.find?_eq_none.mp h r (mem_rotation _ r)
  simpa using this

/-- When a port is the only one that waits, it comes next. -/
theorem nextRequester_of_only (s : State) (p : Port) (hp : s.waits (.port p) = true)
    (ho : ∀ r, r ≠ .port p → s.waits r = false) : s.nextRequester = some (.port p) := by
  unfold nextRequester
  cases h : (rotation s.arbiter.lastHolder).find? s.waits with
  | none =>
    have := List.find?_eq_none.mp h _ (mem_rotation _ (.port p))
    simp [hp] at this
  | some r =>
    have hr := List.find?_some h
    by_cases e : r = .port p
    · rw [e]
    · simp [ho r e] at hr

/-- What a port's frame in hand looks like while its command waits. -/
def waitingState (s : State) (p : Port) (code : Byte) (pl : List Byte) : State :=
  (s.heard p).modPort p fun u =>
    { u with outstanding := some (.waiting code pl (decide ((s.port p).link = .lapsed))) }

theorem waitingState_tableFree (s : State) (p : Port) (code : Byte) (pl : List Byte) (h : TableIdle s) :
    (s.waitingState p code pl).tableFree = true := by
  obtain ⟨hf, -, -⟩ := h
  simp only [tableFree, Bool.and_eq_true, decide_eq_true_eq] at hf ⊢
  obtain ⟨⟨h1, h2⟩, h3⟩ := hf
  refine ⟨⟨h1, h2⟩, ?_⟩
  have hd : (s.waitingState p code pl).nextDriveWrite = s.nextDriveWrite := rfl
  have hm : (s.waitingState p code pl).nextRemoval = s.nextRemoval := rfl
  have he : (s.waitingState p code pl).arbiter = s.arbiter := rfl
  have hl : s.nextLapse = none → (s.waitingState p code pl).nextLapse = none := by
    intro h0
    simp only [nextLapse, List.find?_eq_none, decide_eq_true_eq] at h0 ⊢
    intro q hq
    by_cases e : q = p
    · subst e; simp [waitingState, heardUnit]
    · simpa [waitingState, modPort_port, e] using h0 q hq
  simp only [nextWrite, hd, hm, he] at h3 ⊢
  cases e1 : s.nextDriveWrite <;> simp [e1] at h3 ⊢
  cases e2 : s.nextRemoval <;> simp [e2] at h3 ⊢
  cases e3 : s.nextLapse <;> simp [e3] at h3
  simp [hl e3, h3]

theorem waitingState_nextRequester (s : State) (p : Port) (code : Byte) (pl : List Byte) (h : TableIdle s) :
    (s.waitingState p code pl).nextRequester = some (.port p) := by
  obtain ⟨-, hn, -⟩ := h
  apply nextRequester_of_only
  · simp [waits, portWaits, waitingState]
  · intro r hr
    have := waits_of_nextRequester_none s hn r
    cases r with
    | port q =>
      have hq : q ≠ p := fun e => hr (by rw [e])
      simpa [waits, portWaits, waitingState, modPort_port, hq] using this
    | spe | wpe | selfTest | store => exact this

/-- A table command that passes its checks while the table is idle is carried out at once, by the port as holder. -/
theorem frameOf_table (s : State) (p : Port) (c : Code) (pl : List Byte) (h : Receives s p) (hi : TableIdle s)
    (ht : c.isTable = true) (hl : c.lengthOk pl = true) (hk : (s.heard p).checkTable c p pl = none) :
    s.frameOf p c pl =
      respond (((s.waitingState p c.byte pl).hold (.port p)).runTable c p pl) p c.byte
        (decide ((s.port p).link = .lapsed)) := by
  have hr : c ≠ .tableReset := by rintro rfl; simp [Code.isTable] at ht
  have hc : c.byte ≠ Code.tableReset.byte := fun e => hr (by
    have := congrArg Code.ofByte e
    simpa using this)
  have e1 := waitingState_tableFree s p c.byte pl hi
  have e2 := waitingState_nextRequester s p c.byte pl hi
  simp only [frameOf, goodFrame_receives s p _ pl h hc, takeFrame_receives s p _ pl h, ofByte_byte, hl, takeCommand, ht,
    hk, if_true, askTable]
  change (if ((s.waitingState p c.byte pl).tableFree &&
      decide ((s.waitingState p c.byte pl).nextRequester = some (.port p))) = true
    then (s.waitingState p c.byte pl).serve p else s.waitingState p c.byte pl) = _
  simp only [e1, e2, decide_true, Bool.and_self, if_true, serve]
  simp [waitingState]

@[simp] theorem heard_busy (s : State) (p : Port) : (s.heard p).busy = s.busy := rfl

@[simp] theorem heard_checkTable (s : State) (p : Port) (c : Code) (q : Port) (pl : List Byte) :
    (s.heard p).checkTable c q pl = s.checkTable c q pl := by
  cases c <;> simp [checkTable, checkRights, checkOutlet] <;> rfl

/-! ## The response -/

@[simp] theorem answer_port (s : State) (p : Port) (code : Byte) (rev : Bool) (r : Result) (pl : List Byte) :
    (s.answer p code rev r pl).port p =
      { s.port p with outstanding := some (.answered
          { code := code, result := r, status := s.statusWord p rev, payload := pl } false) } := by
  simp [answer]

@[simp] theorem answer_port_ne (s : State) (p q : Port) (code : Byte) (rev : Bool) (r : Result) (pl : List Byte)
    (h : q ≠ p) : (s.answer p code rev r pl).port q = s.port q := by
  simp [answer, modPort_port, h]

/-- The status word does not look at what is outstanding. -/
theorem statusWord_answer (s : State) (p : Port) (code : Byte) (rev : Bool) (r : Result) (pl : List Byte) :
    (s.answer p code rev r pl).statusWord p rev = s.statusWord p rev := by
  have h1 : ((s.answer p code rev r pl).port p).attention = (s.port p).attention := by
    rw [answer_port]; rfl
  have h2 : ((s.answer p code rev r pl).port p).link = (s.port p).link := by rw [answer_port]
  simp only [statusWord, h1, h2]
  rfl

/-- An answer on a state whose port units are those of the heard state is the answer of the statement. -/
theorem portAnswered_respond (s : State) (a : Answer) (p : Port) (code : Byte) (u : Port → PortUnit)
    (hp : a.state.port p = heardUnit (u p)) (hq : ∀ q, q ≠ p → a.state.port q = u q) :
    PortAnswered s (respond a p code (decide ((s.port p).link = .lapsed))) p u code a.result a.payload := by
  refine ⟨?_, fun q h => by simp [respond, h, hq q h]⟩
  simp only [respond, answer_port, statusWord_answer, hp, heardUnit]

/-! ## Refusals -/

/-- The row of a command is a good frame of its code. -/
theorem exec_commandRow (s : State) (p : Port) (c : Code) (pl : List Byte) :
    exec (commandRow c p pl) s = .next (s.frameOf p c pl) := by
  cases c <;> first | rfl | (simp only [commandRow]; split <;> rfl)

/-- An answer on the heard state leaves everything but the sender's port unit. -/
theorem answer_heard_allKept (s : State) (p : Port) (code : Byte) (rev : Bool) (r : Result) (pl : List Byte) :
    AllKept s ((s.heard p).answer p code rev r pl) :=
  ⟨⟨rfl, rfl, rfl⟩, ⟨rfl, rfl⟩, ⟨rfl, rfl⟩, ⟨rfl, rfl, rfl, rfl, rfl⟩, ⟨rfl, rfl, rfl⟩, rfl, rfl⟩

/-- An answer on the heard state is a refusal. -/
theorem refused_of_answer (s : State) (p : Port) (c : Code) (pl : List Byte) (r : Result)
    (h : s.frameOf p c pl = (s.heard p).answer p c.byte (decide ((s.port p).link = .lapsed)) r []) :
    Refused s p c pl r := by
  refine ⟨_, exec_commandRow s p c pl, ?_, ?_⟩
  · rw [h]; exact answer_heard_allKept ..
  · rw [h]
    exact portAnswered_respond s (refuse (s.heard p) r) p c.byte s.port (heard_port s p) fun q => heard_port_ne s p q

/-- A frame of a length its command does not accept is refused. -/
theorem refused_of_length (s : State) (p : Port) (c : Code) (pl : List Byte) (h : Receives s p) (hr : c ≠ .tableReset)
    (hl : c.lengthOk pl = false) : Refused s p c pl .badLength :=
  refused_of_answer s p c pl _ (frameOf_badLength s p c pl h hr hl)

/-- A command that does not wait for the table is refused where its operation refuses it. -/
theorem refused_of_direct (s : State) (p : Port) (c : Code) (pl : List Byte) (r : Result) (h : Receives s p)
    (hr : c ≠ .tableReset) (ht : c.isTable = false) (hl : c.lengthOk pl = true)
    (hd : (s.heard p).runDirect c p pl = refuse (s.heard p) r) : Refused s p c pl r := by
  refine refused_of_answer s p c pl _ ?_
  rw [frameOf_direct s p c pl h hr ht hl, hd]
  rfl

/-- A table command is refused where a check before the table refuses it. -/
theorem refused_of_checkTable (s : State) (p : Port) (c : Code) (pl : List Byte) (r : Result) (h : Receives s p)
    (ht : c.isTable = true) (hl : c.lengthOk pl = true) (hk : s.checkTable c p pl = some r) : Refused s p c pl r :=
  refused_of_answer s p c pl _ (frameOf_refused s p c pl r h ht hl (by simpa using hk))

/-- A table command that passes its checks with the table idle is refused where its operation refuses it, its port holding the table. -/
theorem refusedHolding_of_runTable (s : State) (p : Port) (c : Code) (pl : List Byte) (r : Result) (h : Receives s p)
    (hi : TableIdle s) (ht : c.isTable = true) (hl : c.lengthOk pl = true) (hk : s.checkTable c p pl = none)
    (hd : ∀ t : State, t.engine = s.engine → t.outlets = s.outlets → t.bursts = s.bursts →
      t.runTable c p pl = refuse t r) : RefusedHolding s p c pl r := by
  refine ⟨_, exec_commandRow s p c pl, ?_, ?_⟩ <;>
    rw [frameOf_table s p c pl h hi ht hl (by simpa using hk),
      hd ((s.waitingState p c.byte pl).hold (.port p)) rfl rfl rfl]
  · exact ⟨⟨rfl, rfl, rfl⟩, ⟨rfl, rfl⟩, ⟨rfl, rfl⟩, ⟨rfl, rfl, rfl, rfl, rfl⟩, ⟨rfl, rfl, rfl⟩, rfl, rfl⟩
  · have hp : ((s.waitingState p c.byte pl).hold (.port p)).port p =
        { heardUnit (s.port p) with
          outstanding := some (.waiting c.byte pl (decide ((s.port p).link = .lapsed))) } := by
      show (s.waitingState p c.byte pl).port p = _
      simp [waitingState]
    refine ⟨?_, fun q hq => ?_⟩
    · simp only [respond, refuse, answer_port, statusWord_answer, hp, heardUnit]
    · simp only [respond, refuse, answer_port_ne _ _ _ _ _ _ _ hq]
      show (s.waitingState p c.byte pl).port q = _
      simp [waitingState, modPort_port, hq]

end Sys2Proof.Machine.State
end

