-- ==== Sys2Proof/Laws/Vocabulary.lean ====
section
/-! SUPPORT. The words of the statements beside the operations of the model: a list without an entry, the duty D, the safe pattern, and the level of the attention line. -/

namespace Sys2Proof.Statements

open Sys2Proof.Machine

/-- The list without an entry, as the removal of an entry leaves it. -/
theorem withoutEntry_eq_dropEntry (l : List BurstEntry) (e : BurstEntry) : withoutEntry l e = dropEntry l e := by
  unfold withoutEntry dropEntry BurstEntry.isCleared BurstEntry.rank closeRank
  cases e.state with
  | queued waited => simp
  | cleared left rank =>
    simp only [if_true]
    refine List.map_congr_left fun x _ => ?_
    cases x.state <;> rfl

/-- The removal of an outlet's entry leaves the list without it. -/
theorem removeEntry_withoutOutlet (s : State) (n : OutletId) (notice : BurstEntry → Event) :
    (s.removeEntry n notice).bursts = withoutOutlet s.bursts n := by
  unfold State.removeEntry withoutOutlet State.entryOf
  cases s.bursts.find? fun e => decide (e.outlet = n) with
  | none => rfl
  | some e =>
    simp only [withoutEntry_eq_dropEntry]
    split
    · unfold State.enforceEffective
      split <;> rfl
    · rfl

/-- The duty D as the boundaries form it. -/
theorem dutyNow_eq_formedDuty (s : State) (n : OutletId) : s.dutyNow n = formedDuty s n := by
  unfold State.dutyNow formedDuty Channel.duty formDuty rawDuty
  split <;> simp_all

/-- The pattern line of a structure, as the model forms it. -/
theorem patternDuty_eq_patternLine (c : Channel) (st : OutletStructure) (inSafe : Bool) :
    c.patternDuty st inSafe = patternLine st c c.heldDuty inSafe := by
  unfold Channel.patternDuty patternLine
  split
  · simp_all
  · cases st.safeState <;> simp_all

/-- A channel that enters the safe pattern at once. -/
theorem patternChannel_eq_patterned (inSafe : Bool) (c : Channel) :
    State.patternChannel inSafe c = patterned inSafe c := by
  unfold State.patternChannel patterned
  simp only [patternDuty_eq_patternLine]
  generalize (if inSafe = true ∧ (c.phase = .warming ∨ c.phase = .cycling ∨ c.phase = .held) then c.applied else 0) = held
  have line : ∀ c' : Channel, c'.condition = c.condition → c'.pendingAbsence = c.pendingAbsence →
      patternLine c.inUse c' held inSafe = patternLine c.inUse c held inSafe := by
    intro c' h₁ h₂
    unfold patternLine
    rw [h₁, h₂]
  rw [line]
  · generalize patternLine c.inUse c held inSafe = d
    by_cases h : d = 0
    · simp [h, Channel.resetWatch]
    · by_cases o : c.inUse.safeState = .opened <;> simp [h, o]
  · rfl
  · rfl

/-- The ATN line is low exactly while a flag is set whose kind is not masked. -/
theorem atnHigh_eq_false_iff (u : PortUnit) : u.atnHigh = false ↔ u.flags.bits &&& ~~~u.mask ≠ 0 := by
  simp [PortUnit.atnHigh, PortUnit.attention]

end Sys2Proof.Statements
end

