-- ==== Sys2Proof/WellFormed.lean ====
section
/-! DEFINITION. The well-formed commands: those whose operands the outside world can supply. -/

namespace Sys2Proof

open Machine

/-- Whether a payload fits a frame: at most 32 bytes (10 section 10.1). -/
def payloadFits (pl : List Byte) : Bool := decide (pl.length ≤ 32)

/-- A framed command carries a payload a frame can hold; the two rows of SERVICE DRIVE carry their own form byte, and an unknown command an undefined code. Every other row is well-formed by its types. -/
def wellFormed : Instr → Bool
  | .identify _ pl | .readStatus _ pl | .readOutlet _ pl | .readPool _ pl | .readStore _ pl | .readChannel _ pl
  | .readBursts _ pl | .readEvents _ pl | .readRights _ pl | .setDemand _ pl | .setLimits _ pl
  | .setOutletConfig _ pl | .parkOutlet _ pl | .unparkOutlet _ pl | .clearAbsent _ pl | .senseStart _ pl
  | .senseEnd _ pl | .requestBurst _ pl | .endBurst _ pl | .postCapacity _ pl | .postMargin _ pl
  | .postPumpFlow _ pl | .setProfile _ pl | .setStore _ pl | .setChannel _ pl | .setBranch _ pl | .maskEvents _ pl
  | .setWindow _ pl | .engineStart _ pl | .engineStop _ pl | .serviceEnter _ pl | .serviceLeave _ pl
  | .engineReset _ pl | .tableReset _ pl | .testTable _ pl | .saveConfig _ pl => payloadFits pl
  | .serviceDriveSet _ pl => payloadFits pl && decide (byteAt pl 1 = 0)
  | .serviceDriveRelease _ pl => payloadFits pl && decide (byteAt pl 1 = 1)
  | .unknownCommand _ code pl => payloadFits pl && (Code.ofByte code).isNone
  | .overrun _ | .receiveByte _ _ _ | .interByteTimeout _ | .discardQuietExpiry _ | .responseSent _ | .tableHandover
  | .steamRoundTimerExpiry | .waterRoundTimerExpiry | .steamRound | .waterRound | .silenceTimerExpiry _
  | .lapseWarning _ | .applyLapse _ | .plantInputLevelChange _ _ | .debounceExpiry _ | .inputEstablished _
  | .referenceConversion _ | .ratioConversion _ _ | .holdTimerExpiry | .pulseCount _ | .periodBoundary _
  | .dwellExpiry _ | .settleTimerExpiry _ | .feedbackLossConfirmed _ | .applyAbsentWrite _ | .senseHoldExpiry _
  | .applySenseExpiryWrite _ | .burstDurationExpiry _ | .burstWaitExpiry _ | .applyBurstRemoval _
  | .applyEngineStateWrite | .selfTestStart | .selfTestEnd _ | .saveStart | .saveEnd _ | .engineResetDeferred
  | .tableResetLoadStart | .configLoadEnd | .powerOn | .resetLine | .driveTick _ _ => true

end Sys2Proof
end

