-- ==== Sys2Proof/Tests/Slice0.lean ====
section
/-! SUPPORT. Small tests on one step each: the checks of well-formedness, the worked cases of the manual, and for every statement with hypotheses a state and operands that meet them. -/

namespace Sys2Proof.Tests

set_option Elab.async false

open Sys2Proof.Machine Sys2Proof.Statements

/-! ## Helpers -/

/-- The state a step answers. -/
def after (o : Host.Outcome State Fault Refusal) : Option State :=
  match o with
  | .next t => some t
  | _ => none

/-- One command carried out on a state, for a state that stays as it is where there is none. -/
def run (i : Instr) (s : State) : State := (after (exec i s)).getD s

/-- An input pin that is high and established. -/
def calm : InputPin := { low := false, asserted := false, debounce := .steady }

/-- Every right. -/
def everyRight : OutletRights := ⟨true, true, true, true, true⟩

/-- The part after reset with its plant inputs established, Port A holding every right. -/
def ready : State :=
  { State.reset with inputs := ⟨calm, calm, calm, calm⟩ }.modPort 0 fun u =>
    { u with config := { u.config with defaultRights := everyRight, globalRights := ⟨true, true, true, true⟩ } }

/-- The same with an engine state and an operation. -/
def inEngine (e : EngineState) (op : Operation) (s : State) : State :=
  s.modEngine fun g => { g with state := e, op := op }

/-- The same with a holder of the table. -/
def heldBy (r : Requester) (s : State) : State := s.modArbiter fun a => { a with holder := some r }

/-- An outlet in use, its record and channel agreeing. -/
def use (n : OutletId) (pool : Pool) (role : Role) (tier : Tier) (floor ceiling weight demand : Nat) (s : State) : State :=
  let st := { Config.defaultStructure with pool := pool, role := role }
  let l := { Config.defaultLimits with
    tiers := Vector.replicate 4 tier, weight := weight, floor := floor, ceiling := ceiling }
  (s.modOutlet n fun o => { o with struct := st, limits := l, demand := demand, condition := .active }).modChannel n
    fun c => { c with copy := st, inUse := st, ceiling := ceiling, condition := .active, phase := .off }

/-- A store with its reading. -/
def stored (i : StoreId) (reading : StoreReading) (gain : Nat) (s : State) : State :=
  s.modStore i fun r => { r with reading := reading, settings := { r.settings with gain := gain } }

/-- The plant of the worked rounds (02 section 2.9). -/
def plant : State :=
  let s := inEngine .run .none ready
  let b : Boiler := { postedKw := 3000, armed := true, poster := some 0, lapseCapacity := 0 }
  let s := { s with steam := { s.steam with boilers := Vector.replicate 2 b, lowpr := false, timer := some 2000 } }
  let s := { s with water := { s.water with flow := 800, timer := some 2000, pointers := s.water.pointers.set 1 11 } }
  let s := stored 1 (.primary 540) 150 (stored 0 (.primary 520) 150 s)
  let s := use 0 .steam (.recharge 0) 0 200 1500 8 0 (use 1 .steam (.recharge 1) 0 200 1500 8 0 s)
  let s := use 2 .steam .plain 1 100 800 4 600 (use 3 .steam .plain 2 150 1200 6 400 s)
  let s := use 4 .steam .plain 3 0 1000 3 1000 (use 5 .steam .plain 3 0 900 2 900 s)
  let s := use 8 .water .plain 0 100 300 5 260 (use 9 .water .plain 0 100 300 5 240 s)
  use 10 .water .plain 1 40 200 3 150 (use 11 .water .plain 1 0 200 2 120 (use 12 .water .plain 3 0 150 1 100 s))

/-- The grants of outlets. -/
def grants (ns : List OutletId) (s : State) : List Nat := ns.map fun n => (s.outlet n).grant

/-- The statuses of outlets. -/
def statuses (ns : List OutletId) (s : State) : List GrantStatus := ns.map fun n => (s.outlet n).status

/-- A steam round, and a water round. -/
def steamed (s : State) : State := run .steamRound (heldBy .spe s)

def watered (s : State) : State := run .waterRound (heldBy .wpe s)

/-- The result a port's response carries. -/
def result (p : Port) (s : State) : Option Result :=
  match (s.port p).outstanding with
  | some (.answered r _) => some r.result
  | _ => none

/-- The response gone, so that the next command is taken. -/
def sent (p : Port) (s : State) : State := run (.responseSent p) s

/-! ## Well-formedness -/

theorem test_wellFormed_setDemand : wellFormed (.setDemand 0 [0, 0, 5]) = true := by decide
theorem test_illFormed_payload : wellFormed (.setDemand 0 (List.replicate 33 0)) = false := by decide +kernel
theorem test_wellFormed_payload : wellFormed (.setDemand 0 (List.replicate 32 0)) = true := by decide +kernel
theorem test_illFormed_driveSet : wellFormed (.serviceDriveSet 0 [0, 1]) = false := by decide
theorem test_illFormed_driveRelease : wellFormed (.serviceDriveRelease 0 [0, 0, 0, 5]) = false := by decide
theorem test_illFormed_unknown : wellFormed (.unknownCommand 0 0x10 []) = false := by decide
theorem test_wellFormed_unknown : wellFormed (.unknownCommand 0 0x60 []) = true := by decide
theorem test_decode_none : decodeTableWord 8 1 = none := by decide

/-! ## Worked cases of the manual -/

/-- R138: the check value of the CRC over the characters 1 to 9. -/
theorem test_crc : crc [0x31, 0x32, 0x33, 0x34, 0x35, 0x36, 0x37, 0x38, 0x39] = 0x29B1 := by decide +kernel

/-- The round 1 of section 2.9. -/
theorem test_steamRound_first :
    grants [0, 1, 2, 3, 4, 5] (steamed plant) = [1200, 900, 600, 400, 1000, 900] ∧
    (steamed plant).steam.lastU = 5400 ∧ (steamed plant).parity = true := by decide +kernel

/-- Its round 2, with a burst of 1000 kW for O3. -/
theorem test_steamRound_burst :
    let s := steamed (run (.requestBurst 0 [3, 0x03, 0xE8, 0x02, 0x58, 0, 60]) (steamed plant))
    grants [0, 1, 2, 3, 4, 5] s = [1200, 900, 600, 1000, 1000, 700] ∧
    statuses [3, 4, 5] s = [.burst, .full, .partially] := by decide +kernel

/-- Its round 3, boiler 1 tripped. -/
theorem test_debounceExpiry_trip :
    let s := run (.debounceExpiry .trip1) { plant with inputs := { plant.inputs with trip1 := { calm with low := true, debounce := .differing 0 } } }
    (s.boiler 1).armed = false ∧ (s.port 2).flags.capacityChange = true ∧
    grants [0, 1, 2, 3, 4, 5] (steamed s) = [1200, 900, 450, 150, 0, 0] := by decide +kernel

/-- Its round 4, an overloaded tier 0. -/
theorem test_steamRound_overload :
    let s := stored 1 (.primary 590) 150 plant
    let s := { s with steam := { s.steam with lowpr := true, lowFraction := 20,
                                              boilers := (s.steam.boilers.map fun b => { b with postedKw := 750 }) } }
    grants [0, 1, 2, 3, 4, 5] (steamed s) = [154, 115, 0, 0, 0, 0] ∧ (steamed s).steam.outcome = .floorOverload := by
  decide +kernel

/-- R73: an outlet bound to the other store since the last steam round is shown with what that round wrote for it. -/
theorem test_readStore_rebound :
    let s := steamed plant
    let t := (s.modOutlet 1 fun o => { o with struct := { o.struct with role := .plain } }).modOutlet 0
      fun o => { o with struct := { o.struct with role := .recharge 1 } }
    s.shownRecharge 0 = [0x04, 0xB0, 1] ∧ t.shownRecharge 1 = [0x04, 0xB0, 1] ∧ t.shownRecharge 0 = [0, 0, 0] := by
  decide +kernel

/-- The water round of section 2.9 and the one after it. -/
theorem test_waterRound :
    grants [8, 9, 10, 11, 12] (watered plant) = [260, 240, 42, 2, 0] ∧ (watered plant).water.lastDerate = 68 ∧
    grants [8, 9, 10, 11, 12] (watered (watered plant)) = [260, 240, 43, 1, 0] := by decide +kernel

/-- The derate cases B to E of chapter 4. -/
theorem test_waterRound_derate :
    (watered (stored 0 .notValid 150 plant)).water.lastUsable = 608 ∧
    (watered (stored 0 (.primary 610) 150 (stored 1 (.primary 620) 150 plant))).water.lastUsable = 800 ∧
    (watered (stored 0 (.primary 480) 150 plant)).water.lastUsable = 480 ∧
    (watered (stored 0 .notValid 150 (stored 1 .notValid 150 plant))).water.lastUsable = 400 := by decide +kernel

/-- The conversions of chapter 5, and the strike of a bad one. -/
theorem test_ratioConversion :
    let s := { ready with scan := { slot := .ratio 0, gateLeft := 0 },
                          reference := { ready.reference with state := .valid 5000 } }.modRatio 0 fun c =>
      { c with state := .valid, trim := -2, reading := some 500 }
    ((run (.ratioConversion 0 (some 4162)) s).ratioChannel 0).reading = some 520 ∧
    ((run (.ratioConversion 0 (some 4162)) s).storeRec 0).reading = .primary 520 ∧
    ((run (.ratioConversion 0 (some 5100)) s).ratioChannel 0).reading = some (-54) ∧
    ((run (.ratioConversion 0 (some 3100)) s).ratioChannel 0).lastCause = .range ∧
    ((run (.ratioConversion 0 (some 60)) s).ratioChannel 0).lastCause = .opened ∧
    ((run (.ratioConversion 0 none) s).ratioChannel 0).state = .suspect := by decide +kernel

/-- The duties of chapter 7. -/
theorem test_duties :
    formDuty (rawDuty 900 100 1000 1000) 1000 50 = 900 ∧ formDuty (rawDuty 700 100 600 900) 600 30 = 466 ∧
    formDuty (rawDuty 240 95 300 300) 300 20 = 228 ∧ formDuty (rawDuty 40 100 1000 1000) 1000 50 = 0 ∧
    formDuty (rawDuty 960 100 1000 1000) 1000 50 = 1000 := by decide

/-- A step on the new part: IDENTIFY is answered, and the port then transmits. -/
theorem test_step_identify :
    (after (step { ready with pending := [.identify 0 []] })).map (result 0) = some (some .ok) := by decide +kernel

/-- With nothing to do and nothing due, a millisecond passes. -/
theorem test_step_idle : ready.dueEvents = [] ∧ (after (step ready)).isSome = true := by decide +kernel

/-- Table 10-3: the status word of a SAFE part under LOCKOUT and LOWPR, with a self-test, an odd round count, a LAPSED port and TABLE_RESET as cause. -/
theorem test_statusWord :
    let s := { inEngine .safe .selfTest ready with inputs := ⟨calm, calm, { calm with asserted := true }, { calm with asserted := true }⟩ }
    let s := { s with steam := { s.steam with roundCount := 0x0103 }, engine := { s.engine with cause := .tableReset } }
    (s.modPort 0 fun u => { u with link := .lapsed }).statusWord 0 false = 0x05EF ∧
    (s.modPort 0 fun u => { u with link := .lapsing }).statusWord 0 false = 0x05EF ∧ s.statusWord 0 true = 0x05EF ∧
    s.statusWord 0 false = 0x05CF := by decide +kernel

/-- The load at the end of the power-on sequence leaves the defaults of a new part. -/
theorem test_powerOn :
    let s := run .configLoadEnd (run .powerOn ready)
    s.outlets = State.reset.outlets ∧ s.engine = State.reset.engine ∧ s.ports = State.reset.ports ∧
    s.channels = State.reset.channels := by decide +kernel

/-- A frame received byte by byte is the command it carries. -/
theorem test_receiveByte :
    result 0 ((commandFrame 0x01 []).foldl (fun s b => run (.receiveByte 0 b true) s) ready) = some .ok := by
  decide +kernel

/-- A command from a port without the right answers DENIED. -/
theorem test_unpark_denied : result 1 (run (.unparkOutlet 1 [3]) ready) = some .denied := by decide +kernel

/-- SET PROFILE writes, and answers BAD_INDEX above 3. -/
theorem test_setProfile :
    (run (.setProfile 0 [2]) ready).profile = 2 ∧ result 0 (run (.setProfile 0 [4]) ready) = some .badIndex := by
  decide +kernel

/-! ## Witnesses: a state and operands that meet the hypotheses of each statement, clause by clause -/

/-- A burst entry of a port on O3. -/
def entry (p : Port) (st : BurstState) : BurstEntry :=
  { outlet := 3, requester := p, amount := 1000, duration := 600, waitLimit := 60, state := st }

/-- The plant with a burst entry of a port on O3, QUEUED or CLEARED. -/
def bursting (p : Port) (st : BurstState) (s : State) : State :=
  { s with bursts := [entry p st] }.modOutlet 3 fun o => { o with burstRef := true }

/-- A port unit changed. -/
def portIs (p : Port) (f : PortUnit → PortUnit) (s : State) : State := s.modPort p f

/-- A channel changed. -/
def chan (n : OutletId) (f : Channel → Channel) (s : State) : State := s.modChannel n f

/-- An outlet's condition, in record and channel. -/
def conditioned (n : OutletId) (k : Condition) (s : State) : State :=
  (s.modOutlet n fun o => { o with condition := k }).modChannel n fun c => { c with condition := k }

/-- A requester that waits and that no other waiting requester precedes in the rotation. -/
def firstInTurn (s : State) (r : Requester) : Bool :=
  requesters.all fun r' => !s.waits r' ||
    decide (turn s r ≤ turn s r')

theorem firstInTurn_spec (s : State) (r : Requester) (h : firstInTurn s r = true) :
    ∀ r', s.waits r' = true → turn s r ≤ turn s r' := by
  have all : ∀ r : Requester, r ∈ requesters := by
    intro r
    cases r with
    | port p => fin_cases p <;> decide
    | spe | wpe | selfTest | store => decide
  intro r' hw
  have := List.all_eq_true.mp h r' (all r')
  simpa [hw] using this

theorem none_held (s : State) (h : ∀ q, (s.port q).outstanding = none) :
    ∀ q code pl, (s.port q).outstanding ≠ some (.held code pl) := by
  intro q code pl
  simp [h q]

theorem witness_EmptyQueueStepIsTheDueEventOrOneMillisecond :
    State.reset.pending = [] ∧ State.reset.dueEvents ≠ [] ∧ ready.dueEvents = [] ∧ ready.engine.state ≠ .run ∧
    plant.pending = [] ∧ plant.dueEvents = [] ∧ plant.engine.state = .run := by decide +kernel

/-- For the four invariants that every step keeps. -/
theorem witness_EveryStep :
    let s := bursting 0 (.queued 0) plant
    s.BurstsKept ∧ s.BindingsKept ∧ s.AdminKept ∧ s.TableKept ∧ (after (step s)).isSome = true := by
  refine ⟨by decide +kernel, by decide +kernel, ⟨⟨0, by decide +kernel⟩, ⟨0, by decide +kernel⟩, ?_⟩,
    by decide +kernel, by decide +kernel⟩
  intro c h
  exact absurd (h.symm.trans (show (bursting 0 (.queued 0) plant).store.saving = none by decide +kernel)) (by simp)

/-- For IdentifyAndReadStatusAnswer and ReadEventsTakesTheFlagsAndMaskEventsWritesTheMask. -/
theorem witness_Receives :
    Receives ready 0 ∧ Receives (portIs 0 (fun u => { u with link := .lapsed }) ready) 0 ∧ Receives ready 1 := by
  decide +kernel

theorem witness_RecordReadsAnswer :
    Receives ready 0 ∧ (0x01 : Byte).toNat = (0 : BranchId).val + 1 ∧ (0x06 : Byte).toNat = (5 : BranchId).val + 1 ∧
    6 < (0x07 : Byte).toNat ∧ 1 < (0x02 : Byte).toNat ∧ (0x01 : Byte) ≠ 0 ∧ ([0] : List Byte).length ≠ 2 ∧
    ([] : List Byte).length ≠ 1 ∧ ¬ ChannelNamed 0x16 ∧ ¬ ChannelNamed 0x28 ∧ ¬ ChannelNamed 0x01 := by decide +kernel

theorem witness_OutletBurstAndRightsReadsAnswer :
    let listed := bursting 1 (.queued 0) plant
    Receives plant 0 ∧ TableIdle plant ∧ (plant.rights 0 23).read = true ∧ TableIdle listed ∧
    (listed.rights 0 3).read = true ∧ (1, entry 1 (.queued 0)) ∈ listed.burstsFrom 0 ∧
    (ready.globals 0).admin = true ∧ Receives ready 1 ∧ (0 : Port) ≠ 1 ∧ (ready.globals 1).admin = false ∧
    (1 : Byte).toNat ≤ 1 ∧ (0 : Byte).toNat ≤ 1 := by decide +kernel

/-- For PostCapacityWritesTheBoiler and PostMarginAndPumpFlowWriteTheirRecords. -/
theorem witness_PostCapacityAndTheOtherPosts :
    Receives ready 0 ∧ (ready.globals 0).capacity = true ∧ (ready.globals 0).store = true := by decide +kernel

theorem witness_PostingsAndSettingsAreRefusedInOrder :
    Receives ready 0 ∧ ([0, 0] : List Byte).length ≠ 3 ∧ ([0, 0] : List Byte).length ≠ 5 ∧
    ([] : List Byte).length ≠ 1 ∧ ([] : List Byte).length ≠ 2 ∧ ([0] : List Byte).length ≠ 4 ∧
    (ready.globals 1).capacity = false ∧ Receives ready 1 ∧ (ready.globals 0).capacity = true ∧
    1 < u8At [2, 0, 0] 0 ∧ 1 < u8At [0xFF, 0, 0, 0, 0] 0 := by decide +kernel

/-- For SET STORE, SET CHANNEL, SET BRANCH, SET WINDOW and SERVICE DRIVE in PostingsAndSettingsAreRefusedInOrder: their payloads. -/
theorem witness_PostingsAndSettingsAreRefusedInOrder_payloads :
    (let pl := fun a b c : Byte => [a, b, c, 0x02, 0x58, 0x01, 0xF4, 100, 0, 0]
     (pl 1 5 5).length = 10 ∧ u8At (pl 1 5 5) 0 ≤ 1 ∧ u8At (pl 1 5 5) 1 ≤ 5 ∧
     u8At (pl 1 5 5) 2 = u8At (pl 1 5 5) 1 ∧ 1 < u8At (pl 2 0 0xFF) 0 ∧
     ¬ (u8At (pl 0 6 0xFF) 1 ≤ 5 ∨ u8At (pl 0 6 0xFF) 1 = 0xFF) ∧
     ¬ (u8At (pl 0 0 0xFE) 2 ≤ 5 ∨ u8At (pl 0 0 0xFE) 2 = 0xFF)) ∧
    (¬ ChannelLength [] ∧ ¬ ChannelLength [0, 0, 0] ∧ ¬ ChannelLength [0x15, 1] ∧ ¬ ChannelLength [0x27, 1, 1]) ∧
    (ChannelLength [0, 3] ∧ ChannelLength [0x10, 2, 0] ∧ ChannelLength [0x27, 9] ∧ ChannelLength [0x16, 0] ∧
     ChannelLength [0x28, 0, 0]) ∧
    (¬ ChannelNamed 0x16 ∧ ¬ ChannelNamed 0x28 ∧ ¬ ChannelNamed 0x01 ∧ ChannelNamed 0x27 ∧ RatioNamed 0x10 ∧ RatioNamed 0x15 ∧ 2 < u8At [0, 3] 1 ∧ 1 < u8At [0x10, 2, 0] 1) ∧
    (5 < u8At [6, 0] 0 ∧ u8At [5, 0] 0 ≤ 5) ∧
    (2 < u8At [3, 0, 0, 0, 0, 0] 0 ∧ 4 < u8At [0, 5, 0, 0, 0, 0] 1 ∧ 5 < u8At [0, 3, 0, 6, 0, 0] 3 ∧
     3 < u8At [0, 3, 0, 0, 4, 0] 4 ∧ 32 ≤ u8At [0, 3, 0, 0, 0, 32] 5 ∧ u8At [0, 3, 0, 0, 0, 32] 1 < 4 ∧
     u8At [0, 4, 32, 0, 0, 0] 1 = 4 ∧ 32 ≤ u8At [0, 4, 32, 0, 0, 0] 2 ∧ 16 ≤ u8At [0, 4, 0, 16, 0, 0] 3) ∧
    (¬ DriveLength [] ∧ ¬ DriveLength [0, 0] ∧ ¬ DriveLength [0, 1, 0, 0] ∧ DriveLength [23, 0, 0, 0] ∧
     DriveLength [23, 1] ∧ DriveLength [0, 2] ∧ DriveLength [0, 2, 0, 0] ∧ 23 < u8At [24, 1] 0 ∧
     u8At [23, 1] 0 = (23 : OutletId).val) := by
  refine ⟨by decide, by decide, by decide, by decide, by decide, by decide, by decide⟩

/-- For the rights, engine states and outlets in PostingsAndSettingsAreRefusedInOrder. -/
theorem witness_PostingsAndSettingsAreRefusedInOrder_states :
    let serving := inEngine .service .none plant
    let lost := chan 2 (fun c => { c with pendingAbsence := true }) serving
    (ready.globals 1).store = false ∧ (ready.globals 1).admin = false ∧ (ready.globals 0).store = true ∧
    (ready.globals 0).admin = true ∧ Receives plant 0 ∧ (plant.globals 0).admin = true ∧
    plant.engine.state ≠ .standby ∧ plant.engine.state ≠ .service ∧ Receives serving 0 ∧
    (serving.globals 0).admin = true ∧ serving.engine.state = .service ∧ (serving.outlet 23).struct.pool = .unused ∧
    Receives lost 0 ∧ (lost.globals 0).admin = true ∧ lost.engine.state = .service ∧
    (lost.outlet 2).struct.pool ≠ .unused ∧ (lost.channel 2).pendingAbsence = true := by decide +kernel

theorem witness_SetStoreWritesTheStore :
    let pl : List Byte := [1, 5, 0xFF, 0x02, 0x58, 0x01, 0xF4, 100, 0, 0]
    Receives ready 0 ∧ (ready.globals 0).store = true ∧ pl.length = 10 ∧ (pl ++ [60, 50]).length = 12 ∧
    u8At pl 0 = (1 : StoreId).val ∧ optIndex? 6 (byteAt pl 1) = some (some 5) ∧
    optIndex? 6 (byteAt pl 2) = some none ∧ (some (5 : RatioId) = none ∨ some (5 : RatioId) ≠ none) := by decide +kernel

theorem witness_SetChannelWritesTheChannel :
    let faulty := { ready with reference := { ready.reference with state := .refFault } }
    Receives ready 0 ∧ (ready.globals 0).admin = true ∧ ready.engine.state = .standby ∧ Receives faulty 0 ∧
    (faulty.globals 0).admin = true ∧ faulty.engine.state = .standby ∧ faulty.reference.state = .refFault ∧
    FaultAction.safe ≠ faulty.reference.action ∧ FaultAction.invalid ≠ faulty.reference.action ∧
    FaultAction.hold = faulty.reference.action ∧ ready.reference.state ≠ .refFault ∧
    (ready.ratioChannel 5).state ≠ .disabled ∧
    ((ready.modRatio 0 fun c => { c with state := .disabled }).ratioChannel 0).state = .disabled := by decide +kernel

/-- For SetBranchWritesTheInterval and SetWindowWritesTheRights. -/
theorem witness_SetBranchAndSetWindow :
    Receives ready 0 ∧ (ready.globals 0).admin = true ∧ ready.engine.state = .standby ∧
    (∀ k, k ≠ (0 : Port) → (ready.globals k).admin = false) ∧ (∃ k, k ≠ (1 : Port) ∧ (ready.globals k).admin = true) := by
  decide +kernel

theorem witness_EngineStartEntersRun :
    Receives ready 0 ∧ (ready.globals 0).admin = true ∧ ready.engine.op = .none ∧ ready.engine.state = .standby ∧
    (inEngine .standby .selfTest ready).engine.op = .selfTest ∧
    (ready.channel 0).phase = .safePattern := by decide +kernel

theorem witness_EngineStopEntersStandby :
    let testing := heldBy .spe (chan 5 (fun c => { c with phase := .test }) plant)
    Receives plant 0 ∧ (plant.globals 0).admin = true ∧ plant.engine.op = .none ∧ plant.engine.state = .run ∧
    plant.tableFree = true ∧ Receives testing 0 ∧ testing.tableFree = false ∧ (testing.channel 5).phase = .test ∧
    (inEngine .service .none plant).engine.state = .service := by decide +kernel

theorem witness_ServiceEnterAndLeave :
    let s := chan 2 (fun c => { c with phase := .held }) (inEngine .service .none plant)
    Receives plant 0 ∧ (plant.globals 0).admin = true ∧ plant.engine.state = .run ∧ Receives s 0 ∧
    (s.globals 0).admin = true ∧ s.engine.state = .service ∧ s.engine.op = .none := by decide +kernel

theorem witness_TestTableAndSaveConfigAreAccepted :
    Receives ready 0 ∧ (ready.globals 0).admin = true ∧ ready.engine.op = .none ∧ ready.engine.state ≠ .safe ∧
    ready.engine.state = .standby := by decide +kernel

theorem witness_EngineCommandsAreRefusedInOrder :
    let held := portIs 1 (fun u => { u with link := .lapsing, outstanding := some (.held 0x01 []) }) ready
    ([0] : List Byte) ≠ [] ∧ Receives ready 1 ∧ (ready.globals 1).admin = false ∧ Receives ready 0 ∧
    (∀ op ∈ [Operation.save, .load, .selfTest], Receives (inEngine .standby op ready) 0 ∧
      ((inEngine .standby op ready).globals 0).admin = true ∧ (inEngine .standby op ready).engine.op = op) ∧
    (∀ e ∈ [EngineState.standby, .run, .service, .safe], Receives (inEngine e .none ready) 0 ∧
      ((inEngine e .none ready).globals 0).admin = true ∧ (inEngine e .none ready).engine.state = e ∧
      (inEngine e .none ready).engine.op = .none) ∧
    Receives held 0 ∧ (held.port 1).outstanding = some (.held 0x01 []) ∧ (held.port 1).link = .lapsing := by
  decide +kernel

theorem witness_EngineResetResets :
    let s := heldBy (.port 1) plant
    Receives plant 0 ∧ (plant.globals 0).admin = true ∧ plant.engine.op = .none ∧ plant.portHolds = false ∧
    plant.arbiter.holder ≠ some .store ∧ Receives s 0 ∧ (s.globals 0).admin = true ∧ s.portHolds = true := by
  decide +kernel

theorem witness_TableResetStartsTheLoad :
    let s := heldBy (.port 1) plant
    let frame := portIs 1 (fun u => { u with link := .lapsing, outstanding := some (.held 0x01 []) }) plant
    Receives plant 0 ∧ (plant.globals 0).admin = true ∧ plant.engine.op = .none ∧ plant.portHolds = false ∧
    Receives s 0 ∧ s.portHolds = true ∧ Receives frame 0 ∧ (frame.port 1).outstanding = some (.held 0x01 []) := by
  decide +kernel

/-- R136: the drive grant is 0 from a TABLE RESET on, also where emptying the burst list lowers a record's grant. -/
theorem test_tableReset_driveGrant :
    let s := (bursting 1 (.cleared 5000 1) plant).setGrant 3 1000
    let t := run (.tableReset 0 []) s
    (t.outlet 3).grant = 400 ∧ (t.channel 3).grant = 0 ∧ t.bursts = [] := by decide +kernel

/-- R169, R170: a TABLE RESET that finds the deferred steps of an ENGINE RESET still to come, with no port holding the table, leaves nothing deferred. -/
theorem test_tableReset_overtakes :
    let s := plant.modArbiter fun a => { a with deferred := .engine }
    (run (.tableReset 0 []) s).arbiter.deferred = .none ∧ (run (.tableReset 0 []) s).arbiter.holder = some .store ∧
    (run (.tableReset 0 []) (heldBy (.port 1) s)).arbiter.deferred = .table := by decide +kernel

/-- R169: an ENGINE RESET that abandons a steam round leaves SPE the last holder its hand-over made it, so that a waiting port comes before it. -/
theorem test_engineReset_lastHolder :
    let s := run .tableHandover (plant.modArbiter fun a => { a with steamRequest := true })
    let t := run (.engineReset 0 []) s
    s.arbiter.holder = some .spe ∧ t.arbiter.holder = none ∧ t.arbiter.lastHolder = .spe := by decide +kernel

theorem witness_ServiceDriveSetsAndReleasesTheOverride :
    let s := inEngine .service .none plant
    Receives s 0 ∧ (s.globals 0).admin = true ∧ s.engine.state = .service ∧ (s.outlet 2).struct.pool ≠ .unused ∧
    (s.channel 2).condition = .active ∧ (s.channel 2).pendingAbsence = false := by decide +kernel

theorem witness_SetDemandWritesTheDemand :
    let s := bursting 0 (.cleared 5000 1) plant
    Reaches plant 0 5 [BitVec.ofNat 8 (5 : OutletId).val, 0x03, 0x84] OutletRights.demand ∧
    (plant.outlet 5).struct.pool ≠ .unused ∧ (plant.outlet 5).struct.role = .plain ∧
    Reaches s 0 3 [BitVec.ofNat 8 (3 : OutletId).val, 0, 0] OutletRights.demand ∧ (s.outlet 3).struct.role = .plain ∧
    s.clearedAmount 3 = some 1000 := by decide +kernel

theorem witness_OutletCommandsAreRefusedInOrder :
    Receives ready 0 ∧ ([0] : List Byte).length ≠ 3 ∧ 23 < (24 : Byte).toNat ∧ Receives ready 1 ∧
    (ready.rights 1 0).demand = false ∧ Receives (inEngine .standby .save ready) 0 ∧
    ((inEngine .standby .save ready).rights 0 23).demand = true ∧ (inEngine .standby .save ready).engine.op ≠ .none ∧
    TableIdle plant ∧ (plant.rights 0 23).demand = true ∧ (plant.outlet 23).struct.pool = .unused ∧
    (plant.rights 0 0).demand = true ∧ (plant.outlet 0).struct.pool ≠ .unused ∧
    (plant.outlet 0).struct.role ≠ .plain := by decide +kernel

/-- For the other table commands in OutletCommandsAreRefusedInOrder, before the table. -/
theorem witness_OutletCommandsAreRefusedInOrder_checks :
    let mute := portIs 1 (fun u => { u with config := { u.config with defaultRights := ⟨false, false, false, false, false⟩ } }) ready
    ([0, 0] : List Byte).length ≠ 1 ∧ Receives mute 1 ∧ (mute.globals 1).profile = false ∧ 23 < u8At [24] 0 ∧ 2 < u8At [0, 3] 1 ∧
    u8At [23, 2] 1 ≤ 2 ∧ u8At [23] 0 = (23 : OutletId).val ∧ (mute.rights 1 23).read = false ∧
    (mute.rights 1 23).park = false ∧ (mute.rights 1 23).burst = false := by decide +kernel

/-- For the other table commands in OutletCommandsAreRefusedInOrder, with the table: an UNUSED outlet, a WATER one, SAFE, and each condition. -/
theorem witness_OutletCommandsAreRefusedInOrder_table :
    let safe := inEngine .safe .none plant
    Receives plant 0 ∧ TableIdle plant ∧ (plant.outlet 23).struct.pool = .unused ∧ (plant.rights 0 23).park = true ∧
    (plant.rights 0 23).burst = true ∧ (plant.outlet 8).struct.pool = .water ∧ plant.engine.state ≠ .safe ∧
    Receives safe 0 ∧ TableIdle safe ∧ (safe.rights 0 5).park = true ∧ (safe.rights 0 5).burst = true ∧
    safe.engine.state = .safe ∧ (plant.outlet 5).struct.pool = .steam ∧ plant.entryOf 5 = none ∧
    (∀ k ∈ [Condition.active, .parked, .absent, .sensing .parked],
      let s := conditioned 5 k plant
      Receives s 0 ∧ TableIdle s ∧ (s.rights 0 5).park = true ∧ (s.rights 0 5).burst = true ∧
      (s.outlet 5).struct.pool = .steam ∧ (s.outlet 5).condition = k) := by decide +kernel

theorem witness_SetLimitsWritesAndLowers :
    let pl : List Byte := [3, 3, 2, 1, 0, 0, 0, 50, 0, 200, 2, 0, 10, 60]
    pl.length = 14 ∧ Reaches plant 0 3 pl OutletRights.limits ∧ plant.engine.state ≠ .safe ∧
    (plant.outlet 3).struct.pool ≠ .unused ∧ lapseAction? (byteAt pl 10) = some .zero ∧
    (lapseAction? 0 = some .hold ∧ lapseAction? 1 = some .fallback) := by decide +kernel

/-- For the refusals of SET LIMITS. -/
theorem witness_SetLimitsWritesAndLowers_refusals :
    let pl := fun b k : Byte => [b, 3, 2, 1, 0, 0, 0, 50, 0, 200, k, 0, 10, 60]
    let busy := inEngine .standby .save ready
    (pl 23 3).length = 14 ∧ 23 < u8At (pl 24 0) 0 ∧ u8At (pl 23 3) 0 = (23 : OutletId).val ∧ Receives ready 1 ∧
    (ready.rights 1 23).limits = false ∧ Receives busy 0 ∧ (busy.rights 0 23).limits = true ∧
    busy.engine.op ≠ .none ∧ Receives plant 0 ∧ TableIdle plant ∧ (plant.rights 0 23).limits = true ∧
    plant.engine.state ≠ .safe ∧ (plant.outlet 23).struct.pool = .unused ∧ (plant.outlet 3).struct.pool ≠ .unused ∧
    2 < u8At (pl 3 3) 10 ∧ TableIdle (inEngine .safe .none plant) ∧ (inEngine .safe .none plant).engine.state = .safe ∧
    ((inEngine .safe .none plant).rights 0 3).limits = true := by decide +kernel

theorem witness_SetOutletConfigWritesTheStructure :
    let s := inEngine .standby .none plant
    let pl : List Byte := [9, 1, 0, 0xFF, 7, 0x03, 0xE8, 0, 0, 1, 0x02, 0x58, 0, 0, 50]
    let pl' : List Byte := [9, 0, 0, 5, 0xFF, 0, 0, 0, 0, 0, 0, 0, 0, 0, 0]
    pl.length = 15 ∧ pl'.length = 15 ∧ Receives s 0 ∧ TableIdle s ∧ outletArg pl = some 9 ∧ outletArg pl' = some 9 ∧
    (s.globals 0).admin = true ∧ s.engine.state = .standby ∧
    (State.parseStructure pl).any (fun raw => decide (s.structureRefusal 9 raw = none ∧ raw.pool = (s.outlet 9).struct.pool)) = true ∧
    (State.parseStructure pl').any (fun raw => decide (s.structureRefusal 9 raw = none ∧ raw.pool ≠ (s.outlet 9).struct.pool)) = true := by
  decide +kernel

/-- The plant in STANDBY, and a payload of SET OUTLET CONFIG for O9. -/
def standing : State := inEngine .standby .none plant

def configOf (pool role meter : Byte) : List Byte :=
  [9, pool, role, 0xFF, meter, 0x03, 0xE8, 0, 0, 0, 0x02, 0x58, 0, 0, 50]

def structureOf (pool role meter : Byte) : OutletStructure :=
  (State.parseStructure (configOf pool role meter)).getD Config.defaultStructure

/-- For the refusals of SET OUTLET CONFIG. -/
theorem witness_SetOutletConfigWritesTheStructure_refusals :
    (configOf 1 0 7).length = 15 ∧ u8At (configOf 1 0 7) 0 = (9 : OutletId).val ∧ 23 < u8At [24] 0 ∧
    Receives standing 0 ∧ (standing.globals 0).admin = true ∧ Receives standing 1 ∧
    (standing.globals 1).admin = false ∧ (inEngine .standby .save plant).engine.op ≠ .none ∧ TableIdle standing ∧
    TableIdle plant ∧ plant.engine.state ≠ .standby ∧ standing.engine.state = .standby := by decide +kernel

theorem witness_SetOutletConfigWritesTheStructure_codes :
    CodeUndefined (configOf 3 0 7) ∧ CodeUndefined (configOf 1 3 7) ∧ CodeUndefined (configOf 1 0 8) ∧
    ¬ CodeUndefined (configOf 1 0 7) ∧ (State.parseStructure (configOf 1 0 7)).isSome = true := by
  refine ⟨by decide, by decide, by decide, by decide, by decide⟩

/-- For the cases of R3 that refuse a structure. -/
theorem witness_SetOutletConfigWritesTheStructure_R3 :
    let metered := standing.modOutlet 8 fun o => { o with struct := { o.struct with meter := some 7 } }
    let marked := standing.modOutlet 9 fun o => { o with burstRef := true }
    (TableIdle marked ∧ ChangeRefused (marked.outlet 9) (structureOf 0 0 0xFF)) ∧
    (¬ ChangeRefused (standing.outlet 9) (structureOf 1 1 7) ∧ PoolRefused (structureOf 1 1 7)) ∧
    (TableIdle metered ∧ ¬ ChangeRefused (metered.outlet 9) (structureOf 1 0 7) ∧ ¬ PoolRefused (structureOf 1 0 7)) ∧
    BindingTaken metered 9 (structureOf 1 0 7) ∧ ¬ BindingTaken standing 9 (structureOf 1 0 7) := by
  refine ⟨by decide +kernel, by decide +kernel, by decide +kernel, ⟨8, by decide +kernel⟩, ?_⟩
  show ¬ ∃ m, m ≠ (9 : OutletId) ∧ _
  decide +kernel

theorem witness_ParkOutletParks :
    let s := bursting 1 (.queued 0) plant
    Reaches plant 0 3 [BitVec.ofNat 8 (3 : OutletId).val] OutletRights.park ∧ (plant.outlet 3).struct.pool ≠ .unused ∧
    (plant.outlet 3).condition = .active ∧ Reaches s 0 3 [BitVec.ofNat 8 (3 : OutletId).val] OutletRights.park ∧
    s.entryOf 3 ≠ none := by decide +kernel

theorem witness_UnparkAndClearAbsentReturnToActive :
    (∀ k ∈ [Condition.active, .parked, .absent],
      Reaches (conditioned 5 k plant) 0 5 [BitVec.ofNat 8 (5 : OutletId).val] OutletRights.park ∧
      ((conditioned 5 k plant).outlet 5).struct.pool ≠ .unused ∧ ((conditioned 5 k plant).outlet 5).condition = k) := by
  decide +kernel

theorem witness_SenseStartEntersTest :
    (∀ k ∈ [Condition.parked, .absent],
      Reaches (conditioned 5 k plant) 0 5 [BitVec.ofNat 8 (5 : OutletId).val] OutletRights.park ∧
      ((conditioned 5 k plant).outlet 5).struct.pool ≠ .unused ∧ (conditioned 5 k plant).engine.state ≠ .safe ∧
      ((conditioned 5 k plant).outlet 5).condition = k) := by decide +kernel

theorem witness_SenseEndWritesTheFinding :
    (∀ k ∈ [Prior.parked, .absent],
      let s := chan 5 (fun c => { c with phase := .test }) (conditioned 5 (.sensing k) plant)
      Reaches s 0 5 [BitVec.ofNat 8 (5 : OutletId).val] OutletRights.park ∧ (s.outlet 5).struct.pool ≠ .unused ∧
      (s.outlet 5).condition = .sensing k ∧ (s.channel 5).phase = .test) := by decide +kernel

theorem witness_RequestBurstAppendsAnEntry :
    let pl : List Byte := [BitVec.ofNat 8 (3 : OutletId).val, 0x03, 0xE8, 0x02, 0x58, 0, 60]
    let busy := bursting 1 (.queued 0) plant
    let entry : BurstEntry :=
      { outlet := 2, requester := 1, amount := 1, duration := 10, waitLimit := 10, state := .queued 0 }
    let full : State := { plant with bursts := List.replicate 8 entry }
    (∀ s ∈ [plant, busy, full], Reaches s 0 3 pl OutletRights.burst ∧ s.engine.state ≠ .safe ∧
      (s.outlet 3).struct.pool = .steam ∧ (s.outlet 3).condition = .active) ∧
    plant.entryOf 3 = none ∧ plant.bursts.length < 8 ∧ busy.entryOf 3 ≠ none ∧ full.entryOf 3 = none ∧
    8 ≤ full.bursts.length := by decide +kernel

theorem witness_EndBurstRemovesTheEntry :
    (∀ p ∈ [(0 : Port), 1], ∀ st ∈ [BurstState.queued 0, .cleared 5000 1],
      let s := bursting p st plant
      s.BurstsKept ∧ Reaches s 0 3 [BitVec.ofNat 8 (3 : OutletId).val] OutletRights.burst ∧
      (s.outlet 3).struct.pool = .steam ∧ (s.entryOf 3).any (fun e => decide (e.requester = p)) = true) := by
  decide +kernel

theorem witness_SetProfileWritesTheProfile :
    Receives ready 0 ∧ TableIdle ready ∧ (ready.globals 0).profile = true ∧ (3 : Byte).toNat = (3 : Profile).val ∧
    3 < (4 : Byte).toNat := by decide +kernel

theorem witness_FramesAreReceivedAndTaken :
    let waiting := portIs 0 (fun u => { u with outstanding := some (.waiting 0x28 [1] false) }) ready
    let lapsing := portIs 0 (fun u => { u with link := .lapsing }) ready
    (ready.engine.starting = false ∧ Receives ready 0 ∧ Code.ofByte 0x00 = none ∧ Code.ofByte 0xFF = none ∧
      waiting.engine.starting = false ∧ (waiting.port 0).outstanding ≠ none ∧ waiting.transmitting 0 = false ∧
      lapsing.engine.starting = false ∧ (lapsing.port 0).outstanding = none ∧ (lapsing.port 0).link = .lapsing) ∧
    (∀ r ∈ [Receiver.idle, .discard, .inFrame [], .inFrame [0], .inFrame [32, 1], .inFrame ([0] ++ [1] ++ [] ++ [0])],
      let s := portIs 0 (fun u => { u with receiver := r }) ready
      s.engine.starting = false ∧ s.transmitting 0 = false ∧ (s.port 0).receiver = r) ∧
    ([] : List Byte).length + 1 < (0 : Byte).toNat + 3 ∧ ([1] : List Byte).length + 1 < (32 : Byte).toNat + 3 ∧
    ([] : List Byte).length = (0 : Byte).toNat ∧
    (∃ c ∈ List.range 256, ∃ b ∈ List.range 256, (crc [0, 1]).toNat =
      (BitVec.ofNat 8 c : Byte).toNat * 256 + (BitVec.ofNat 8 b : Byte).toNat) := by
  refine ⟨by decide +kernel, by decide +kernel, by decide, by decide, by decide, 0x0D, by decide, 0x2E, by decide,
    by decide +kernel⟩

theorem witness_QuietLinesAndTheEndOfAResponse :
    (∀ r ∈ [Receiver.inFrame [1], .discard],
      ((portIs 0 (fun u => { u with receiver := r }) ready).port 0).receiver = r) ∧
    ((run (.setProfile 0 [1]) ready).port 0).outstanding =
      some (.answered { code := 0x28, result := .ok, status := 0x0100, payload := [] } false) ∧
    (run (.setProfile 0 [1]) ready).arbiter.holder = some (.port 0) := by
  decide +kernel

/-- Port 1 with a silence timer that runs, owning the demand of O5. -/
def leased (s : State) : State :=
  portIs 1 (fun u => { u with silence := some { left := 0, loaded := 5000, warned := false } })
    (s.modOutlet 5 fun o => { o with owner := .port 1 })

theorem witness_LapseWithdrawsWhatThePortAskedFor :
    let s := leased (bursting 1 (.queued 0) plant)
    let held := heldBy .spe s
    let lapsing := portIs 1 (fun u => { u with link := .lapsing, silence := none }) s
    (s.BurstsKept ∧ s.silenceRuns 1 = true ∧ (s.port 1).silence = some { left := 0, loaded := 5000, warned := false } ∧
      s.tableFree = true ∧ held.silenceRuns 1 = true ∧ held.tableFree = false ∧ (s.boiler 0).poster = some 0 ∧
      lapsing.BurstsKept ∧ (lapsing.port 1).link = .lapsing ∧ lapsing.mayApply (.lapse 1) = true ∧
      (lapsing.port 0).outstanding = none ∧ (lapsing.port 2).outstanding = none) ∧
    ∀ q code pl, (lapsing.port q).outstanding ≠ some (.held code pl) :=
  ⟨by decide +kernel, none_held _ (by decide +kernel)⟩

/-- R148, R150: the frame held during a lapse is taken when its table part has been applied; it revives the port, and its response shows LAPSED. -/
theorem test_applyLapse_heldFrame :
    let s := portIs 1 (fun u => { u with link := .lapsing, silence := none, outstanding := some (.held 0x01 []) })
      (leased plant)
    let t := run (.applyLapse 1) s
    s.mayApply (.lapse 1) = true ∧ (t.outlet 5).owner = .none ∧ (t.port 1).link = .active ∧ result 1 t = some .ok ∧
    (match (t.port 1).outstanding with
      | some (.answered r _) => r.status.getLsbD 5
      | _ => false) = true := by decide +kernel

/-- The plant with a requester waiting. -/
def waitingFor (r : Requester) : State :=
  match r with
  | .port p => portIs p (fun u => { u with outstanding := some (.waiting 0x28 [1] false) }) plant
  | .spe => plant.modArbiter fun a => { a with steamRequest := true, waterRequest := true }
  | .wpe => plant.modArbiter fun a => { a with waterRequest := true }
  | .selfTest => inEngine .run .selfTest plant
  | .store => inEngine .standby .save plant

theorem witness_HandOverFollowsTheRotation (r : Requester) (h : r ∈ requesters) :
    (waitingFor r).mayHandOver = true ∧ (waitingFor r).waits r = true ∧
    ∀ r', (waitingFor r).waits r' = true → turn (waitingFor r) r ≤ turn (waitingFor r) r' := by
  have : ∀ r ∈ requesters, (waitingFor r).mayHandOver = true ∧ (waitingFor r).waits r = true ∧
      firstInTurn (waitingFor r) r = true := by decide +kernel
  obtain ⟨h1, h2, h3⟩ := this r h
  exact ⟨h1, h2, firstInTurn_spec _ _ h3⟩

/-- For the table commands of HandOverFollowsTheRotation: an operation in progress, the table held, another port first in the rotation, and the table free with nobody before the port. -/
theorem witness_HandOverFollowsTheRotation_waiting :
    let held := heldBy .spe plant
    let second := plant.modArbiter fun a => { a with steamRequest := true, lastHolder := .port 2 }
    (∀ s ∈ [plant, held, second, inEngine .standby .save plant], Receives s 0) ∧
    (∃ n, outletArg [5, 0, 0] = some n ∧ (plant.rights 0 n).demand = true) ∧ (plant.globals 0).profile = true ∧
    (inEngine .standby .save plant).engine.op ≠ .none ∧ held.engine.op = .none ∧ held.tableFree = false ∧
    second.tableFree = true ∧ second.waits .spe = true ∧ turn second .spe < turn second (.port 0) ∧
    plant.tableFree = true ∧ (∀ r ∈ requesters, plant.waits r = false) := by
  refine ⟨by decide +kernel, ⟨5, by decide +kernel⟩, by decide +kernel⟩

/-- R20, R21: a table command waits while a round holds the table, and is carried out when the table is handed to it. -/
theorem test_setProfile_waits :
    let s := run (.setProfile 0 [2]) (heldBy .spe plant)
    let t := run .tableHandover (run .steamRound s)
    (s.port 0).outstanding = some (.waiting 0x28 [2] false) ∧ s.profile = 0 ∧ t.profile = 2 ∧
    result 0 t = some .ok := by decide +kernel

theorem witness_RoundTimersAskForTheTableOrSkip :
    let s := waitingFor .spe
    let t := waitingFor .selfTest
    plant.engine.state = .run ∧ plant.steam.timer ≠ none ∧ plant.water.timer ≠ none ∧ plant.engine.op ≠ .selfTest ∧
    plant.arbiter.steamRequest = false ∧ plant.arbiter.waterRequest = false ∧ s.arbiter.steamRequest = true ∧
    s.arbiter.waterRequest = true ∧ t.engine.state = .run ∧ t.engine.op = .selfTest := by decide +kernel

theorem witness_SteamRoundCloses :
    let s := heldBy .spe plant
    let u := heldBy .spe (stored 1 .notValid 150 plant)
    s.arbiter.holder = some .spe ∧ (s.outlet 0).struct.pool = .steam ∧ (s.outlet 0).struct.role = .recharge 0 ∧
    (s.storeRec 0).reading.value? = some 520 ∧ u.arbiter.holder = some .spe ∧
    (u.outlet 1).struct.role = .recharge 1 ∧ (u.storeRec 1).reading.value? = none ∧
    (s.outlet 8).struct.pool ≠ .steam ∧ s.entryOf 8 = none ∧ (s.outlet 2).struct.role = .plain ∧
    (∀ n, n ≠ 1 → (s.outlet n).struct.role ≠ .recharge 1) ∧
    (∀ n, (ready.outlet n).struct.pool ≠ .steam) := by decide +kernel

/-- For StagesOfARound and RoundsGrantByTheirStages: shares, a fill with a capped member and one without, a LOCKOUT, a reservation that does not fit, and a head of the queue that fits or does not. -/
theorem witness_StagesOfARoundAndRoundsGrantByTheirStages :
    let xs := plant.shares .water
    let cleared := bursting 1 (.cleared 5000 1) plant
    let locked := { plant with inputs := { plant.inputs with lockout := { calm with low := true, asserted := true } } }
    let queued := bursting 0 (.queued 0) plant
    (xs.Pairwise fun x y => x.outlet < y.outlet) ∧ (∀ x ∈ xs, 1 ≤ x.weight) ∧ xs ≠ [] ∧
    xs.any (fun x => x.inFill 0 && decide (x.need ≤ 100 * x.weight / 10)) = false ∧
    xs.any (fun x => x.inFill 0 && decide (x.need ≤ 800 * x.weight / 10)) = true ∧
    plant.lockout = false ∧ locked.lockout = true ∧ locked.BurstsKept ∧ cleared.BurstsKept ∧ cleared.clearedTotal ≤ 1000 ∧
    999 < cleared.clearedTotal ∧ cleared.bursts.all BurstEntry.isCleared = true ∧ queued.BurstsKept ∧
    (queued.bursts.find? fun e => !e.isCleared) = some (entry 0 (.queued 0)) ∧ (entry 0 (.queued 0)).amount = 1000 ∧
    (heldBy .spe queued).arbiter.holder = some .spe ∧ (heldBy .wpe queued).arbiter.holder = some .wpe := by
  decide +kernel

/-- R49: while O2 of tier 1 is short of its demand, O4 of tier 3 holds nothing above its floor. -/
theorem test_tiersInOrder :
    let s := { plant with steam := { plant.steam with boilers := (plant.steam.boilers.map fun b => { b with postedKw := 1200 }) } }
    (s.outlet 2).limits.tiers[s.profile] < (s.outlet 4).limits.tiers[s.profile] ∧ (s.outlet 2).condition = .active ∧
    (s.outlet 4).condition = .active ∧ s.bursts = [] ∧ ((steamed s).outlet 2).demand = 600 ∧
    ((steamed s).outlet 2).grant < 600 ∧ ((steamed s).outlet 4).grant = 0 ∧
    ((steamed s).port 0).flags.outletShed = none := by decide +kernel

theorem witness_GrantsNeverExceedTheUsableCapacity :
    let s := bursting 0 (.cleared 5000 1) plant
    (heldBy .spe s).BurstsKept ∧ (heldBy .spe s).arbiter.holder = some .spe ∧ (heldBy .wpe s).BurstsKept ∧
    (heldBy .wpe s).arbiter.holder = some .wpe := by decide +kernel

theorem witness_WaterRoundDerates :
    let s := heldBy .wpe plant
    let cold := heldBy .wpe (stored 0 (.primary 500) 150 plant)
    let warm := heldBy .wpe (stored 0 .notValid 150 (stored 1 (.secondary 600) 150 plant))
    let blind := heldBy .wpe (stored 0 .notValid 150 (stored 1 .notValid 150 plant))
    s.arbiter.holder = some .wpe ∧ (s.storeRec 0).reading.value? = some 520 ∧
    (s.storeRec 1).reading.value? = some 540 ∧ (520 : Int) = min 520 540 ∧
    (s.storeRec 0).settings.lowPoint = 500 ∧ (s.storeRec 0).settings.setpoint = 600 ∧ s.water.dLow ≤ 100 ∧
    (s.storeRec 0).settings.lowPoint + 10 ≤ (s.storeRec 0).settings.setpoint ∧
    (s.storeRec 1).settings.lowPoint + 10 ≤ (s.storeRec 1).settings.setpoint ∧ cold.arbiter.holder = some .wpe ∧ (cold.storeRec 0).reading.value? = some 500 ∧
    (warm.storeRec 0).reading.value? = none ∧ (warm.storeRec 1).reading.value? = some 600 ∧
    (blind.storeRec 0).reading.value? = none ∧ (blind.storeRec 1).reading.value? = none := by decide +kernel

theorem witness_WaterRoundCloses :
    let s := heldBy .wpe plant
    let dry := { s with water := { s.water with flow := 0 } }
    let first := { s with water := { s.water with firstRound := true } }
    s.arbiter.holder = some .wpe ∧ s.water.flow ≤ 2000 ∧ (run .waterRound s).water.lastDerate ≤ 100 ∧
    (run .waterRound s).water.lastUsable ≠ 0 ∧ (run .waterRound dry).water.lastUsable = 0 ∧
    first.water.firstRound = true ∧ first.arbiter.holder = some .wpe ∧ (s.outlet 8).struct.pool = .water ∧
    (s.outlet 0).struct.pool ≠ .water := by decide +kernel

/-- For the trims of WaterRoundCloses: a metered outlet over and within its tolerance, at the streaks where the trim steps and where it does not. -/
theorem witness_WaterRoundCloses_trims :
    let at' := fun (count o₁ o₂ : Nat) =>
      (chan 8 (fun c => { c with phase := .cycling }) (heldBy .wpe plant)).modPulse 0 (fun c => { c with count := count })
        |>.modOutlet 8 fun o => { o with struct := { o.struct with meter := some 0 }, grant := 260, overStreak := o₁, underStreak := o₂ }
    comparedFlow (at' 30 2 0) 8 = some 900 ∧ overdrawn ((at' 30 2 0).outlet 8) 900 = true ∧
    comparedFlow (at' 5 0 9) 8 = some 150 ∧ overdrawn ((at' 5 0 9).outlet 8) 150 = false ∧
    comparedFlow plant 8 = none ∧ ((at' 30 1 0).outlet 8).overStreak < 2 ∧ ((at' 5 0 8).outlet 8).underStreak < 9 ∧
    ((run .waterRound (at' 30 2 0)).outlet 8).trim = 95 ∧ ((run .waterRound (at' 5 0 9)).outlet 8).overStreak = 0 := by
  decide +kernel

theorem witness_PlantInputsAreDebounced :
    (∀ d ∈ [Debounce.steady, .differing 0, .differing 100, .establishing 0 true, .establishing 100 false],
      ({ plant with inputs := { plant.inputs with lowpr := { calm with debounce := d } } }.input .lowpr).debounce = d) ∧
    (plant.input .trip0).asserted = false := by decide +kernel

/-- The part about to judge a reference conversion, from a state of the reference. -/
def judging (r : RefState) (a : FaultAction) : State :=
  { ready with reference := { ready.reference with state := r, action := a } }

theorem witness_ReferenceConversionSetsTheReference :
    (∀ r ∈ [RefState.pending, .valid 5000, .refFault], ∀ a ∈ [FaultAction.hold, .invalid, .safe],
      (judging r a).engine.starting = false ∧ (judging r a).scan.slot = .reference) ∧
    (decide (2000 ≤ (2000 : Word).toNat ∧ (20000 : Word).toNat ≤ 20000)) = true ∧
    ({ judging .refFault .hold with reference := { ready.reference with hold := some 0 } }.reference.hold ≠ none) := by
  decide +kernel

theorem witness_RatioConversionIsJudged :
    let s := { judging (.valid 5000) .hold with scan := { slot := .ratio 5, gateLeft := 0 } }
    let blind := { judging .refFault .hold with scan := { slot := .ratio 5, gateLeft := 0 } }
    let held := { blind with reference := { blind.reference with hold := some 5 } }
    (∀ t ∈ [s, blind, held], t.engine.starting = false ∧ t.scan.slot = .ratio 5 ∧ (t.ratioChannel 5).state ≠ .disabled) ∧
    (99 : Word).toNat < 100 ∧ 100 ≤ (100 : Word).toNat ∧ s.reference.state = .valid 5000 ∧
    1600 < 1000 * 5000 / (3100 : Word).toNat ∧ 900 ≤ 1000 * 5000 / (5555 : Word).toNat ∧
    1000 * 5000 / (3125 : Word).toNat = 1600 ∧ blind.reference.hold = none ∧ held.reference.hold ≠ none := by
  decide +kernel

theorem witness_RatioConversionIsJudged_noReference :
    ∀ cr, (judging .refFault .hold).reference.state ≠ .valid cr := by
  intro cr
  have : (judging .refFault .hold).reference.state = .refFault := by decide +kernel
  simp [this]

theorem witness_PulsesAreCountedToSaturation :
    let at' := fun n => plant.modPulse 7 fun c => { c with count := n, overflow := decide (4095 ≤ n) }
    ((at' 4094).pulseChannel 7).count < 4095 ∧ ((at' 4094).pulseChannel 7).count = 4094 ∧
    ((at' 4095).pulseChannel 7).count = 4095 ∧ ((at' 4095).pulseChannel 7).overflow = true ∧
    (heldBy .wpe { plant with water := { plant.water with firstRound := true } }).arbiter.holder = some .wpe := by
  decide +kernel

/-- O2 in a phase with a grant, on branch B1. -/
def phased (ph : Phase) (g : Nat) : State :=
  let st := { Config.defaultStructure with pool := .steam, branch := some 1 }
  chan 2 (fun c => { c with phase := ph, grant := g, copy := st, inUse := st }) plant

theorem witness_PeriodBoundaryFormsTheDuty :
    let waiting := (phased .off 800).modBranch 1 fun r => { r with timer := some 5 }
    (∀ ph ∈ [Phase.off, .settleWait, .warming, .cycling, .held, .test, .safePattern], ∀ g ∈ [0, 800],
      (phased ph g).engine.starting = false ∧ ((phased ph g).channel 2).phase = ph ∧
      (decide (0 < formedDuty (phased ph g) 2) = decide (g = 800))) ∧
    formedDuty ((phased .off 800).modArbiter fun a => { a with engineWrite := .grants }) 2 = 0 ∧
    ((phased .off 800).channel 2).condition = .active ∧ ((phased .off 800).channel 2).pendingAbsence = false ∧
    ((phased .off 800).channel 2).copy.branch = some 1 ∧ (waiting.branch 1).timer ≠ none ∧
    ((phased .off 800).branch 1).timer = none ∧ ((phased .off 800).branch 1).queue = [] ∧
    ((chan 2 (fun c => { c with override := some 5 }) (phased .held 0)).channel 2).override ≠ none ∧
    ((phased .cycling 800).channel 2).override = none := by decide +kernel

theorem witness_DriveTimersAndTicks :
    let s := (phased .settleWait 800).modBranch 1 fun r => { r with timer := some 0, queue := [2] }
    let z := (phased .settleWait 0).modBranch 1 fun r => { r with timer := some 0, queue := [2] }
    let two := chan 4 (fun c => { c with phase := .settleWait, grant := 500, copy := { c.copy with branch := some 1 } })
      ((phased .settleWait 0).modBranch 1 fun r => { r with timer := some 0, queue := [2, 4] })
    let on := chan 2 (fun c => { c with output := .on, applied := 5 }) (phased .cycling 800)
    ((phased .warming 800).channel 2).phase = .warming ∧ (s.branch 1).timer ≠ none ∧ (s.branch 1).queue = 2 :: [] ∧
    0 < formedDuty s 2 ∧ (s.channel 2).copy.branch = some 1 ∧ (z.branch 1).queue = [2] ∧ formedDuty z 2 = 0 ∧
    (two.branch 1).queue = [2, 4] ∧ formedDuty two 2 = 0 ∧ 0 < formedDuty two 4 ∧ (two.branch 1).interval ≠ 0 ∧
    ((two.modBranch 1 fun r => { r with interval := 0 }).branch 1).interval = 0 ∧
    ((phased .off 0).modBranch 1 fun r => { r with timer := some 0 }).branch 1 =
      { interval := 10, timer := some 0, queue := [] } ∧
    on.engine.starting = false ∧ (on.channel 2).output = .on ∧ (on.channel 2).phase ≠ .test ∧
    (on.channel 2).condition = .active ∧ (on.channel 2).closedTicks < 100 ∧ (on.channel 2).closedTime < 65535 ∧
    ((phased .test 0).channel 2).phase = .test := by decide +kernel

/-- R124: a branch whose interval became 0 while its timer ran holds back nobody at the timer's end. -/
theorem test_settleTimerExpiry_interval0 :
    let s := chan 4 (fun c => { c with phase := .settleWait, grant := 500, copy := { c.copy with branch := some 1 } })
      ((phased .settleWait 800).modBranch 1 fun _ => { interval := 0, timer := some 0, queue := [2, 4] })
    let t := run (.settleTimerExpiry 1) s
    t.branch 1 = { interval := 0, timer := none, queue := [] } ∧ (t.channel 2).output = .on ∧
    (t.channel 4).output = .on := by decide +kernel

/-- R128: a confirmation that follows the entry to STANDBY finds the output off and the count 0; one that comes first makes the outlet ABSENT, and so does one whose count reached 100 in the last on tick. -/
theorem test_feedbackLoss_and_pattern :
    let s := chan 2 (fun c => { c with applied := 700, output := .on, watchCount := 99 }) (phased .cycling 800)
    let ended := chan 2 (fun c => { c with applied := 0, output := .off, watchCount := 100 }) s
    let stopped := run (.engineStop 0 []) s
    (stopped.channel 2).phase = .safePattern ∧ (stopped.channel 2).output = .off ∧
    run (.feedbackLossConfirmed 2) stopped = stopped ∧
    ((run (.feedbackLossConfirmed 2) s).outlet 2).condition = .absent ∧
    ((run (.feedbackLossConfirmed 2) ended).outlet 2).condition = .absent := by decide +kernel

theorem witness_FeedbackLossAndSenseExpiry :
    let s := chan 2 (fun c => { c with applied := 700, output := .on }) (phased .cycling 800)
    let off := phased .off 800
    let report := chan 2 (fun c => { c with inUse := { c.inUse with absentAction := .reportOnly } }) s
    let pend := chan 2 (fun c => { c with pendingAbsence := true }) s
    let parked := conditioned 2 .parked pend
    let sense := chan 5 (fun c => { c with phase := .test }) (conditioned 5 (.sensing .absent) plant)
    let due := chan 5 (fun c => { c with pendingSenseEnd := true }) sense
    let late := conditioned 5 .absent due
    s.BurstsKept ∧ (s.channel 2).watches = true ∧ (s.channel 2).inUse.absentAction = .forceOff ∧
    s.tableFree = true ∧ (heldBy .wpe s).tableFree = false ∧ (s.outlet 2).condition = .active ∧
    (report.channel 2).watches = true ∧ (report.channel 2).inUse.absentAction = .reportOnly ∧
    (off.channel 2).applied = 0 ∧ (off.channel 2).watchCount = 0 ∧
    pend.mayApply (.absent 2) = true ∧ (pend.outlet 2).condition = .active ∧ parked.mayApply (.absent 2) = true ∧
    (parked.outlet 2).condition ≠ .active ∧ (sense.channel 5).phase = .test ∧ sense.tableFree = true ∧
    (heldBy .spe sense).tableFree = false ∧ (sense.outlet 5).condition = .sensing .absent ∧
    due.mayApply (.senseEnd 5) = true ∧ (due.outlet 5).condition = .sensing .absent ∧
    late.mayApply (.senseEnd 5) = true ∧ (late.outlet 5).condition = .absent := by decide +kernel

theorem witness_BurstTimersRemoveEntries :
    (∀ st ∈ [BurstState.queued 60000, .cleared 0 1],
      let s := bursting 1 st plant
      s.BurstsKept ∧ s.entryOf 3 ≠ none ∧ s.engine.state = .run ∧ s.tableFree = true ∧
      (heldBy .spe s).tableFree = false ∧
      (∀ k ∈ [RemovalKind.duration, .waitLimit],
        let w := s.modArbiter fun a => { a with removals := [(3, k)] }
        w.mayApply (.removal 3) = true ∧ w.arbiter.removals = (3, k) :: [])) ∧
    (let gone := plant.modArbiter fun a => { a with removals := [(3, .duration)] }
     gone.entryOf 3 = none ∧ gone.mayApply (.removal 3) = true ∧ gone.arbiter.removals = (3, .duration) :: []) := by
  decide +kernel

theorem witness_EngineWritesAndOperationsEnd :
    (∀ w ∈ [EngineWrite.grants, .grantsAndBursts],
      let s := plant.modArbiter fun a => { a with engineWrite := w }
      s.mayApply .engineState = true ∧ s.arbiter.engineWrite = w) ∧
    (let s := heldBy .selfTest (inEngine .run .selfTest plant)
     s.engine.op = .selfTest ∧ s.arbiter.holder = some .selfTest ∧ s.contentSound = true ∧
     (s.modOutlet 0 fun o => { o with trim := 3 }).contentSound = false ∧ s.engine.state ≠ .safe ∧
     (inEngine .safe .selfTest s).engine.state = .safe) ∧
    (let s := run .saveStart (inEngine .standby .save plant)
     s.engine.op = .save ∧ s.arbiter.holder = some .store ∧ s.store.saving ≠ none) := by decide +kernel

/-- A failed reference conversion under the action SAFE. -/
def failed (s : State) : State :=
  run (.referenceConversion none) { s with reference := { s.reference with action := .safe }, scan := ⟨.reference, 0⟩ }

/-- For the entry to SAFE in SetChannelWritesTheChannel, ReferenceConversionSetsTheReference and EngineWritesAndOperationsEnd: with the table free and held, a burst in the list, a sense, a HOLD outlet that is on and one that is off already, on a branch and on none. -/
theorem witness_SafeEntered :
    let s := bursting 1 (.cleared 5000 1) (conditioned 5 (.sensing .parked)
      (chan 2 (fun c => { c with applied := 700, output := .on, inUse := { c.inUse with safeState := .hold } }) (phased .cycling 800)))
    s.BurstsKept ∧ s.engine.state ≠ .safe ∧ s.tableFree = true ∧ (heldBy .spe s).tableFree = false ∧
    State.isSensing (s.outlet 5).condition = true ∧ (patterned true (s.channel 2)).applied = 700 ∧
    (patterned false (s.channel 2)).applied = 0 ∧ (s.channel 2).applied ≠ 0 ∧ (s.channel 2).inUse.branch = some 1 ∧
    (patterned true (s.channel 3)).applied = 0 ∧ (s.channel 3).inUse.branch = none ∧
    (failed s).bursts = [] := by decide +kernel

/-- R114: a SAFE request that finds the table held drops the pending removals; the burst then leaves with cause RESET at the release. -/
theorem test_referenceConversion_safeDropsRemovals :
    let s := (heldBy .spe (bursting 1 (.cleared 0 1) plant)).modArbiter fun a => { a with removals := [(3, .duration)] }
    let t := failed s
    t.engine.state = .safe ∧ t.arbiter.removals = [] ∧ t.bursts.length = 1 ∧
    ((run .applyEngineStateWrite { t with arbiter := { t.arbiter with holder := none } }).port 1).flags.burstRevoked =
      some (3, .reset) := by decide +kernel

/-- R175: a channel whose grants are still to be set to 0 by a waiting write does not start after ENGINE START. -/
theorem test_periodBoundary_waitingWrite :
    let s := phased .off 800
    let t := s.modArbiter fun a => { a with engineWrite := .grants }
    ((run (.periodBoundary 2) s).channel 2).output = .on ∧ ((run (.periodBoundary 2) t).channel 2).phase = .off := by
  decide +kernel

/-- R153: the ATN line is high with no flag set, low with an unmasked one and high again once it is masked. -/
theorem test_attention_line :
    let s := portIs 0 (fun u => { u with flags := { u.flags with sensorFault := true }, mask := 0 }) ready
    (ready.port 0).atnHigh = true ∧ (s.port 0).atnHigh = false ∧
    ((run (.maskEvents 0 [0x00, 0x04, 0x00]) s).port 0).atnHigh = true := by decide +kernel

theorem witness_DeferredResetsAreFinished :
    ∀ d ∈ [DeferredReset.engine, .table],
      let s := (heldBy (.port 1) plant).modArbiter fun a => { a with deferred := d }
      s.atRelease = true ∧ s.arbiter.deferred = d := by decide +kernel

theorem witness_PowerOnAndTheEndOfALoad :
    let up := run .powerOn plant
    let re := run (.tableReset 0 []) plant
    up.engine.op = .load ∧ up.arbiter.holder = some .store ∧ up.engine.starting = true ∧ re.engine.op = .load ∧
    re.arbiter.holder = some .store ∧ re.engine.starting = false ∧ up.storedValid = false := by decide +kernel

/-- An image with its own check word is valid, whatever the check word of an image is. -/
theorem witness_PowerOnAndTheEndOfALoad_valid :
    let s := heldBy .store (inEngine .standby .load
      { plant with store := { image := Config.defaults, check := some (imageCheck Config.defaults), saving := none } })
    s.storedValid = true ∧ s.engine.op = .load ∧ s.arbiter.holder = some .store := by
  refine ⟨?_, by decide +kernel, by decide +kernel⟩
  have : State.imageValid Config.defaults (some (imageCheck Config.defaults)) = true := by
    have h : (bindingsSound (Config.defaults.outlets.toList.map OutletConfig.struct) &&
      !(Config.defaults.outlets.toList.map OutletConfig.struct).any State.misplaced) = true := by decide +kernel
    simp only [State.imageValid, decide_true, Bool.true_and]
    exact h
  exact this

end Sys2Proof.Tests
end

section
/-! PROOFS. The conservation law of an apportionment round (R48): what the shares hold and what is left of the usable capacity never grow together, from the floor stage to the close. -/

namespace Sys2Proof.Machine

/-! ## Sums over lists: quotients of a capacity, and what one key finds -/

/-- A capacity split by weights and rounded down gives out at most the capacity. -/
theorem sum_quotients_le {α : Type} (l : List α) (f : α → Nat) (r : Nat) :
    (l.map fun x => f x * r / (l.map f).sum).sum ≤ r := by
  have divided : ∀ w : Nat, (l.map fun x => f x * r / w).sum ≤ (l.map f).sum * r / w := by
    intro w
    induction l with
    | nil => simp
    | cons x l ih =>
      simp only [List.map_cons, List.sum_cons, Nat.add_mul]
      exact (Nat.add_le_add_left ih _).trans Nat.div_add_div_le_add_div
  exact (divided _).trans (Nat.div_le_of_le_mul le_rfl)

/-- Every key finds at most one entry, so what all keys find is at most what the list holds. -/
theorem sum_find_le {α : Type} (key : α → OutletId) (val : α → Nat) (l : List α) :
    ∑ n : OutletId, ((l.find? fun x => decide (key x = n)).map val).getD 0 ≤ (l.map val).sum := by
  induction l with
  | nil => simp
  | cons x l ih =>
    have head : ∀ n : OutletId, (((x :: l).find? fun y => decide (key y = n)).map val).getD 0 ≤
        (if key x = n then val x else 0) + ((l.find? fun y => decide (key y = n)).map val).getD 0 := by
      intro n
      by_cases h : key x = n <;> simp [h]
    calc _ ≤ _ := Finset.sum_le_sum fun n _ => head n
      _ = val x + ∑ n : OutletId, ((l.find? fun y => decide (key y = n)).map val).getD 0 := by
        rw [Finset.sum_add_distrib, Finset.sum_ite_eq, if_pos (Finset.mem_univ _)]
      _ ≤ _ := by simpa using ih

/-! ## What the shares hold -/

/-- The sum of the grants that the shares of a round hold. -/
def grantTotal (xs : List Share) : Nat := (xs.map Share.grant).sum

@[simp] theorem grantTotal_nil : grantTotal [] = 0 := rfl

@[simp] theorem grantTotal_cons (x : Share) (xs : List Share) : grantTotal (x :: xs) = x.grant + grantTotal xs := by
  simp [grantTotal]

/-- Changing the grants of the shares a test picks adds to the total at most what each of them gains. -/
theorem grantTotal_regrant_le (p : Share → Prop) [DecidablePred p] (g gain : Share → Nat) (xs : List Share)
    (h : ∀ x ∈ xs, p x → g x ≤ x.grant + gain x) :
    grantTotal (xs.map fun x => if p x then { x with grant := g x } else x) ≤
      grantTotal xs + ((xs.filter fun x => decide (p x)).map gain).sum := by
  induction xs with
  | nil => simp
  | cons x xs ih =>
    have tail := ih fun y hy => h y (List.mem_cons_of_mem _ hy)
    have head := h x List.mem_cons_self
    by_cases hp : p x
    · have gained := head hp
      simp only [List.map_cons, List.filter_cons, grantTotal_cons, hp, if_true, decide_true, List.sum_cons]
      omega
    · simp only [List.map_cons, List.filter_cons, grantTotal_cons, hp, if_false, decide_false, Bool.false_eq_true]
      omega

/-- The shares of an outlet and the other shares hold the total between them. -/
theorem grantTotal_without (xs : List Share) (n : OutletId) :
    grantTotal (xs.filter fun x => decide (x.outlet ≠ n)) +
      ((xs.filter fun x => decide (x.outlet = n)).map Share.grant).sum = grantTotal xs := by
  induction xs with
  | nil => rfl
  | cons x xs ih =>
    by_cases h : x.outlet = n
    · simp only [ne_eq, List.filter_cons, h, not_true, decide_true, decide_false, Bool.false_eq_true, if_true, if_false,
        List.map_cons, List.sum_cons, grantTotal_cons] at ih ⊢
      omega
    · simp only [ne_eq, List.filter_cons, h, not_false_eq_true, decide_true, decide_false, Bool.false_eq_true, if_true,
        if_false, grantTotal_cons] at ih ⊢
      omega

/-- A rewriting of the shares that leaves each one's outlet leaves the list of outlets. -/
theorem map_outlet_regrant (p : Share → Prop) [DecidablePred p] (g : Share → Nat) (xs : List Share) :
    (xs.map fun x => if p x then { x with grant := g x } else x).map Share.outlet = xs.map Share.outlet := by
  rw [List.map_map]
  refine List.map_congr_left fun x _ => ?_
  by_cases h : p x <;> simp [h]

/-! ## The floor stage (R32, R33) -/

/-- A floor stage over shares that hold nothing yet in its tiers takes what it grants out of the capacity. -/
theorem floorStage_conserves (ts : List Tier) (r : Nat) (xs : List Share) (hts : ts.Nodup)
    (h0 : ∀ x ∈ xs, x.tier ∈ ts → x.grant = 0) :
    grantTotal (floorStage ts r xs).1 + (floorStage ts r xs).2.1 ≤ grantTotal xs + r := by
  induction ts generalizing r xs with
  | nil => exact le_rfl
  | cons t ts ih =>
    obtain ⟨ht, hts⟩ := List.nodup_cons.mp hts
    simp only [floorStage]
    split
    next fits =>
      have paid := grantTotal_regrant_le (fun x => x.tier = t) Share.owed Share.owed xs fun x _ _ => Nat.le_add_left _ _
      have rest := ih (r - owedIn t xs) (xs.map fun x => if x.tier = t then { x with grant := x.owed } else x) hts (by
        intro y hy hty
        obtain ⟨x, hx, rfl⟩ := List.mem_map.mp hy
        by_cases e : x.tier = t
        · simp only [e, if_true] at hty
          exact absurd hty ht
        · simp only [e, if_false] at hty ⊢
          exact h0 x hx (List.mem_cons_of_mem _ hty))
      change _ ≤ _ + owedIn t xs at paid
      omega
    next =>
      have paid := grantTotal_regrant_le (fun x => x.tier = t) (fun x => x.owed * r / owedIn t xs)
        (fun x => x.owed * r / owedIn t xs) xs fun x _ _ => Nat.le_add_left _ _
      have shared := sum_quotients_le (xs.filter fun x => decide (x.tier = t)) Share.owed r
      change _ ≤ r at shared
      exact paid.trans (Nat.add_le_add_left shared _)

theorem floorStage_outlets (ts : List Tier) (r : Nat) (xs : List Share) :
    (floorStage ts r xs).1.map Share.outlet = xs.map Share.outlet := by
  induction ts generalizing r xs with
  | nil => rfl
  | cons t ts ih =>
    simp only [floorStage]
    split
    · rw [ih, map_outlet_regrant]
    · rw [map_outlet_regrant]

/-! ## The fill (R34, R35) -/

/-- Units handed out by outlet reach at most as many shares as there are units, where no outlet has two shares. -/
theorem sum_units_le (xs : List Share) (units : List OutletId) (h : (xs.map Share.outlet).Nodup) :
    (xs.map fun x => bit (units.contains x.outlet)).sum ≤ units.length := by
  have count : (xs.map fun x => bit (units.contains x.outlet)).sum =
      ((xs.map Share.outlet).filter fun n => units.contains n).length := by
    clear h
    induction xs with
    | nil => rfl
    | cons x xs ih => by_cases hx : x.outlet ∈ units <;> simp_all [bit, Nat.add_comm]
  rw [count]
  refine ((h.filter _).subperm fun n hn => ?_).length_le
  simpa using (List.mem_filter.mp hn).2

/-- The last pass of a fill gives its members their quotas and the units left over, at most the capacity in all. -/
theorem lastPass_le (t : Tier) (ptr : OutletId) (r w : Nat) (xs : List Share) (hxs : (xs.map Share.outlet).Nodup)
    (quotas : ((xs.filter (Share.inFill t)).map fun x => r * x.weight / w).sum ≤ r) :
    let units := (handOrder ptr (xs.filter (Share.inFill t))).take
      (r - ((xs.filter (Share.inFill t)).map fun x => r * x.weight / w).sum)
    grantTotal (xs.map fun x =>
      if x.inFill t then { x with grant := x.grant + r * x.weight / w + bit (units.contains x.outlet) } else x) ≤
      grantTotal xs + r := by
  intro units
  have paid := grantTotal_regrant_le (fun x => x.inFill t = true)
    (fun x => x.grant + r * x.weight / w + bit (units.contains x.outlet))
    (fun x => r * x.weight / w + bit (units.contains x.outlet)) xs fun x _ _ => (Nat.add_assoc ..).le
  have few := sum_units_le (xs.filter (Share.inFill t)) units (hxs.sublist (List.filter_sublist.map Share.outlet))
  have count : units.length ≤ r - ((xs.filter (Share.inFill t)).map fun x => r * x.weight / w).sum :=
    List.length_take_le ..
  simp only [Bool.decide_eq_true, List.sum_map_add] at paid
  change _ ≤ _ + (((xs.filter (Share.inFill t)).map _).sum + ((xs.filter (Share.inFill t)).map _).sum) at paid
  omega

/-- A pass that caps members gives them what they need, which their quotas cover. -/
theorem cappedPass_le (t : Tier) (r w : Nat) (xs : List Share)
    (quotas : ((xs.filter (Share.inFill t)).map fun x => r * x.weight / w).sum ≤ r) :
    let needs := (((xs.filter (Share.inFill t)).filter fun x => decide (x.need ≤ r * x.weight / w)).map Share.need).sum
    needs ≤ r ∧ grantTotal (xs.map fun x =>
      if x.inFill t && decide (x.need ≤ r * x.weight / w) then { x with grant := x.demand } else x) ≤
      grantTotal xs + needs := by
  intro needs
  constructor
  · calc
      needs ≤ (((xs.filter (Share.inFill t)).filter fun x => decide (x.need ≤ r * x.weight / w)).map
          fun x => r * x.weight / w).sum :=
        List.sum_le_sum fun x hx => by simpa using (List.mem_filter.mp hx).2
      _ ≤ ((xs.filter (Share.inFill t)).map fun x => r * x.weight / w).sum :=
        (List.filter_sublist.map _).sum_le_sum fun _ _ => Nat.zero_le _
      _ ≤ r := quotas
  · have paid := grantTotal_regrant_le (fun x => (x.inFill t && decide (x.need ≤ r * x.weight / w)) = true)
      Share.demand Share.need xs fun x _ _ => by unfold Share.need; omega
    simpa only [Bool.decide_eq_true, needs, List.filter_filter, Bool.and_comm] using paid

/-- The passes of a fill take what they grant out of the capacity. -/
theorem fillPasses_conserves (fuel : Nat) (t : Tier) (ptr : OutletId) (r : Nat) (xs : List Share)
    (hxs : (xs.map Share.outlet).Nodup) :
    grantTotal (fillPasses fuel t ptr r xs).1 + (fillPasses fuel t ptr r xs).2 ≤ grantTotal xs + r := by
  induction fuel generalizing r xs with
  | zero => exact le_rfl
  | succ fuel ih =>
    have quotas := sum_quotients_le (xs.filter (Share.inFill t)) Share.weight r
    simp only [Nat.mul_comm _ r] at quotas
    simp only [fillPasses]
    split
    next => exact le_rfl
    next =>
      split
      next => exact lastPass_le t ptr r _ xs hxs quotas
      next =>
        obtain ⟨covered, paid⟩ := cappedPass_le t r _ xs quotas
        refine (ih _ _ (by rwa [map_outlet_regrant])).trans ?_
        omega

theorem fillPasses_outlets (fuel : Nat) (t : Tier) (ptr : OutletId) (r : Nat) (xs : List Share) :
    (fillPasses fuel t ptr r xs).1.map Share.outlet = xs.map Share.outlet := by
  induction fuel generalizing r xs with
  | zero => rfl
  | succ fuel ih =>
    simp only [fillPasses]
    split
    · rfl
    · split
      · rw [map_outlet_regrant]
      · rw [ih, map_outlet_regrant]

/-! ## A round's capacity -/

/-- A round stays within a capacity while a part of it is reserved for cleared bursts: no outlet has two shares, and what the shares hold, what is reserved and what is left are at most the capacity. -/
def Within (u reserved : Nat) (w : List Share × Nat) : Prop :=
  (w.1.map Share.outlet).Nodup ∧ grantTotal w.1 + reserved + w.2 ≤ u

theorem Within.grants_le {u reserved : Nat} {w : List Share × Nat} (h : Within u reserved w) :
    grantTotal w.1 + reserved ≤ u :=
  (Nat.le_add_right _ _).trans h.2

theorem Within.shares_le {u reserved : Nat} {w : List Share × Nat} (h : Within u reserved w) : grantTotal w.1 ≤ u :=
  (Nat.le_add_right _ _).trans h.grants_le

/-- Shares that hold nothing, with the whole capacity left, stay within it. -/
theorem within_start (u : Nat) (xs : List Share) (hxs : (xs.map Share.outlet).Nodup) (h0 : ∀ x ∈ xs, x.grant = 0) :
    Within u 0 (xs, u) := by
  have nothing : grantTotal xs = 0 := List.sum_eq_zero fun g hg => by
    obtain ⟨x, hx, rfl⟩ := List.mem_map.mp hg
    exact h0 x hx
  exact ⟨hxs, by simp [nothing]⟩

/-- A floor stage on shares that hold nothing stays within its capacity. -/
theorem floorStage_within (u : Nat) (xs : List Share) (hxs : (xs.map Share.outlet).Nodup)
    (h0 : ∀ x ∈ xs, x.grant = 0) :
    Within u 0 ((floorStage [0, 1, 2, 3] u xs).1, (floorStage [0, 1, 2, 3] u xs).2.1) :=
  ⟨by rwa [floorStage_outlets],
    (floorStage_conserves [0, 1, 2, 3] u xs (by decide) fun x hx _ => h0 x hx).trans (within_start u xs hxs h0).2⟩

/-- The fill of a tier stays within the capacity, whatever is reserved. -/
theorem fillTier_within {u reserved : Nat} {w : List Share × Nat} (ptrs : Vector OutletId 4) (t : Tier)
    (h : Within u reserved w) : Within u reserved (fillTier ptrs t w) := by
  obtain ⟨nodup, spent⟩ := h
  have paid := fillPasses_conserves (w.1.length + 1) t ptrs[t] w.2 w.1 nodup
  refine ⟨by rwa [fillTier, fillPasses_outlets], ?_⟩
  unfold fillTier
  omega

namespace State

/-! ## The eligible outlets (R31) -/

/-- The shares of a pool start with nothing. -/
theorem shares_grant (s : State) (pool : Pool) (x : Share) (h : x ∈ s.shares pool) : x.grant = 0 := by
  obtain ⟨n, -, hn⟩ := List.mem_filterMap.mp h
  dsimp only at hn
  split at hn
  · cases hn; rfl
  · cases hn

theorem shares_outlets_nodup (s : State) (pool : Pool) : ((s.shares pool).map Share.outlet).Nodup := by
  have own : ∀ (n m : OutletId) (p : Prop) [Decidable p] (x : Share), x.outlet = n →
      m ∈ (if p then some x else none).map Share.outlet → m = n := by
    intro n m p _ x hx hm
    split at hm <;> simp_all
  rw [shares, List.map_filterMap]
  refine (List.nodup_finRange 24).filterMap fun n m k hn hm => ?_
  exact (own n k _ _ rfl hn).symm.trans (own m k _ _ rfl hm)

/-! ## The cleared bursts of a steam round (R39, R40, R104) -/

/-- What an entry takes of the capacity: its amount while it is CLEARED. -/
def clearedPart (e : BurstEntry) : Nat := if e.isCleared then e.amount else 0

theorem clearedPart_le_amount (e : BurstEntry) : clearedPart e ≤ e.amount := by
  unfold clearedPart
  split
  · exact le_rfl
  · exact Nat.zero_le _

theorem clearedTotal_eq (s : State) : s.clearedTotal = (s.bursts.map clearedPart).sum := by
  unfold clearedTotal
  induction s.bursts with
  | nil => rfl
  | cons e l ih => by_cases h : e.isCleared <;> simp [h, clearedPart] <;> simpa [clearedPart] using ih

/-- The amount of an outlet's CLEARED burst is what its entry takes. -/
theorem clearedAmount_getD (s : State) (n : OutletId) :
    (s.clearedAmount n).getD 0 = ((s.bursts.find? fun e => decide (e.outlet = n)).map clearedPart).getD 0 := by
  unfold clearedAmount entryOf
  cases s.bursts.find? fun e => decide (e.outlet = n) with
  | none => rfl
  | some e => by_cases h : e.isCleared <;> simp [h, clearedPart]

/-- With no entry last cleared, none is CLEARED. -/
theorem clearedTotal_of_lastCleared_none (s : State) (h : s.lastCleared = none) : s.clearedTotal = 0 := by
  unfold lastCleared at h
  unfold clearedTotal
  generalize s.bursts.filter BurstEntry.isCleared = l at h
  obtain rfl | ⟨l, e, rfl⟩ := l.eq_nil_or_concat
  · rfl
  · simp only [List.concat_eq_append, List.foldl_append, List.foldl_cons, List.foldl_nil] at h
    split at h
    · cases h
    · split at h <;> cases h

/-- A removal of an entry that is in the list shortens the list. -/
theorem removeEntry_shortens (s : State) (e : BurstEntry) (notice : BurstEntry → Event) (h : e ∈ s.bursts) :
    (s.removeEntry e.outlet notice).bursts.length < s.bursts.length := by
  have outlets := congrArg List.length (removeEntry_outlets s e.outlet notice)
  have listed : e.outlet ∈ s.bursts.map BurstEntry.outlet := List.mem_map_of_mem h
  have fewer := List.length_filter_lt_length_iff_exists (p := fun m => decide (m ≠ e.outlet)).mpr
    ⟨e.outlet, listed, by simp⟩
  rw [← outlets] at fewer
  simpa using fewer

/-- The entry last cleared is in the list. -/
theorem lastCleared_mem (s : State) (e : BurstEntry) (h : s.lastCleared = some e) : e ∈ s.bursts := by
  unfold lastCleared at h
  refine List.mem_of_mem_filter (p := BurstEntry.isCleared) ?_
  generalize s.bursts.filter BurstEntry.isCleared = l at h ⊢
  revert e
  refine List.foldlRecOn (motive := fun best => ∀ e, best = some e → e ∈ l) l _ (by simp)
    fun best ih x hx e he => ?_
  split at he
  · exact Option.some.inj he ▸ hx
  · split at he
    · exact Option.some.inj he ▸ hx
    · exact ih e he

/-- With as many steps as there are entries, the CLEARED amounts fit at the end (R39). -/
theorem revokeUntilFits_fits (fuel r : Nat) (s : State) (h : s.bursts.length ≤ fuel) :
    (revokeUntilFits fuel r s).clearedTotal ≤ r := by
  induction fuel generalizing s with
  | zero =>
    have empty : s.bursts = [] := List.length_eq_zero_iff.mp (Nat.le_zero.mp h)
    simp [revokeUntilFits, clearedTotal, empty]
  | succ fuel ih =>
    simp only [revokeUntilFits]
    split
    next fits => exact fits
    next =>
      split
      next last => exact absurd (clearedTotal_of_lastCleared_none s last) (by omega)
      next e last =>
        refine ih _ ?_
        have shorter := removeEntry_shortens s e (revoked .capacity) (lastCleared_mem s e last)
        omega

theorem revokeUntilFits_burstsKept (fuel r : Nat) (s : State) (h : s.BurstsKept) :
    (revokeUntilFits fuel r s).BurstsKept := by
  induction fuel generalizing s with
  | zero => exact h
  | succ fuel ih =>
    simp only [revokeUntilFits]
    split
    · exact h
    · split
      · exact h
      · exact ih _ (removeEntry_burstsKept s _ _ h)

theorem lockoutRevocation_burstsKept (s : State) (h : s.BurstsKept) : s.lockoutRevocation.BurstsKept := by
  unfold lockoutRevocation
  split
  · exact revokeWhere_burstsKept s _ _ h
  · exact h

/-! ## Admission (R40, R104) -/

theorem clearEntry_burstsKept (s : State) (e : BurstEntry) (h : s.BurstsKept) : (s.clearEntry e).BurstsKept :=
  burstsKept_of_eq rfl (modEntry_burstsKept s e.outlet _ (fun _ => rfl) h)

/-- Rewriting the one entry of an outlet, its amount kept, adds at most that amount to what the CLEARED entries take. -/
theorem sum_clearedPart_modify_le (l : List BurstEntry) (e : BurstEntry) (f : BurstEntry → BurstEntry)
    (hf : ∀ x, (f x).amount = x.amount) (hl : (l.map BurstEntry.outlet).Nodup) (he : e ∈ l) :
    ((l.map fun x => if x.outlet = e.outlet then f x else x).map clearedPart).sum ≤
      (l.map clearedPart).sum + e.amount := by
  induction l with
  | nil => cases he
  | cons x l ih =>
    obtain ⟨hx, hl⟩ := List.nodup_cons.mp hl
    by_cases own : x.outlet = e.outlet
    · have same : e = x := (List.mem_cons.mp he).resolve_right fun h => hx (own ▸ List.mem_map_of_mem h)
      have others : (l.map fun y => if y.outlet = e.outlet then f y else y) = l :=
        (List.map_congr_left fun y hy => if_neg fun shared =>
          hx (List.mem_map.mpr ⟨y, hy, shared.trans own.symm⟩)).trans l.map_id
      have grown := (clearedPart_le_amount (f x)).trans (hf x).le
      subst same
      simp only [List.map_cons, List.sum_cons, if_true, others]
      omega
    · have he : e ∈ l := (List.mem_cons.mp he).resolve_left fun h => own (h ▸ rfl)
      have rest := ih hl he
      simp only [List.map_cons, List.sum_cons, own, if_false]
      omega

/-- Clearing an entry of the list takes at most its amount. -/
theorem clearEntry_clearedTotal_le (s : State) (e : BurstEntry) (h : s.BurstsKept) (he : e ∈ s.bursts) :
    (s.clearEntry e).clearedTotal ≤ s.clearedTotal + e.amount := by
  rw [clearedTotal_eq, clearedTotal_eq]
  exact sum_clearedPart_modify_le s.bursts e _ (fun _ => rfl) h.2 he

/-- Admissions stay within the capacity, the CLEARED amounts being what is reserved. -/
theorem admitHeads_within (fuel u : Nat) (s : State) (xs : List Share) (r : Nat) (hs : s.BurstsKept)
    (h : Within u s.clearedTotal (xs, r)) :
    Within u (admitHeads fuel s xs r).1.clearedTotal (admitHeads fuel s xs r).2 := by
  induction fuel generalizing s xs r with
  | zero => exact h
  | succ fuel ih =>
    simp only [admitHeads]
    split
    next => exact h
    next e head =>
      split
      next fits =>
        obtain ⟨nodup, spent⟩ := h
        have taken := clearEntry_clearedTotal_le s e hs (List.mem_of_find?_eq_some head)
        have parts := grantTotal_without xs e.outlet
        refine ih (s.clearEntry e) _ _ (clearEntry_burstsKept s e hs) ⟨nodup.sublist (List.filter_sublist.map _), ?_⟩
        dsimp only at spent ⊢
        omega
      next => exact h

/-- Revocations until the CLEARED amounts fit, and the admissions after them, stay within the capacity. -/
theorem burstStage_within (u : Nat) (s : State) (w : List Share × Nat) (hs : s.BurstsKept) (h : Within u 0 w) :
    let s2 := revokeUntilFits s.bursts.length w.2 s
    let ad := admitHeads s2.bursts.length s2 w.1 (w.2 - s2.clearedTotal)
    Within u ad.1.clearedTotal ad.2 := by
  intro s2 ad
  obtain ⟨nodup, spent⟩ := h
  have fits : s2.clearedTotal ≤ w.2 := revokeUntilFits_fits _ _ s le_rfl
  refine admitHeads_within _ u s2 _ _ (revokeUntilFits_burstsKept _ _ s hs) ⟨nodup, ?_⟩
  dsimp only
  omega

/-! ## The stages of both rounds -/

/-- The stages of a steam round: what the shares hold and the CLEARED amounts are within the usable capacity. -/
theorem steamStages_le (s : State) (u : Nat) (hs : s.BurstsKept) :
    grantTotal (s.steamStages u).2.1 + (s.steamStages u).1.clearedTotal ≤ u := by
  have nodup := s.shares_outlets_nodup .steam
  have nothing := s.shares_grant .steam
  have kept := s.lockoutRevocation_burstsKept hs
  by_cases hu : u = 0
  · subst hu
    have bursts := burstStage_within 0 _ _ kept (within_start 0 _ nodup nothing)
    simpa [steamStages] using bursts.grants_le
  · have filled := fillTier_within s.steam.pointers 1
      (fillTier_within s.steam.pointers 0 (floorStage_within u _ nodup nothing))
    have bursts := burstStage_within u _ _ kept filled
    simp only [steamStages, hu, if_false]
    split
    · exact (fillTier_within _ 3 (fillTier_within _ 2 bursts)).grants_le
    · exact bursts.grants_le

/-- The stages of a water round: what the shares hold is within the usable capacity. -/
theorem waterStages_le (s : State) (u : Nat) : grantTotal (s.waterStages u).1 ≤ u := by
  have nodup := s.shares_outlets_nodup .water
  have nothing := s.shares_grant .water
  by_cases hu : u = 0
  · simpa only [waterStages, hu, if_true] using (within_start u _ nodup nothing).shares_le
  · have floors := floorStage_within u _ nodup nothing
    have upper := fillTier_within s.water.pointers 1 (fillTier_within s.water.pointers 0 floors)
    simpa only [waterStages, hu, if_false] using
      (fillTier_within s.water.pointers 3 (fillTier_within s.water.pointers 2 upper)).shares_le

/-! ## The close (R42, R45) -/

/-- What the turn of an outlet brings about and every turn keeps, going over all outlets brings about. -/
theorem forOutlets_establishes (P : State → Prop) (f : OutletId → State → State) (s : State) (n : OutletId)
    (turn : ∀ t, P (f n t)) (keep : ∀ m t, P t → P (f m t)) : P (s.forOutlets f) := by
  obtain ⟨before, after, order⟩ := List.append_of_mem (List.mem_finRange n)
  rw [forOutlets, order, List.foldl_append, List.foldl_cons]
  exact List.foldlRecOn after _ (turn _) fun t ht m _ => keep m t ht

theorem closeOutlet_grant (s : State) (n : OutletId) (g : Nat) : ((s.closeOutlet n g).outlet n).grant = g := by
  unfold closeOutlet
  dsimp only
  split
  · simp
  · split <;> simp

theorem closeOutlet_outlet_ne (s : State) (n m : OutletId) (g : Nat) (h : m ≠ n) :
    (s.closeOutlet n g).outlet m = s.outlet m := by
  unfold closeOutlet
  dsimp only
  split
  · simp [setGrant_outlet_ne, modOutlet_outlet, h]
  · split <;> simp [setGrant_outlet_ne, modOutlet_outlet, h]

/-- After the close every outlet of the pool holds the grant the round set for it. -/
theorem closeOutlets_grant (s : State) (pool : Pool) (grantOf : OutletId → Nat) (n : OutletId) :
    ((s.closeOutlets pool grantOf).outlet n).struct.pool = pool →
      ((s.closeOutlets pool grantOf).outlet n).grant = grantOf n := by
  unfold closeOutlets
  refine forOutlets_establishes (fun t => (t.outlet n).struct.pool = pool → (t.outlet n).grant = grantOf n) _ s n
    (fun t => ?_) fun m t ht => ?_
  · split
    next => exact fun _ => closeOutlet_grant t n _
    next other => exact fun h => absurd h other
  · split
    next =>
      by_cases h : n = m
      · exact fun _ => h ▸ closeOutlet_grant t m _
      · rwa [closeOutlet_outlet_ne t m n _ h]
    next => exact ht

theorem sumGrants_eq (s : State) (pool : Pool) :
    s.sumGrants pool = ∑ n : OutletId, if (s.outlet n).struct.pool = pool then (s.outlet n).grant else 0 := by
  have listed : s.outlets.toList = (List.finRange 24).map s.outlet := by
    refine List.ext_getElem (by simp) fun i _ _ => ?_
    simp [outlet]
  rw [sumGrants, listed, List.filter_map, List.map_map, ← List.sum_ofFn, List.ofFn_eq_map]
  induction List.finRange 24 with
  | nil => rfl
  | cons n l ih => by_cases h : (s.outlet n).struct.pool = pool <;> simp_all

theorem sumGrants_withSteam (s : State) (p : SteamPool) (pool : Pool) :
    ({ s with steam := p } : State).sumGrants pool = s.sumGrants pool := rfl

theorem sumGrants_withWater (s : State) (p : WaterPool) (pool : Pool) :
    ({ s with water := p } : State).sumGrants pool = s.sumGrants pool := rfl

theorem sumGrants_handTrims (s : State) (pool : Pool) : s.handTrims.sumGrants pool = s.sumGrants pool := rfl

theorem sumGrants_release (s : State) (pool : Pool) : s.release.sumGrants pool = s.sumGrants pool := rfl

/-- The grants of a pool after the close are at most those the round set for all outlets. -/
theorem sumGrants_closeOutlets_le (s : State) (pool : Pool) (grantOf : OutletId → Nat) :
    (s.closeOutlets pool grantOf).sumGrants pool ≤ ∑ n, grantOf n := by
  rw [sumGrants_eq]
  refine Finset.sum_le_sum fun n _ => ?_
  split
  next own => exact (closeOutlets_grant s pool grantOf n own).le
  next => exact Nat.zero_le _

theorem waterGrant_eq (xs : List Share) (n : OutletId) :
    waterGrant xs n = ((xs.find? fun x => decide (x.outlet = n)).map Share.grant).getD 0 := by
  unfold waterGrant
  cases xs.find? fun x => decide (x.outlet = n) <;> rfl

/-- The grants of a water round are at most what its shares hold. -/
theorem sum_waterGrant_le (xs : List Share) : ∑ n, waterGrant xs n ≤ grantTotal xs := by
  simp only [waterGrant_eq]
  exact sum_find_le Share.outlet Share.grant xs

/-- A steam grant is a share's grant or a CLEARED amount. -/
theorem steamGrant_le (s : State) (xs : List Share) (n : OutletId) :
    s.steamGrant xs n ≤ waterGrant xs n + (s.clearedAmount n).getD 0 := by
  unfold steamGrant waterGrant
  cases xs.find? fun x => decide (x.outlet = n) with
  | none => exact Nat.le_add_left _ _
  | some x => exact Nat.le_add_right _ _

/-- The grants of a steam round are at most what its shares hold and the CLEARED amounts. -/
theorem sum_steamGrant_le (s : State) (xs : List Share) :
    ∑ n, s.steamGrant xs n ≤ grantTotal xs + s.clearedTotal :=
  calc ∑ n, s.steamGrant xs n ≤ ∑ n, (waterGrant xs n + (s.clearedAmount n).getD 0) :=
        Finset.sum_le_sum fun n _ => steamGrant_le s xs n
    _ = ∑ n, waterGrant xs n + ∑ n, (s.clearedAmount n).getD 0 := Finset.sum_add_distrib
    _ ≤ grantTotal xs + s.clearedTotal := by
      refine Nat.add_le_add (sum_waterGrant_le xs) ?_
      simp only [clearedAmount_getD, clearedTotal_eq]
      exact sum_find_le BurstEntry.outlet clearedPart s.bursts

/-! ## The rounds (R48) -/

theorem runSteamRound_lastU (s : State) :
    s.runSteamRound.steam.lastU = usableCapacity s.rawCapacity s.steam.margin := rfl

/-- The grants after a steam round are those of its close. -/
theorem runSteamRound_sumGrants (s : State) (pool : Pool) :
    let st := s.rechargeStage.steamStages (usableCapacity s.rawCapacity s.steam.margin)
    s.runSteamRound.sumGrants pool = (st.1.closeOutlets .steam (st.1.steamGrant st.2.1)).sumGrants pool := by
  simp only [runSteamRound, sumGrants_withSteam]

/-- A steam round's grants are within the usable capacity it computes. -/
theorem runSteamRound_sumGrants_le (s : State) (hs : s.BurstsKept) :
    s.runSteamRound.sumGrants .steam ≤ s.runSteamRound.steam.lastU := by
  rw [runSteamRound_sumGrants, runSteamRound_lastU]
  have kept : s.rechargeStage.BurstsKept := burstsKept_of_eq rfl hs
  exact (sumGrants_closeOutlets_le _ _ _).trans ((sum_steamGrant_le _ _).trans (steamStages_le _ _ kept))

/-- The state whose shares a water round apportions: the windows captured and, but in the first round, the trims stepped. -/
def waterInput (s : State) : State := if s.water.firstRound then s.captureStage else s.captureStage.trimStage

theorem runWaterRound_lastUsable (s : State) :
    s.runWaterRound.water.lastUsable = s.waterInput.water.flow * s.waterInput.derate / 100 := rfl

/-- The grants after a water round are those of its close. -/
theorem runWaterRound_sumGrants (s : State) (pool : Pool) :
    let st := s.waterInput.waterStages (s.waterInput.water.flow * s.waterInput.derate / 100)
    s.runWaterRound.sumGrants pool = (s.waterInput.closeOutlets .water (waterGrant st.1)).sumGrants pool := by
  simp only [runWaterRound, waterInput, sumGrants_withWater, sumGrants_handTrims]

/-- A water round's grants are within the usable capacity it computes. -/
theorem runWaterRound_sumGrants_le (s : State) :
    s.runWaterRound.sumGrants .water ≤ s.runWaterRound.water.lastUsable := by
  rw [runWaterRound_sumGrants, runWaterRound_lastUsable]
  exact (sumGrants_closeOutlets_le _ _ _).trans ((sum_waterGrant_le _).trans (waterStages_le _ _))

/-- A steam round records the sum of the grants it leaves. -/
theorem runSteamRound_records (s : State) : s.runSteamRound.steam.sumGrants = s.runSteamRound.sumGrants .steam := by
  simp only [runSteamRound, sumGrants_withSteam]

/-- A water round records the sum of the grants it leaves. -/
theorem runWaterRound_records (s : State) : s.runWaterRound.water.sumGrants = s.runWaterRound.sumGrants .water := by
  simp only [runWaterRound, sumGrants_withWater]

end State

/-- Settles O47 (R48): the stages of each round conserve the usable capacity, and the close sets no more than they gave out. -/
theorem grantsNeverExceedTheUsableCapacity : Obligations.GrantsNeverExceedTheUsableCapacity := by
  intro s hs
  constructor
  · intro holder
    refine ⟨s.runSteamRound.release, ?_, ?_⟩
    · change execSteamRound s = _
      rw [execSteamRound, if_pos holder]
    · rw [State.sumGrants_release]
      exact ⟨s.runSteamRound_sumGrants_le hs, s.runSteamRound_records⟩
  · intro holder
    refine ⟨s.runWaterRound.release, ?_, ?_⟩
    · change execWaterRound s = _
      rw [execWaterRound, if_pos holder]
    · rw [State.sumGrants_release]
      exact ⟨s.runWaterRound_sumGrants_le, s.runWaterRound_records⟩

end Sys2Proof.Machine
end

section
/-! PROOFS. The derate of a water round (R76): the table of its cases, and that a round records it as it stands before the round. -/

namespace Sys2Proof.Machine
namespace State

/-! ## What the stages before the capacity stage leave alone (R78 to R81) -/

/-- The trim of an outlet leaves the store records and the water pool record alone. -/
theorem trimOutlet_stores_water (s : State) (n : OutletId) :
    (s.trimOutlet n).stores = s.stores ∧ (s.trimOutlet n).water = s.water := by
  unfold trimOutlet
  dsimp only
  split
  case h_2 => exact ⟨rfl, rfl⟩
  case h_1 =>
    split
    case isFalse => exact ⟨rfl, rfl⟩
    case isTrue => split <;> simp

theorem trimStage_stores (s : State) : s.trimStage.stores = s.stores :=
  forOutlets_kept stores _ s fun n t => (t.trimOutlet_stores_water n).1

theorem trimStage_water (s : State) : s.trimStage.water = s.water :=
  forOutlets_kept water _ s fun n t => (t.trimOutlet_stores_water n).2

/-- The derate reads the store records and the water pool record alone. -/
theorem derate_congr {s t : State} (stores : t.stores = s.stores) (water : t.water = s.water) :
    t.derate = s.derate := by
  simp only [derate, coolest, storeRec, stores, water]

theorem waterInput_derate (s : State) : s.waterInput.derate = s.derate := by
  unfold waterInput captureStage
  split
  · exact derate_congr (mapPulse_stores ..) (mapPulse_water ..)
  · exact derate_congr ((trimStage_stores _).trans (mapPulse_stores ..))
      ((trimStage_water _).trans (mapPulse_water ..))

/-- A water round records the derate of the readings and settings before it. -/
theorem runWaterRound_lastDerate (s : State) : s.runWaterRound.water.lastDerate = s.derate :=
  s.waterInput_derate

/-! ## The coolest reading -/

theorem coolest_eq_none {s : State} (a : (s.storeRec 0).reading.value? = none)
    (b : (s.storeRec 1).reading.value? = none) : s.coolest = none := by
  simp only [coolest, a, b]

/-- The one valid reading, or the lower of the two, is the coolest. -/
theorem coolest_eq_some {s : State} {x : Int}
    (h : ((s.storeRec 0).reading.value? = some x ∧ (s.storeRec 1).reading.value? = none) ∨
      ((s.storeRec 0).reading.value? = none ∧ (s.storeRec 1).reading.value? = some x) ∨
      (∃ y z, (s.storeRec 0).reading.value? = some y ∧ (s.storeRec 1).reading.value? = some z ∧ x = min y z)) :
    s.coolest = some x := by
  obtain ⟨a, b⟩ | ⟨a, b⟩ | ⟨y, z, a, b, rfl⟩ := h <;> simp only [coolest, a, b]

/-! ## The cases of the derate -/

theorem derate_of_coolest_none {s : State} (h : s.coolest = none) : s.derate = s.water.failDerate := by
  simp only [derate, h]

theorem derate_of_coolest_some {s : State} {x : Int} (h : s.coolest = some x) :
    s.derate = derateOf s.water.dLow
      (min (s.storeRec 0).settings.lowPoint (s.storeRec 1).settings.lowPoint)
      (max (s.storeRec 0).settings.setpoint (s.storeRec 1).settings.setpoint) x := by
  simp only [derate, h]

theorem derateOf_of_set_le {dLow : Nat} {low set x : Int} (h : set ≤ x) : derateOf dLow low set x = 100 :=
  if_pos h

theorem derateOf_of_le_low {dLow : Nat} {low set x : Int} (below : x < set) (h : x ≤ low) :
    derateOf dLow low set x = dLow := by
  rw [derateOf, if_neg below.not_ge, if_pos h]

/-- The rise over D_low between the points: not negative, and below the whole rise unless that is 0. -/
theorem interpolation_bounds {rise low set x : Int} (nonneg : 0 ≤ rise) (above : low < x) (below : x < set) :
    0 ≤ rise * (x - low) / (set - low) ∧ rise * (x - low) / (set - low) ≤ max 0 (rise - 1) := by
  have width : 0 < set - low := by omega
  refine ⟨Int.ediv_nonneg (mul_nonneg nonneg (by omega)) width.le, ?_⟩
  obtain rfl | pos := nonneg.eq_or_lt
  · simp
  · have less : rise * (x - low) / (set - low) < rise :=
      Int.ediv_lt_of_lt_mul width (mul_lt_mul_of_pos_left (by omega) pos)
    omega

/-- Between the lower low point and the higher setpoint the derate is on the straight line, from D_low to max(D_low, 99). -/
theorem derateOf_between {dLow : Nat} {low set x : Int} (below : x < set) (above : low < x) (range : dLow ≤ 100) :
    (derateOf dLow low set x : Int) = dLow + (100 - (dLow : Int)) * (x - low) / (set - low) ∧
      dLow ≤ derateOf dLow low set x ∧ derateOf dLow low set x ≤ max dLow 99 := by
  have rise : ((100 - dLow : Nat) : Int) = 100 - (dLow : Int) := by omega
  have bounds := interpolation_bounds (rise := 100 - (dLow : Int)) (by omega) above below
  rw [derateOf, if_neg below.not_ge, if_neg above.not_ge, rise]
  omega

end State

/-- Settles O48 (R76): the stages before the capacity stage leave the derate's inputs alone, and each case of R76's table is one of derateOf's. -/
theorem waterRoundDerates : Obligations.WaterRoundDerates := by
  intro s holder a b set low
  refine ⟨by omega, s.runWaterRound.release, ?_, ?_, ?_⟩
  · change execWaterRound s = _
    rw [execWaterRound, if_pos holder]
  · intro noA noB
    exact s.runWaterRound_lastDerate.trans (State.derate_of_coolest_none (State.coolest_eq_none noA noB))
  · intro x reading
    have recorded : s.runWaterRound.release.water.lastDerate = State.derateOf s.water.dLow low set x :=
      s.runWaterRound_lastDerate.trans (State.derate_of_coolest_some (State.coolest_eq_some reading))
    rw [recorded]
    exact ⟨State.derateOf_of_set_le, State.derateOf_of_le_low, State.derateOf_between⟩

end Sys2Proof.Machine
end

section
set_option Elab.async false
/-! PROOFS. What nearly every operation leaves alone of what the four laws of Safety speak of, operation by operation: structures, rights, the Configuration Store, the holder of the table and the operation in progress. -/

namespace Sys2Proof.Machine.State

/-! ## Quiet and calm operations -/

/-- An operation that keeps the structures, the rights and the Configuration Store, and the laws of the burst list. -/
structure Quiet (s t : State) : Prop where
  structs : ∀ n, (t.outlet n).struct = (s.outlet n).struct
  configs : ∀ p, (t.port p).config = (s.port p).config
  store : t.store = s.store
  bursts : s.BurstsKept → t.BurstsKept

/-- A quiet operation that also leaves the holder of the table, a deferred reset, the operation in progress and the power-on sequence. -/
structure Calm (s t : State) : Prop extends Quiet s t where
  holder : t.arbiter.holder = s.arbiter.holder
  deferred : t.arbiter.deferred = s.arbiter.deferred
  op : t.engine.op = s.engine.op
  starting : t.engine.starting = s.engine.starting

theorem Quiet.trans {s t u : State} (h : Quiet s t) (k : Quiet t u) : Quiet s u where
  structs n := (k.structs n).trans (h.structs n)
  configs p := (k.configs p).trans (h.configs p)
  store := k.store.trans h.store
  bursts b := k.bursts (h.bursts b)

theorem Calm.trans {s t u : State} (h : Calm s t) (k : Calm t u) : Calm s u where
  toQuiet := h.toQuiet.trans k.toQuiet
  holder := k.holder.trans h.holder
  deferred := k.deferred.trans h.deferred
  op := k.op.trans h.op
  starting := k.starting.trans h.starting

/-- An operation that leaves the outlet records, the port units, the Configuration Store and the burst list is quiet. -/
theorem Quiet.of_parts {s t : State} (outlets : t.outlets = s.outlets := by rfl) (ports : t.ports = s.ports := by rfl)
    (store : t.store = s.store := by rfl) (bursts : t.bursts = s.bursts := by rfl) : Quiet s t where
  structs n := by simp only [outlet, outlets]
  configs p := by simp only [port, ports]
  store := store
  bursts := burstsKept_of_eq bursts

/-- An operation that besides leaves the holder, a deferred reset, the operation and the power-on sequence is calm. -/
theorem Calm.of_parts {s t : State} (outlets : t.outlets = s.outlets := by rfl) (ports : t.ports = s.ports := by rfl)
    (store : t.store = s.store := by rfl) (bursts : t.bursts = s.bursts := by rfl)
    (holder : t.arbiter.holder = s.arbiter.holder := by rfl) (deferred : t.arbiter.deferred = s.arbiter.deferred := by rfl)
    (op : t.engine.op = s.engine.op := by rfl) (starting : t.engine.starting = s.engine.starting := by rfl) : Calm s t :=
  { Quiet.of_parts outlets ports store bursts with holder, deferred, op, starting }

theorem Calm.refl (s : State) : Calm s s := .of_parts

theorem DriveOnly.calm {s t : State} (h : DriveOnly s t) : Calm s t := by
  rw [h]
  exact .of_parts

/-- A calm operation of every outlet, one after the other, is calm. -/
theorem forOutlets_calm (f : OutletId → State → State) (s : State) (h : ∀ n t, Calm t (f n t)) :
    Calm s (s.forOutlets f) :=
  forOutlets_induct (Calm s) f s (.refl s) fun n t ht => ht.trans (h n t)

theorem forPorts_calm (f : Port → State → State) (s : State) (h : ∀ p t, Calm t (f p t)) : Calm s (s.forPorts f) :=
  forPorts_induct (Calm s) f s (.refl s) fun p t ht => ht.trans (h p t)

/-! ## Updates of one record -/

theorem modOutlet_calm (s : State) (n : OutletId) (f : Outlet → Outlet)
    (h : (f (s.outlet n)).struct = (s.outlet n).struct := by rfl) : Calm s (s.modOutlet n f) :=
  { Calm.of_parts (s := s) (t := { s.modOutlet n f with outlets := s.outlets }) with
    structs := fun m => by
      rw [modOutlet_outlet]
      split
      · subst m; exact h
      · rfl }

theorem mapOutlets_calm (s : State) (f : OutletId → Outlet → Outlet)
    (h : ∀ n, (f n (s.outlet n)).struct = (s.outlet n).struct) : Calm s (s.mapOutlets f) :=
  { Calm.of_parts (s := s) (t := { s.mapOutlets f with outlets := s.outlets }) with
    structs := fun m => by rw [mapOutlets_outlet, h] }

theorem modPort_calm (s : State) (p : Port) (f : PortUnit → PortUnit)
    (h : ∀ u, (f u).config = u.config := by exact fun _ => rfl) : Calm s (s.modPort p f) :=
  { Calm.of_parts (s := s) (t := { s.modPort p f with ports := s.ports }) with
    configs := fun q => by
      rw [modPort_port]
      split
      · subst q; exact h _
      · rfl }

theorem mapPorts_calm (s : State) (f : Port → PortUnit → PortUnit)
    (h : ∀ p, (f p (s.port p)).config = (s.port p).config) : Calm s (s.mapPorts f) :=
  { Calm.of_parts (s := s) (t := { s.mapPorts f with ports := s.ports }) with
    configs := fun q => by rw [mapPorts_port, h] }

theorem postTo_calm (s : State) (p : Port) (e : Event) : Calm s (s.postTo p e) := modPort_calm s p _

theorem postAll_calm (s : State) (e : Event) : Calm s (s.postAll e) := mapPorts_calm s _ fun _ => rfl

theorem postOutlet_calm (s : State) (n : OutletId) (e : Event) : Calm s (s.postOutlet n e) :=
  mapPorts_calm s _ fun p => by split <;> rfl

theorem modEntry_calm (s : State) (n : OutletId) (f : BurstEntry → BurstEntry) (hf : ∀ e, (f e).outlet = e.outlet) :
    Calm s (s.modEntry n f) :=
  { Calm.of_parts (s := s) (t := { s.modEntry n f with bursts := s.bursts }) with
    bursts := modEntry_burstsKept s n f hf }

/-! ## Grants and the burst list -/

theorem setGrant_calm (s : State) (n : OutletId) (g : Nat) : Calm s (s.setGrant n g) :=
  (modOutlet_calm s n fun o => { o with grant := g }).trans (modChannel_driveOnly _ n _).calm

theorem enforceEffective_calm (s : State) (n : OutletId) : Calm s (s.enforceEffective n) := by
  unfold enforceEffective
  split
  · exact setGrant_calm s n _
  · exact .refl s

theorem dropEntry_calm (s : State) (e : BurstEntry) : Calm s { s with bursts := dropEntry s.bursts e } :=
  { Calm.of_parts (s := s) (t := s) with
    bursts := fun h => by
      refine ⟨(dropEntry_length_le _ _).trans h.1, ?_⟩
      rw [dropEntry_outlets]
      exact h.2.filter _ }

theorem removeEntry_calm (s : State) (n : OutletId) (notice : BurstEntry → Event) : Calm s (s.removeEntry n notice) := by
  unfold removeEntry
  split
  · exact .refl s
  · refine Calm.trans ?_ (postTo_calm _ _ _)
    have unlinked : ∀ e, Calm s (State.modOutlet { s with bursts := dropEntry s.bursts e } n
        fun o => { o with burstRef := false }) := fun e => (dropEntry_calm s e).trans (modOutlet_calm _ n _)
    split
    · exact (unlinked _).trans (enforceEffective_calm _ n)
    · exact unlinked _

theorem revokeWhere_calm (s : State) (pick : BurstEntry → Bool) (c : BurstCause) : Calm s (s.revokeWhere pick c) :=
  revokeWhere_induct (Calm s) s pick c (.refl s) fun n t ht => ht.trans (removeEntry_calm t n _)

theorem emptyBursts_calm (s : State) : Calm s s.emptyBursts := (revokeWhere_calm s _ _).trans .of_parts

theorem applyRemoval_calm (s : State) (n : OutletId) (k : RemovalKind) : Calm s (s.applyRemoval n k) := by
  unfold applyRemoval
  split
  · split
    · exact removeEntry_calm s n _
    · exact .refl s
  · split
    · exact .refl s
    · exact removeEntry_calm s n _
  · exact .refl s

/-! ## The writes that wait for the table -/

theorem writeAbsent_calm (s : State) (n : OutletId) : Calm s (s.writeAbsent n) := by
  unfold writeAbsent
  dsimp only
  split
  · refine Calm.trans ?_ (postOutlet_calm _ n _)
    refine Calm.trans ?_ (removeEntry_calm _ n _)
    refine Calm.trans ?_ (modChannel_driveOnly _ n _).calm
    exact (modChannel_driveOnly s n _).calm.trans (modOutlet_calm _ n _)
  · exact (modChannel_driveOnly s n _).calm

theorem endSense_calm (s : State) (n : OutletId) (r : Continuity) : Calm s (s.endSense n r) :=
  ((modOutlet_calm s n _).trans (modChannel_driveOnly _ n _).calm).trans (postOutlet_calm _ n _)

theorem writeSenseEnd_calm (s : State) (n : OutletId) : Calm s (s.writeSenseEnd n) := by
  unfold writeSenseEnd
  dsimp only
  split
  · exact (modChannel_driveOnly s n _).calm.trans (endSense_calm _ n _)
  · exact (modChannel_driveOnly s n _).calm

theorem writeRemoval_calm (s : State) (n : OutletId) : Calm s (s.writeRemoval n) := by
  unfold writeRemoval
  split
  · exact Calm.trans .of_parts (applyRemoval_calm _ n _)
  · exact .refl s

theorem lapseDemand_struct (o : Outlet) : (lapseDemand o).struct = o.struct := by
  unfold lapseDemand
  split <;> rfl

theorem writeLapse_calm (s : State) (p : Port) : Calm s (s.writeLapse p) := by
  refine Calm.trans ?_ (modPort_calm _ p fun u => { u with link := .lapsed })
  refine Calm.trans (forOutlets_calm _ s fun n t => ?_) (revokeWhere_calm _ _ _)
  split
  · exact (modOutlet_calm t n _ (lapseDemand_struct _)).trans (enforceEffective_calm _ n)
  · exact .refl t

theorem zeroDriveGrants_driveOnly (s : State) : DriveOnly s s.zeroDriveGrants := rfl

theorem zeroGrants_calm (s : State) : Calm s s.zeroGrants :=
  (mapOutlets_calm s (fun _ o => { o with grant := 0 }) fun _ => rfl).trans (zeroDriveGrants_driveOnly _).calm

theorem dropEngineWrite_calm (s : State) : Calm s (s.modArbiter fun a => { a with engineWrite := .none }) := .of_parts

theorem writeEngine_calm (s : State) (w : EngineWrite) : Calm s (s.writeEngine w) := by
  cases w with
  | none => exact .of_parts
  | grants => exact Calm.trans (dropEngineWrite_calm s) (zeroGrants_calm _)
  | grantsAndBursts => exact ((dropEngineWrite_calm s).trans (zeroGrants_calm _)).trans (emptyBursts_calm _)

theorem raiseAbsent_calm (s : State) (n : OutletId) : Calm s (s.raiseAbsent n) := by
  unfold raiseAbsent
  dsimp only
  split
  · exact (modChannel_driveOnly s n _).calm.trans (writeAbsent_calm _ n)
  · exact (modChannel_driveOnly s n _).calm

theorem raiseSenseEnd_calm (s : State) (n : OutletId) : Calm s (s.raiseSenseEnd n) := by
  unfold raiseSenseEnd
  dsimp only
  split
  · exact (modChannel_driveOnly s n _).calm.trans (writeSenseEnd_calm _ n)
  · exact (modChannel_driveOnly s n _).calm

theorem raiseRemoval_calm (s : State) (n : OutletId) (k : RemovalKind) : Calm s (s.raiseRemoval n k) := by
  unfold raiseRemoval
  split
  · exact applyRemoval_calm s n k
  · split
    · exact .refl s
    · exact .of_parts

theorem raiseLapse_calm (s : State) (p : Port) : Calm s (s.raiseLapse p) := by
  unfold raiseLapse
  dsimp only
  split
  · exact (modPort_calm s p _).trans (writeLapse_calm _ p)
  · exact modPort_calm s p _

theorem raiseEngineWrite_calm (s : State) (w : EngineWrite) : Calm s (s.raiseEngineWrite w) := by
  unfold raiseEngineWrite
  split
  · exact writeEngine_calm s w
  · exact .of_parts

/-! ## Engine states -/

theorem setEngine_calm (s : State) (e : EngineState) : Calm s (s.setEngine e) := by
  unfold setEngine
  split
  · exact .refl s
  · exact Calm.trans .of_parts (postAll_calm _ _)

theorem withdrawRequests_calm (s : State) : Calm s s.withdrawRequests := .of_parts

theorem stopRounds_calm (s : State) : Calm s s.stopRounds := .of_parts

theorem endTest_driveOnly (s : State) (n : OutletId) : DriveOnly s (s.endTest n) := rfl

theorem endAllSenses_calm (s : State) : Calm s s.endAllSenses := by
  refine forOutlets_calm _ s fun n t => ?_
  split
  · exact (endTest_driveOnly t n).calm.trans (endSense_calm _ n _)
  · exact .refl t

theorem enterSafe_calm (s : State) : Calm s s.enterSafe := by
  unfold enterSafe
  split
  · exact .refl s
  · refine Calm.trans ?_ (raiseEngineWrite_calm _ _)
    refine Calm.trans ?_ (enterPatternAll_driveOnly _).calm
    exact ((setEngine_calm s _).trans (stopRounds_calm _)).trans (endAllSenses_calm _)

theorem requestSafe_calm (s : State) : Calm s s.requestSafe := by
  unfold requestSafe
  split
  · exact .refl s
  · exact Calm.trans .of_parts (enterSafe_calm _)

/-! ## Measurement -/

theorem advanceScan_calm (s : State) : Calm s s.advanceScan := .of_parts

theorem reformFor_calm (s : State) (m : RatioId) : Calm s (s.reformFor m) := .of_parts

theorem faultEntry_calm (s : State) (a : FaultAction) : Calm s (s.faultEntry a) := by
  cases a with
  | hold => exact .of_parts
  | invalid => exact .of_parts
  | safe => exact requestSafe_calm s

theorem convertReference_calm (s : State) (count : Option Word) : Calm s (s.convertReference count) := by
  unfold convertReference
  dsimp only
  refine Calm.trans ?_ (advanceScan_calm _)
  split
  · exact (Calm.trans .of_parts (postAll_calm _ _)).trans (faultEntry_calm _ _)
  · split
    · exact .of_parts
    · exact .of_parts

theorem convertRatio_calm (s : State) (m : RatioId) (count : Option Word) : Calm s (s.convertRatio m count) := by
  unfold convertRatio
  dsimp only
  refine Calm.trans ?_ (advanceScan_calm _)
  refine Calm.trans ?_ (reformFor_calm _ m)
  split
  · exact Calm.trans .of_parts (postAll_calm _ _)
  · exact .of_parts

theorem expireHold_calm (s : State) : Calm s s.expireHold :=
  (Calm.trans .of_parts (postAll_calm _ _)).trans .of_parts

theorem setFaultAction_calm (s : State) (a : FaultAction) : Calm s (s.setFaultAction a) := by
  unfold setFaultAction
  dsimp only
  split
  · exact .refl s
  · split
    · exact Calm.trans .of_parts (faultEntry_calm _ _)
    · exact .of_parts

theorem disableRatio_calm (s : State) (m : RatioId) : Calm s (s.disableRatio m) := by
  unfold disableRatio
  dsimp only
  split
  · exact .of_parts
  · exact .of_parts

theorem setRatio_calm (s : State) (m : RatioId) (enable : Bool) (trim : Int) : Calm s (s.setRatio m enable trim) := by
  unfold setRatio
  dsimp only
  split
  · exact Calm.trans .of_parts (disableRatio_calm _ m)
  · split
    · exact .of_parts
    · exact .of_parts

/-! ## Rounds -/

theorem closeOutlet_calm (s : State) (n : OutletId) (g : Nat) : Calm s (s.closeOutlet n g) := by
  unfold closeOutlet
  dsimp only
  have closed := fun st => (modOutlet_calm s n fun o => { o with status := st }).trans (setGrant_calm _ n g)
  split
  · exact (closed _).trans (postOutlet_calm _ n _)
  · split
    · exact (closed _).trans (postOutlet_calm _ n _)
    · exact closed _

theorem closeOutlets_calm (s : State) (pool : Pool) (grantOf : OutletId → Nat) : Calm s (s.closeOutlets pool grantOf) := by
  refine forOutlets_calm _ s fun n t => ?_
  split
  · exact closeOutlet_calm t n _
  · exact .refl t

theorem rechargeOutlet_struct (s : State) (o : Outlet) : (s.rechargeOutlet o).struct = o.struct := by
  unfold rechargeOutlet
  split <;> rfl

theorem rechargeStage_calm (s : State) : Calm s s.rechargeStage :=
  (mapOutlets_calm s _ fun _ => rechargeOutlet_struct s _).trans .of_parts

theorem revokeUntilFits_calm (fuel r : Nat) (s : State) : Calm s (revokeUntilFits fuel r s) := by
  induction fuel generalizing s with
  | zero => exact .refl s
  | succ fuel ih =>
    unfold revokeUntilFits
    split
    · exact .refl s
    · split
      · exact .refl s
      · exact (removeEntry_calm s _ _).trans (ih _)

theorem clearEntry_calm (s : State) (e : BurstEntry) : Calm s (s.clearEntry e) := by
  refine Calm.trans ?_ (postTo_calm _ _ _)
  exact modEntry_calm s _ _ fun _ => rfl

theorem admitHeads_calm (fuel : Nat) (s : State) (xs : List Share) (r : Nat) : Calm s (admitHeads fuel s xs r).1 := by
  induction fuel generalizing s xs r with
  | zero => exact .refl s
  | succ fuel ih =>
    unfold admitHeads
    split
    · exact .refl s
    · dsimp only
      split
      · exact (clearEntry_calm s _).trans (ih _ _ _)
      · exact .refl s

theorem lockoutRevocation_calm (s : State) : Calm s s.lockoutRevocation := by
  unfold lockoutRevocation
  split
  · exact revokeWhere_calm s _ _
  · exact .refl s

theorem steamStages_calm (s : State) (u : Nat) : Calm s (s.steamStages u).1 :=
  ((lockoutRevocation_calm s).trans (revokeUntilFits_calm _ _ _)).trans (admitHeads_calm _ _ _ _)

theorem withSteam_calm (s : State) (p : SteamPool) : Calm s { s with steam := p } := .of_parts

theorem withWater_calm (s : State) (p : WaterPool) : Calm s { s with water := p } := .of_parts

theorem runSteamRound_calm (s : State) : Calm s s.runSteamRound := by
  refine Calm.trans ?_ (withSteam_calm _ _)
  exact ((rechargeStage_calm s).trans (steamStages_calm _ _)).trans (closeOutlets_calm _ _ _)

theorem stepTrim_struct (o : Outlet) (m : Nat) : (stepTrim o m).1.struct = o.struct := by
  unfold stepTrim
  split
  · split <;> rfl
  · split <;> rfl

theorem trimOutlet_calm (s : State) (n : OutletId) : Calm s (s.trimOutlet n) := by
  unfold trimOutlet
  dsimp only
  split
  · split
    · split
      · exact (modOutlet_calm s n _ (stepTrim_struct _ _)).trans (postOutlet_calm _ n _)
      · exact modOutlet_calm s n _ (stepTrim_struct _ _)
    · exact .refl s
  · exact .refl s

theorem waterInput_calm (s : State) : Calm s s.waterInput := by
  unfold waterInput
  split
  · exact .of_parts
  · exact Calm.trans .of_parts (forOutlets_calm _ _ fun n t => trimOutlet_calm t n)

theorem handTrims_driveOnly (s : State) : DriveOnly s s.handTrims := rfl

theorem runWaterRound_calm (s : State) : Calm s s.runWaterRound := by
  refine Calm.trans ?_ (withWater_calm _ _)
  refine Calm.trans ?_ (handTrims_driveOnly _).calm
  exact (waterInput_calm s).trans (closeOutlets_calm _ _ _)

theorem skipSteam_calm (s : State) : Calm s s.skipSteam := .of_parts

theorem skipWater_calm (s : State) : Calm s s.skipWater := .of_parts

end Sys2Proof.Machine.State
end

section
set_option Elab.async false
/-! PROOFS. The four laws of Safety under every command, event and step. -/

namespace Sys2Proof.Machine.State

/-! ## Bindings, outlet by outlet (R3) -/

/-- No two outlets' structures bind one store or name one pulse channel. -/
def Unshared (g : OutletId → OutletStructure) : Prop :=
  (∀ n m i, boundStore (g n) = some i → boundStore (g m) = some i → n = m) ∧
  (∀ n m f, (g n).meter = some f → (g m).meter = some f → n = m)

/-- A table of options in outlet order holds no value twice exactly when no two outlets hold the same. -/
theorem nodup_filterMap_finRange {α : Type} (f : OutletId → Option α) :
    ((List.finRange 24).filterMap f).Nodup ↔ ∀ n m a, f n = some a → f m = some a → n = m := by
  constructor
  · intro h n m a hn hm
    by_contra ne
    have symm : Std.Symm fun n m => ∀ x, f n = some x → ∀ y, f m = some y → x ≠ y :=
      ⟨fun _ _ h x hx y hy => (h y hy x hx).symm⟩
    exact (List.pairwise_filterMap.mp h).forall (List.mem_finRange n) (List.mem_finRange m) ne a hn a hm rfl
  · intro h
    exact (List.nodup_finRange 24).filterMap fun n m a hn hm => h n m a hn hm

/-- The structures of a table, outlet by outlet. -/
theorem bindings_iff (g : OutletId → OutletStructure) :
    ((((List.finRange 24).map g).filterMap boundStore).Nodup ∧
      (((List.finRange 24).map g).filterMap OutletStructure.meter).Nodup) ↔ Unshared g := by
  rw [List.filterMap_map, List.filterMap_map, nodup_filterMap_finRange, nodup_filterMap_finRange]
  rfl

/-- A table of 24 entries listed by its index. -/
theorem toList_eq_map_finRange {α : Type} (v : Vector α 24) : v.toList = (List.finRange 24).map fun n => v[n] := by
  refine List.ext_getElem (by simp) fun i h₁ h₂ => ?_
  simp

theorem bindingsKept_iff (s : State) : s.BindingsKept ↔ Unshared fun n => (s.outlet n).struct := by
  rw [← bindings_iff]
  unfold BindingsKept
  rw [toList_eq_map_finRange, List.map_map]
  rfl

theorem bindingsSound_iff (v : Vector OutletConfig 24) :
    bindingsSound (v.toList.map OutletConfig.struct) = true ↔ Unshared fun n => v[n].struct := by
  rw [← bindings_iff, toList_eq_map_finRange, List.map_map]
  simp only [bindingsSound, Bool.and_eq_true, decide_eq_true_eq]
  rfl

/-- Structures that bind and name the same share as little. -/
theorem Unshared.congr {g h : OutletId → OutletStructure} (role : ∀ n, (h n).role = (g n).role)
    (meter : ∀ n, (h n).meter = (g n).meter) (k : Unshared g) : Unshared h := by
  have bound : ∀ n, boundStore (h n) = boundStore (g n) := fun n => by simp only [boundStore, role]
  exact ⟨fun n m i => by rw [bound, bound]; exact k.1 n m i, fun n m f => by rw [meter, meter]; exact k.2 n m f⟩

/-! ## Lawful operations -/

/-- An operation that keeps each of the four laws. -/
structure Lawful (s t : State) : Prop where
  bursts : s.BurstsKept → t.BurstsKept
  bindings : s.BindingsKept → t.BindingsKept
  admin : s.AdminKept → t.AdminKept
  table : s.TableKept → t.TableKept

theorem Lawful.refl (s : State) : Lawful s s := ⟨id, id, id, id⟩

theorem Lawful.trans {s t u : State} (h : Lawful s t) (k : Lawful t u) : Lawful s u :=
  ⟨k.bursts ∘ h.bursts, k.bindings ∘ h.bindings, k.admin ∘ h.admin, k.table ∘ h.table⟩

theorem Quiet.bindings {s t : State} (h : Quiet s t) : s.BindingsKept → t.BindingsKept := by
  rw [bindingsKept_iff, bindingsKept_iff]
  exact Unshared.congr (fun n => by rw [h.structs]) fun n => by rw [h.structs]

theorem globals_of_config {s t : State} {p : Port} (h : (t.port p).config = (s.port p).config) :
    t.globals p = s.globals p := by
  simp only [globals, h]

theorem Quiet.admin {s t : State} (h : Quiet s t) : s.AdminKept → t.AdminKept := by
  rintro ⟨⟨p, hp⟩, image⟩
  refine ⟨⟨p, ?_⟩, ?_⟩
  · rwa [globals_of_config (h.configs p)]
  · rwa [h.store]

/-- A quiet operation is lawful where it keeps the law of the table's holder. -/
theorem Quiet.lawful {s t : State} (h : Quiet s t) (table : s.TableKept → t.TableKept) : Lawful s t :=
  ⟨h.bursts, h.bindings, h.admin, table⟩

theorem Calm.table {s t : State} (h : Calm s t) : s.TableKept → t.TableKept := by
  unfold TableKept
  rw [h.holder, h.deferred, h.op, h.starting]
  exact id

theorem Calm.lawful {s t : State} (h : Calm s t) : Lawful s t := h.toQuiet.lawful h.table

/-! ## The hold of the table (TableKept) -/

/-- A requester that may be handed the table holds it in agreement with the operation in progress. -/
theorem hold_tableKept {s : State} {r : Requester} (free : s.arbiter.holder ≠ some .store)
    (fresh : s.arbiter.deferred = .none) (test : r = .selfTest → s.engine.op = .selfTest)
    (save : r = .store → s.engine.op = .save) (h : s.TableKept) : (s.hold r).TableKept := by
  obtain ⟨-, -, load, start⟩ := h
  have idle : s.engine.op ≠ .load := fun l => (load l).elim free (by rw [fresh]; nofun)
  refine ⟨fun e => test (by simpa using e), fun e => .inl (save (by simpa using e)), fun e => absurd e idle, fun e => ?_⟩
  exact absurd (start e).1 idle

/-- A holder other than the Configuration Store releases the table. -/
theorem release_tableKept {s : State} (free : s.arbiter.holder ≠ some .store) (h : s.TableKept) :
    s.release.TableKept := by
  obtain ⟨-, -, load, start⟩ := h
  exact ⟨nofun, nofun, fun e => .inr ((load e).resolve_left free), fun e => absurd (start e).2 free⟩

theorem atRelease_holder {s : State} (h : s.atRelease = true) :
    s.arbiter.holder ≠ some .store ∧ s.arbiter.holder ≠ some .selfTest := by
  unfold atRelease at h
  split at h
  · simp_all
  · next r e =>
    rw [e]
    cases r <;> simp_all [Requester.isPort]

theorem releasePort_lawful (s : State) : Lawful s s.releasePort := by
  unfold releasePort
  split
  · next h => exact (Quiet.of_parts (s := s)).lawful (release_tableKept (atRelease_holder h).1)
  · exact .refl s

/-! ## Table commands -/

theorem setCondition_driveOnly (s : State) (n : OutletId) (k : Condition) :
    DriveOnly s (s.modChannel n fun c => c.setCondition k) := rfl

theorem doSetDemand_calm (s : State) (p : Port) (n : OutletId) (v : Nat) : Calm s (s.doSetDemand p n v).state := by
  unfold doSetDemand
  dsimp only
  split
  · exact .refl s
  · split
    · exact .refl s
    · exact (modOutlet_calm s n _).trans (enforceEffective_calm _ n)

theorem writeLimits_calm (s : State) (n : OutletId) (l : Limits) : Calm s (s.writeLimits n l) := by
  unfold writeLimits
  dsimp only
  refine Calm.trans ?_ (enforceEffective_calm _ n)
  have written : Calm s (((s.modOutlet n fun o => { o with limits := l, demand := min o.demand l.ceiling }).modEntry n
      fun e => { e with amount := min e.amount l.ceiling }).modChannel n fun c => { c with ceiling := l.ceiling }) := by
    refine Calm.trans ?_ (modChannel_driveOnly _ n _).calm
    refine Calm.trans ?_ (modEntry_calm _ n _ fun _ => rfl)
    exact modOutlet_calm s n _
  split
  · exact written.trans (setGrant_calm _ n _)
  · exact written

theorem doSetLimits_calm (s : State) (n : OutletId) (pl : List Byte) : Calm s (s.doSetLimits n pl).state := by
  unfold doSetLimits
  split
  · exact .refl s
  · split
    · exact .refl s
    · split
      · exact .refl s
      · exact writeLimits_calm s n _

theorem doPark_calm (s : State) (n : OutletId) : Calm s (s.doPark n).state := by
  unfold doPark
  split
  · exact .refl s
  · split
    · exact .refl s
    · refine Calm.trans ?_ (turnOffNow_driveOnly _ n).calm
      refine Calm.trans ?_ (removeEntry_calm _ n _)
      refine Calm.trans ?_ (modChannel_driveOnly _ n _).calm
      exact modOutlet_calm s n _

theorem returnActive_calm (s : State) (n : OutletId) (k : Condition) : Calm s (s.returnActive n k).state := by
  unfold returnActive
  split
  · exact .refl s
  · split
    · exact .refl s
    · exact (modOutlet_calm s n fun o => { o with condition := .active }).trans (setCondition_driveOnly _ n _).calm

theorem doSenseStart_calm (s : State) (n : OutletId) : Calm s (s.doSenseStart n).state := by
  unfold doSenseStart
  split
  · exact .refl s
  · split
    · exact .refl s
    · split
      · exact .refl s
      · dsimp only [done]
        refine Calm.trans ?_ (modChannel_driveOnly _ n _).calm
        exact modOutlet_calm s n _

theorem doSenseEnd_calm (s : State) (n : OutletId) : Calm s (s.doSenseEnd n).state := by
  unfold doSenseEnd
  split
  · exact .refl s
  · split
    · exact .refl s
    · refine Calm.trans ?_ (endSense_calm _ n _)
      split
      · exact (endTest_driveOnly s n).calm
      · exact .refl s

/-- A new entry for an outlet that has none, in a list with a place left. -/
theorem appendEntry_calm (s : State) (n : OutletId) (p : Port) (amount duration wait : Nat) (none : s.entryOf n = none)
    (room : s.bursts.length < 8) : Calm s (s.appendEntry n p amount duration wait) := by
  refine Calm.trans ?_ (modOutlet_calm _ n fun o => { o with burstRef := true })
  refine { Calm.of_parts (s := s) (t := s) with bursts := fun h => ⟨by simpa using room, ?_⟩ }
  have apart : ∀ e ∈ s.bursts, e.outlet ≠ n := fun e he => by simpa using List.find?_eq_none.mp none e he
  have new : n ∉ s.bursts.map BurstEntry.outlet := by
    rw [List.mem_map]
    rintro ⟨e, he, eq⟩
    exact apart e he eq
  rw [List.map_append]
  exact h.2.append (by simp) (by simpa using new)

theorem doRequestBurst_calm (s : State) (p : Port) (n : OutletId) (amount duration wait : Nat) :
    Calm s (s.doRequestBurst p n amount duration wait).state := by
  unfold doRequestBurst
  dsimp only
  split
  · exact .refl s
  · split
    · exact .refl s
    · split
      · exact .refl s
      · split
        · exact .refl s
        · next none =>
          split
          · exact .refl s
          · next room => exact appendEntry_calm s n p _ _ _ (by simpa using none) (by omega)

theorem doEndBurst_calm (s : State) (p : Port) (n : OutletId) : Calm s (s.doEndBurst p n).state := by
  unfold doEndBurst
  split
  · exact .refl s
  · split
    · exact .refl s
    · split
      · exact .refl s
      · exact removeEntry_calm s n _

theorem doSetProfile_calm (s : State) (v : Nat) : Calm s (s.doSetProfile v).state := by
  unfold doSetProfile
  split
  · exact .refl s
  · exact .of_parts

theorem withStructure_struct (o : Outlet) (st : OutletStructure) : (withStructure o st).struct = st := by
  unfold withStructure
  dsimp only
  split
  · split <;> rfl
  · split <;> rfl

/-- A structure whose store and pulse channel no other outlet has keeps the bindings apart. -/
theorem writeStructure_bindings {s : State} {n : OutletId} {raw : OutletStructure} (free : s.duplicates n raw = false)
    (h : s.BindingsKept) : (s.writeStructure n (clampStructure raw)).BindingsKept := by
  rw [bindingsKept_iff] at h ⊢
  have struct : ∀ m, ((s.writeStructure n (clampStructure raw)).outlet m).struct =
      if m = n then clampStructure raw else (s.outlet m).struct := fun m => by
    simp only [writeStructure, modChannel_outlet_kept, modOutlet_outlet]
    split
    · exact withStructure_struct _ _
    · rfl
  have apart : ∀ m, m ≠ n → (∀ i, boundStore raw = some i → boundStore (s.outlet m).struct ≠ some i) ∧
      (∀ f, raw.meter = some f → (s.outlet m).struct.meter ≠ some f) := fun m hm => by
    have := List.any_eq_false.mp free m (List.mem_finRange m)
    simp only [hm, ne_eq, not_false_eq_true, decide_true, Bool.true_and, Bool.or_eq_true, Bool.and_eq_true,
      decide_eq_true_eq, not_or, not_and] at this
    exact ⟨fun i hi e => this.1 (by rw [hi]; rfl) (by rw [e, hi]), fun f hf e => this.2 (by rw [hf]; rfl) (by rw [e, hf])⟩
  simp only [struct]
  constructor
  · intro a b i ha hb
    dsimp only at ha hb
    split at ha <;> split at hb
    · simp_all
    · exact absurd hb ((apart b ‹_›).1 i ha)
    · exact absurd ha ((apart a ‹_›).1 i hb)
    · exact h.1 a b i ha hb
  · intro a b f ha hb
    dsimp only at ha hb
    split at ha <;> split at hb
    · simp_all
    · exact absurd hb ((apart b ‹_›).2 f ha)
    · exact absurd ha ((apart a ‹_›).2 f hb)
    · exact h.2 a b f ha hb

/-- A structure that passes the refusals of R3 has its store and pulse channel to itself. -/
theorem duplicates_of_no_refusal {s : State} {n : OutletId} {raw : OutletStructure}
    (h : s.structureRefusal n raw = none) : s.duplicates n raw = false := by
  unfold structureRefusal at h
  dsimp only at h
  grind

theorem doSetOutletConfig_lawful (s : State) (n : OutletId) (pl : List Byte) :
    Lawful s (s.doSetOutletConfig n pl).state := by
  unfold doSetOutletConfig
  split
  · exact .refl s
  · split
    · exact .refl s
    · split
      · exact .refl s
      · next accepted =>
        exact ⟨id, writeStructure_bindings (duplicates_of_no_refusal accepted), id, id⟩

theorem onOutlet_lawful (s : State) (pl : List Byte) (f : OutletId → Answer) (h : ∀ n, Lawful s (f n).state) :
    Lawful s (s.onOutlet pl f).state := by
  unfold onOutlet
  split
  · exact .refl s
  · exact h _

theorem runTable_lawful (s : State) (c : Code) (p : Port) (pl : List Byte) : Lawful s (s.runTable c p pl).state := by
  cases c with
  | readOutlet => exact onOutlet_lawful s pl _ fun _ => .refl s
  | setDemand => exact onOutlet_lawful s pl _ fun n => (doSetDemand_calm s p n _).lawful
  | setLimits => exact onOutlet_lawful s pl _ fun n => (doSetLimits_calm s n pl).lawful
  | setOutletConfig => exact onOutlet_lawful s pl _ fun n => doSetOutletConfig_lawful s n pl
  | parkOutlet => exact onOutlet_lawful s pl _ fun n => (doPark_calm s n).lawful
  | unparkOutlet => exact onOutlet_lawful s pl _ fun n => (returnActive_calm s n _).lawful
  | clearAbsent => exact onOutlet_lawful s pl _ fun n => (returnActive_calm s n _).lawful
  | senseStart => exact onOutlet_lawful s pl _ fun n => (doSenseStart_calm s n).lawful
  | senseEnd => exact onOutlet_lawful s pl _ fun n => (doSenseEnd_calm s n).lawful
  | requestBurst => exact onOutlet_lawful s pl _ fun n => (doRequestBurst_calm s p n _ _ _).lawful
  | endBurst => exact onOutlet_lawful s pl _ fun n => (doEndBurst_calm s p n).lawful
  | setProfile => exact (doSetProfile_calm s _).lawful
  | _ => exact .refl s

end Sys2Proof.Machine.State
end

section
set_option Elab.async false
/-! PROOFS. The four laws of Safety: the commands that do not wait for the table, the resets, the port units, the events and the step. -/

namespace Sys2Proof.Machine.State

@[simp] theorem modArbiter_arbiter (s : State) (f : Arbiter → Arbiter) : (s.modArbiter f).arbiter = f s.arbiter := rfl

@[simp] theorem modEngine_engine (s : State) (f : EngineControl → EngineControl) :
    (s.modEngine f).engine = f s.engine := rfl

/-! ## Settings -/

theorem doSetChannel_calm (s : State) (p : Port) (pl : List Byte) : Calm s (s.doSetChannel p pl).state := by
  unfold doSetChannel
  split
  · exact .refl s
  · split
    · exact .refl s
    · split
      · exact .refl s
      · split
        · exact .refl s
        · exact setFaultAction_calm s _
    · split
      · exact .refl s
      · dsimp only
        split
        · exact .refl s
        · exact setRatio_calm s _ _ _
    · dsimp only
      split
      · exact .refl s
      · exact .of_parts

theorem doPostCapacity_calm (s : State) (p : Port) (pl : List Byte) : Calm s (s.doPostCapacity p pl).state := by
  unfold doPostCapacity
  split
  · exact .refl s
  · split
    · exact .refl s
    · exact .of_parts

theorem doPostMargin_calm (s : State) (p : Port) (pl : List Byte) : Calm s (s.doPostMargin p pl).state := by
  unfold doPostMargin
  split
  · exact .refl s
  · exact .of_parts

theorem doPostPumpFlow_calm (s : State) (p : Port) (pl : List Byte) : Calm s (s.doPostPumpFlow p pl).state := by
  unfold doPostPumpFlow
  split
  · exact .refl s
  · exact .of_parts

theorem doSetStore_calm (s : State) (p : Port) (pl : List Byte) : Calm s (s.doSetStore p pl).state := by
  unfold doSetStore
  split
  · exact .refl s
  · split
    · split
      · exact .refl s
      · exact .of_parts
    · exact .refl s

theorem doSetBranch_calm (s : State) (p : Port) (pl : List Byte) : Calm s (s.doSetBranch p pl).state := by
  unfold doSetBranch
  split
  · exact .refl s
  · split
    · exact .refl s
    · split
      · exact .refl s
      · exact .of_parts

theorem doServiceDrive_calm (s : State) (p : Port) (pl : List Byte) : Calm s (s.doServiceDrive p pl).state := by
  unfold doServiceDrive
  split
  · exact .refl s
  · split
    · exact .refl s
    · split
      · exact .refl s
      · split
        · exact .refl s
        · split
          · exact .of_parts
          · exact .of_parts

theorem doReadPool_state (s : State) (pl : List Byte) : (s.doReadPool pl).state = s := by
  unfold doReadPool
  split
  · rfl
  · split <;> rfl
  · rfl
  · rfl

theorem doReadStore_state (s : State) (pl : List Byte) : (s.doReadStore pl).state = s := by
  unfold doReadStore
  split <;> rfl

theorem doReadChannel_state (s : State) (pl : List Byte) : (s.doReadChannel pl).state = s := by
  unfold doReadChannel
  split <;> rfl

theorem doReadRights_state (s : State) (p : Port) (pl : List Byte) : (s.doReadRights p pl).state = s := by
  unfold doReadRights
  split
  · rfl
  · split
    · rfl
    · split <;> rfl

/-- Rights that leave an ADMIN keep the law of the rights (R145). -/
theorem writeRights_lawful (s : State) (p q : Port) (w : RightsWrite) (left : s.adminLeft q w.config = true) :
    Lawful s (s.writeRights p q w) := by
  refine ⟨id, id, fun h => ⟨?_, h.2⟩, id⟩
  obtain ⟨r, -, hr⟩ := List.any_eq_true.mp left
  refine ⟨r, ?_⟩
  simp only [globals, writeRights, modPort_port]
  split
  · next e => simpa [e] using hr
  · next e => simpa [e, globals] using hr

theorem doSetWindow_lawful (s : State) (p : Port) (pl : List Byte) : Lawful s (s.doSetWindow p pl).state := by
  unfold doSetWindow
  split
  · exact .refl s
  · split
    · exact .refl s
    · split
      · exact .refl s
      · split
        · exact .refl s
        · split
          · exact .refl s
          · next left => exact writeRights_lawful s p _ _ (by simpa using left)

/-! ## Engine commands -/

theorem runEngineStart_calm (s : State) : Calm s s.runEngineStart := (setEngine_calm s .run).trans .of_parts

theorem runEngineStop_calm (s : State) : Calm s s.runEngineStop := by
  refine Calm.trans ?_ (raiseEngineWrite_calm _ _)
  refine Calm.trans ?_ (enterPatternAll_driveOnly _).calm
  exact (setEngine_calm s _).trans (stopRounds_calm _)

theorem runServiceEnter_calm (s : State) : Calm s s.runServiceEnter :=
  (setEngine_calm s _).trans (withdrawRequests_calm _)

theorem runServiceLeave_calm (s : State) : Calm s s.runServiceLeave := (setEngine_calm s .run).trans .of_parts

/-- Which operations are in progress when an engine command is taken (R155 check 3). -/
theorem op_of_checkEngine {s : State} {c : Code} {p : Port} (h : s.checkEngine c p = none) :
    (s.engine.op = .none ∨ s.engine.op = .selfTest) ∧ ((c = .testTable ∨ c = .saveConfig) → s.engine.op = .none) := by
  unfold checkEngine at h
  split at h
  · exact nomatch h
  · split at h
    · exact nomatch h
    · next free =>
      unfold engineBusy at free
      cases e : s.engine.op <;> simp_all

theorem engineOk_lawful (s : State) (c : Code) (p : Port) (f : State → State)
    (h : s.checkEngine c p = none → Lawful s (f s)) : Lawful s (s.engineOk c p f).state := by
  unfold engineOk
  split
  · exact .refl s
  · next passed => exact h passed

theorem engineAccepted_lawful (s : State) (c : Code) (p : Port) (f : State → State)
    (h : s.checkEngine c p = none → Lawful s (f s)) : Lawful s (s.engineAccepted c p f).state := by
  unfold engineAccepted
  split
  · exact .refl s
  · next passed => exact h passed

theorem runTestTable_lawful (s : State) (idle : s.engine.op = .none) : Lawful s s.runTestTable := by
  refine (Quiet.of_parts (s := s)).lawful fun ⟨_, store, load, start⟩ => ⟨fun _ => rfl, fun e => ?_, nofun, fun e => ?_⟩
  · simpa [idle] using store e
  · simpa [idle] using (start e).1

theorem runSaveConfig_lawful (s : State) (idle : s.engine.op = .none) : Lawful s s.runSaveConfig := by
  refine (Quiet.of_parts (s := s)).lawful fun ⟨test, _, load, start⟩ => ⟨fun e => ?_, fun _ => .inl rfl, nofun, fun e => ?_⟩
  · simpa [idle] using test e
  · simpa [idle] using (start e).1

/-! ## Resets -/

theorem modEngine_quiet (s : State) (f : EngineControl → EngineControl) : Quiet s (s.modEngine f) := .of_parts

theorem modArbiter_quiet (s : State) (f : Arbiter → Arbiter) : Quiet s (s.modArbiter f) := .of_parts

theorem resetEngineState_calm (s : State) (cause : ResetCause) : Calm s (s.resetEngineState cause) := by
  refine Calm.trans ?_ (resetDrive_driveOnly _).calm
  refine Calm.trans ?_ (stopRounds_calm _)
  refine Calm.trans ?_ (setEngine_calm _ _)
  exact .of_parts

theorem abandonHolds_quiet (s : State) : Quiet s s.abandonHolds := by
  unfold abandonHolds
  dsimp only
  split
  · exact .of_parts
  · exact .of_parts

/-- What step 1 of a reset does to the holder and the operation (R169, R170). -/
theorem abandonHolds_hold (s : State) :
    s.abandonHolds.arbiter.holder = (if abandoned s.arbiter.holder then none else s.arbiter.holder) ∧
    s.abandonHolds.arbiter.deferred = .none ∧
    s.abandonHolds.engine.op = (if s.engine.op = .selfTest then .none else s.engine.op) ∧
    s.abandonHolds.engine.starting = s.engine.starting := by
  unfold abandonHolds
  dsimp only
  split
  · next h =>
    have h' : s.engine.op = .selfTest := h
    simp only [h', if_true]
    exact ⟨rfl, rfl, rfl, rfl⟩
  · next h =>
    have h' : s.engine.op ≠ .selfTest := h
    simp only [h', if_false]
    exact ⟨rfl, rfl, rfl, rfl⟩

/-- Turning out the holders keeps the law of the holder, unless a load waits to begin. -/
theorem abandonHolds_lawful (s : State) (noLoad : s.TableKept → s.engine.op ≠ .load) : Lawful s s.abandonHolds := by
  refine (abandonHolds_quiet s).lawful fun kept => ?_
  replace noLoad := noLoad kept
  revert kept
  unfold TableKept
  obtain ⟨holder, deferred, op, starting⟩ := abandonHolds_hold s
  rw [holder, deferred, op, starting]
  rintro ⟨test, store, load, start⟩
  refine ⟨fun e => ?_, fun e => ?_, fun e => ?_, fun e => absurd (start e).1 noLoad⟩
  · split at e
    · exact nomatch e
    · simp_all [abandoned]
  · split at e
    · exact nomatch e
    · rcases store e with save | load
      · simp [save]
      · exact absurd load noLoad
  · split at e
    · exact nomatch e
    · exact absurd e noLoad

theorem resetRecords_calm (s : State) : Calm s s.resetRecords := by
  refine Calm.trans ?_ (emptyBursts_calm _)
  refine (mapOutlets_calm s (fun _ o => resetRecord o) fun _ => rfl).trans ?_
  exact .of_parts

/-- A port that holds the table holds it neither for the self-test nor for the Configuration Store. -/
theorem holder_of_portHolds {s : State} (h : s.portHolds = true) : ∃ p, s.arbiter.holder = some (.port p) := by
  unfold portHolds at h
  cases e : s.arbiter.holder with
  | none => simp [e] at h
  | some r => cases r <;> simp_all [Requester.isPort]

/-- With no load in progress a reset may be deferred. -/
theorem deferReset_lawful (s : State) (d : DeferredReset) (noLoad : s.engine.op ≠ .load) :
    Lawful s (s.modArbiter fun a => { a with deferred := d }) :=
  (modArbiter_quiet s _).lawful fun ⟨test, store, _, start⟩ => ⟨test, store, fun e => absurd e noLoad, start⟩

/-- While a port holds the table a load may be put off. -/
theorem deferLoad_tableKept (s : State) (p : Port) (held : s.arbiter.holder = some (.port p))
    (start : s.engine.starting = false) : (s.modArbiter fun a => { a with deferred := .table }).TableKept := by
  refine ⟨fun e => ?_, fun e => ?_, fun _ => .inr rfl, fun e => ?_⟩
  · rw [modArbiter_arbiter, held] at e; exact nomatch e
  · rw [modArbiter_arbiter, held] at e; exact nomatch e
  · rw [modArbiter_engine, start] at e; exact nomatch e

theorem runEngineReset_lawful (s : State) (noLoad : s.engine.op ≠ .load) : Lawful s s.runEngineReset := by
  unfold runEngineReset
  split
  · next held =>
    have calm := resetEngineState_calm s .engineReset
    exact calm.lawful.trans (deferReset_lawful _ _ (by rwa [calm.op]))
  · exact ((abandonHolds_lawful s fun _ => noLoad).trans (resetEngineState_calm _ _).lawful).trans (resetRecords_calm _).lawful

theorem dropLapses_calm (s : State) : Calm s s.dropLapses := mapPorts_calm s _ fun _ => by split <;> rfl

/-- From the start of a load the Configuration Store holds the table for it (R170). -/
theorem startTableLoad_tableKept (s : State) : s.startTableLoad.TableKept :=
  ⟨nofun, fun _ => .inr rfl, fun _ => .inl rfl, fun _ => ⟨rfl, rfl⟩⟩

theorem startTableLoad_quiet (s : State) : Quiet s s.startTableLoad := by
  unfold startTableLoad
  refine Quiet.trans ?_ (modEngine_quiet _ _)
  refine Quiet.trans ?_ (modArbiter_quiet _ _)
  exact (((emptyBursts_calm s).trans (zeroDriveGrants_driveOnly _).calm).trans (dropLapses_calm _)).toQuiet

theorem enterTableReset_quiet (s : State) : Quiet s s.enterTableReset :=
  (resetEngineState_calm s _).toQuiet.trans (modEngine_quiet _ _)

theorem runTableReset_lawful (s : State) : Lawful s s.runTableReset := by
  unfold runTableReset
  split
  · next held =>
    obtain ⟨p, hp⟩ := holder_of_portHolds held
    have calm := resetEngineState_calm s .tableReset
    refine ((enterTableReset_quiet s).trans (modArbiter_quiet _ _)).lawful fun ⟨_, _, _, start⟩ => ?_
    refine deferLoad_tableKept _ p ?_ ?_
    · rw [enterTableReset, modEngine_arbiter, calm.holder, hp]
    rw [enterTableReset, modEngine_engine, calm.starting]
    by_contra started
    have store := (start (by simpa using started)).2
    simp [hp] at store
  · exact (((abandonHolds_quiet s).trans (enterTableReset_quiet _)).trans (startTableLoad_quiet _)).lawful
      fun _ => startTableLoad_tableKept _

/-! ## The commands that do not wait for the table -/

theorem doMaskEvents_calm (s : State) (p : Port) (pl : List Byte) : Calm s (s.doMaskEvents p pl).state := by
  dsimp only [doMaskEvents, done]
  exact modPort_calm s p _

theorem Lawful.of_eq {s t : State} (h : t = s) : Lawful s t := h ▸ .refl s

theorem runDirect_lawful (s : State) (c : Code) (p : Port) (pl : List Byte) : Lawful s (s.runDirect c p pl).state := by
  cases c with
  | readPool => exact .of_eq (doReadPool_state s pl)
  | readStore => exact .of_eq (doReadStore_state s pl)
  | readChannel => exact .of_eq (doReadChannel_state s pl)
  | readEvents => exact (modPort_calm s p fun u => { u with flags := .clear }).lawful
  | readRights => exact .of_eq (doReadRights_state s p pl)
  | postCapacity => exact (doPostCapacity_calm s p pl).lawful
  | postMargin => exact (doPostMargin_calm s p pl).lawful
  | postPumpFlow => exact (doPostPumpFlow_calm s p pl).lawful
  | setStore => exact (doSetStore_calm s p pl).lawful
  | setChannel => exact (doSetChannel_calm s p pl).lawful
  | setBranch => exact (doSetBranch_calm s p pl).lawful
  | maskEvents => exact (doMaskEvents_calm s p pl).lawful
  | setWindow => exact doSetWindow_lawful s p pl
  | engineStart => exact engineOk_lawful s _ p _ fun _ => (runEngineStart_calm s).lawful
  | engineStop => exact engineOk_lawful s _ p _ fun _ => (runEngineStop_calm s).lawful
  | serviceEnter => exact engineOk_lawful s _ p _ fun _ => (runServiceEnter_calm s).lawful
  | serviceLeave => exact engineOk_lawful s _ p _ fun _ => (runServiceLeave_calm s).lawful
  | serviceDrive => exact (doServiceDrive_calm s p pl).lawful
  | engineReset =>
    refine engineOk_lawful s _ p _ fun passed => runEngineReset_lawful s fun load => ?_
    have := (op_of_checkEngine passed).1
    simp [load] at this
  | tableReset => exact engineAccepted_lawful s _ p _ fun _ => runTableReset_lawful s
  | testTable => exact engineAccepted_lawful s _ p _ fun h => runTestTable_lawful s ((op_of_checkEngine h).2 (.inl rfl))
  | saveConfig => exact engineAccepted_lawful s _ p _ fun h => runSaveConfig_lawful s ((op_of_checkEngine h).2 (.inr rfl))
  | _ => exact .refl s

/-! ## Port units -/

theorem answer_calm (s : State) (p : Port) (code : Byte) (revived : Bool) (r : Result) (pl : List Byte) :
    Calm s (s.answer p code revived r pl) := by
  unfold answer
  exact modPort_calm s p _

theorem respond_lawful {s : State} {a : Answer} (p : Port) (code : Byte) (revived : Bool) (h : Lawful s a.state) :
    Lawful s (respond a p code revived) := h.trans (answer_calm _ p _ _ _ _).lawful

theorem serve_lawful (s : State) (p : Port) (free : s.arbiter.holder ≠ some .store)
    (fresh : s.arbiter.deferred = .none) : Lawful s (s.serve p) := by
  unfold serve
  split
  · have held : Lawful s (s.hold (.port p)) :=
      (Quiet.of_parts (s := s)).lawful (hold_tableKept free fresh nofun nofun)
    dsimp only
    split
    · exact respond_lawful p _ _ (held.trans (runTable_lawful _ _ p _))
    · exact held.trans (answer_calm _ p _ _ _ _).lawful
  all_goals exact .refl s

/-- A free table is held by nobody, and no reset is deferred. -/
theorem tableFree_deferred {s : State} (h : s.tableFree = true) : s.arbiter.deferred = .none := by
  simp only [tableFree, Bool.and_eq_true, decide_eq_true_eq] at h
  exact h.1.2

theorem askTable_lawful (s : State) (p : Port) (code : Byte) (pl : List Byte) (revived : Bool) :
    Lawful s (s.askTable p code pl revived) := by
  unfold askTable
  dsimp only
  have waiting := modPort_calm s p fun u => { u with outstanding := some (.waiting code pl revived) }
  split
  · next h =>
    have free := (Bool.and_eq_true _ _ ▸ h).1
    exact waiting.lawful.trans (serve_lawful _ p (by rw [tableFree_holder free]; nofun) (tableFree_deferred free))
  · exact waiting.lawful

theorem takeCommand_lawful (s : State) (p : Port) (c : Code) (pl : List Byte) (revived : Bool) :
    Lawful s (s.takeCommand p c pl revived) := by
  unfold takeCommand
  split
  · split
    · exact (answer_calm s p _ _ _ _).lawful
    · exact askTable_lawful s p _ _ _
  · exact respond_lawful p _ _ (runDirect_lawful s c p pl)

theorem takeFrame_lawful (s : State) (p : Port) (code : Byte) (pl : List Byte) : Lawful s (s.takeFrame p code pl) := by
  unfold takeFrame
  dsimp only
  have reloaded : Calm s ((s.reloadSilence p).revive p) := (modPort_calm s p _).trans (modPort_calm _ p _)
  split
  · exact (reloaded.trans (answer_calm _ p _ _ _ _)).lawful
  · split
    · exact reloaded.lawful.trans (takeCommand_lawful _ p _ _ _)
    · exact (reloaded.trans (answer_calm _ p _ _ _ _)).lawful

theorem takeHeldOf_lawful (s : State) (p : Port) : Lawful s (s.takeHeldOf p) := by
  unfold takeHeldOf
  split
  · split
    · exact .refl s
    · exact (modPort_calm s p fun u => { u with outstanding := none }).lawful.trans (takeFrame_lawful _ p _ _)
  all_goals exact .refl s

theorem takeHeldOnce_lawful (s : State) : Lawful s s.takeHeldOnce :=
  forPorts_induct (Lawful s) _ s (.refl s) fun p t ht => ht.trans (takeHeldOf_lawful t p)

theorem takeHeld_lawful (s : State) : Lawful s s.takeHeld := (takeHeldOnce_lawful s).trans (takeHeldOnce_lawful _)

theorem reloadSilence_calm (s : State) (p : Port) : Calm s (s.reloadSilence p) := by
  unfold reloadSilence
  exact modPort_calm s p _

theorem overrun_calm (s : State) (p : Port) : Calm s (s.overrun p) := (postTo_calm s p _).trans (reloadSilence_calm _ p)

theorem goodFrame_lawful (s : State) (p : Port) (code : Byte) (pl : List Byte) : Lawful s (s.goodFrame p code pl) := by
  unfold goodFrame
  split
  · exact .refl s
  · have idle := modPort_calm s p fun u => { u with receiver := .idle }
    have taken := fun code pl => idle.lawful.trans (takeFrame_lawful _ p code pl)
    dsimp only
    split
    · exact (idle.trans (overrun_calm _ p)).lawful
    · exact (idle.trans (modPort_calm _ p _)).lawful
    all_goals
      split
      · exact (taken _ _).trans (takeHeld_lawful _)
      · exact taken _ _

theorem frameError_calm (s : State) (p : Port) (r : Receiver) : Calm s (s.frameError p r) :=
  (postTo_calm s p _).trans (modPort_calm _ p _)

theorem judgeFrame_lawful (s : State) (p : Port) (bytes : List Byte) : Lawful s (s.judgeFrame p bytes) := by
  unfold judgeFrame
  dsimp only
  split
  · exact goodFrame_lawful s p _ _
  · exact (frameError_calm s p _).lawful

theorem frameByte_lawful (s : State) (p : Port) (bytes : List Byte) (b : Byte) : Lawful s (s.frameByte p bytes b) := by
  unfold frameByte
  dsimp only
  split
  · split
    · exact (frameError_calm s p _).lawful
    · exact (modPort_calm s p _).lawful
  · split
    · exact (modPort_calm s p _).lawful.trans (judgeFrame_lawful _ p _)
    · exact (modPort_calm s p _).lawful

theorem takeByte_lawful (s : State) (p : Port) (b : Byte) (stopBit : Bool) : Lawful s (s.takeByte p b stopBit) := by
  unfold takeByte
  split
  · exact .refl s
  · have quiet := modPort_calm s p fun u => { u with quiet := 0 }
    dsimp only
    split
    · split
      · exact (quiet.trans (modPort_calm _ p _)).lawful
      · exact quiet.lawful
    · split
      · exact quiet.lawful.trans (frameByte_lawful _ p _ b)
      · exact (quiet.trans (frameError_calm _ p _)).lawful
    · exact quiet.lawful

theorem sentResponse_lawful (s : State) (p : Port) : Lawful s (s.sentResponse p) := by
  unfold sentResponse
  split
  · have gone := modPort_calm s p fun u => { u with outstanding := none, receiver := .idle, quiet := 0 }
    dsimp only
    split
    · next held =>
      refine gone.lawful.trans ((Quiet.of_parts (s := s.modPort p _)).lawful (release_tableKept ?_))
      rw [held]
      nofun
    · exact gone.lawful
  all_goals exact .refl s

theorem lapseCapacity_calm (s : State) (p : Port) : Calm s (s.lapseCapacity p) := by
  unfold lapseCapacity
  dsimp only
  split
  · exact Calm.trans .of_parts (postAll_calm _ _)
  · exact .of_parts

/-! ## The hand-over -/

theorem answerBusy_calm (p : Port) (s : State) : Calm s (answerBusy p s) := by
  unfold answerBusy
  split
  · exact answer_calm s p _ _ _ _
  all_goals exact .refl s

theorem skipRequests_calm (s : State) : Calm s s.skipRequests := by
  unfold skipRequests
  dsimp only
  split
  · split
    · exact .of_parts
    · exact .of_parts
  · split
    · exact .of_parts
    · exact .of_parts

theorem startSelfTest_lawful (s : State) (held : Lawful s (s.hold .selfTest)) : Lawful s s.startSelfTest := by
  refine held.trans (Calm.lawful ?_)
  refine Calm.trans ?_ (skipRequests_calm _)
  refine Calm.trans ?_ (forPorts_calm answerBusy _ answerBusy_calm)
  exact .of_parts

/-- The configuration a save takes leaves an ADMIN where the part does. -/
theorem hasAdmin_workingConfig {s : State} (h : ∃ p, (s.globals p).admin = true) : hasAdmin s.workingConfig := by
  obtain ⟨p, hp⟩ := h
  refine ⟨p, ?_⟩
  simpa [workingConfig, globals] using hp

theorem startSave_lawful (s : State) (held : Lawful s (s.hold .store)) : Lawful s s.startSave := by
  have calm : Calm (s.hold .store) (((s.hold .store).modEngine fun e => { e with opLeft := 250 }).forPorts answerBusy) :=
    Calm.trans .of_parts (forPorts_calm answerBusy _ answerBusy_calm)
  have before := held.trans calm.lawful
  refine ⟨before.bursts, before.bindings, fun h => ?_, before.table⟩
  obtain ⟨admin, image, -⟩ := before.admin h
  refine ⟨admin, image, fun c hc => ?_⟩
  exact (Option.some.inj hc) ▸ hasAdmin_workingConfig h.1

theorem handTo_lawful (s : State) (r : Requester) (free : s.arbiter.holder ≠ some .store)
    (fresh : s.arbiter.deferred = .none) (waits : s.waits r = true) : Lawful s (s.handTo r) := by
  have held := fun test save => (Quiet.of_parts (s := s) (t := s.hold r)).lawful (hold_tableKept free fresh test save)
  cases r with
  | port p => exact serve_lawful s p free fresh
  | spe => exact (held nofun nofun).trans (Calm.of_parts (s := s.hold .spe)).lawful
  | wpe => exact (held nofun nofun).trans (Calm.of_parts (s := s.hold .wpe)).lawful
  | selfTest => exact startSelfTest_lawful s (held (fun _ => by simp_all [State.waits]) nofun)
  | store => exact startSave_lawful s (held nofun fun _ => by simp_all [State.waits])

theorem handOver_lawful (s : State) : Lawful s s.handOver := by
  unfold handOver
  split
  · next r next =>
    split
    · next may =>
      simp only [mayHandOver, Bool.and_eq_true, decide_eq_true_eq] at may
      obtain ⟨⟨release, fresh⟩, -⟩ := may
      have arbiter := releasePort_holder s release
      refine (releasePort_lawful s).trans (handTo_lawful _ r ?_ ?_ ?_)
      · rw [arbiter]; nofun
      · rw [arbiter]; exact fresh
      · have waits := List.find?_some next
        have holder := atRelease_holder release
        rw [releasePort_frame]
        cases r with
        | selfTest => simp_all [State.waits]
        | store => simp_all [State.waits]
        | spe => simp_all [State.waits]
        | wpe => simp_all [State.waits]
        | port p => exact waits
    · exact .refl s
  · exact .refl s

theorem handOverTo_lawful (s : State) (r : Requester) : Lawful s (s.handOverTo r) := by
  unfold handOverTo
  split
  · exact handOver_lawful s
  · exact .refl s

end Sys2Proof.Machine.State
end

section
set_option Elab.async false
/-! PROOFS. The four laws of Safety under every event that is no frame, and under every step. -/

namespace Sys2Proof.Machine.State

/-! ## Holders of the table -/

theorem release_lawful (s : State) (free : s.arbiter.holder ≠ some .store) : Lawful s s.release :=
  (modArbiter_quiet s _).lawful (release_tableKept free)

theorem steamTimer_calm (s : State) : Calm s s.steamTimer := by
  unfold steamTimer
  dsimp only
  split
  · exact .of_parts
  · exact .of_parts

theorem waterTimer_calm (s : State) : Calm s s.waterTimer := by
  unfold waterTimer
  dsimp only
  split
  · exact .of_parts
  · exact .of_parts

/-- The end of an operation that released the table keeps the law of the holder. -/
theorem endOperation_tableKept (s : State) (f : EngineControl → EngineControl) (free : s.arbiter.holder = none)
    (op : (f s.engine).op = .none) (starting : (f s.engine).starting = false) : (s.modEngine f).TableKept := by
  refine ⟨fun e => ?_, fun e => ?_, fun e => ?_, fun e => ?_⟩
  · rw [modEngine_arbiter, free] at e; exact nomatch e
  · rw [modEngine_arbiter, free] at e; exact nomatch e
  · rw [modEngine_engine, op] at e; exact nomatch e
  · rw [modEngine_engine, starting] at e; exact nomatch e

/-- Outside a load the power-on sequence does not run. -/
theorem not_starting {s : State} (h : s.TableKept) (noLoad : s.engine.op ≠ .load) : s.engine.starting = false := by
  by_contra started
  exact noLoad (h.2.2.2 (by simpa using started)).1

theorem endSelfTest_lawful (s : State) (memoryFails : Bool) (op : s.engine.op = .selfTest) :
    Lawful s (s.endSelfTest memoryFails) := by
  have posted := postAll_calm s.release (.testDone (s.testOutcome memoryFails))
  have ended : Lawful s ((s.release.postAll (.testDone (s.testOutcome memoryFails))).modEngine
      fun e => { e with op := .none, opLeft := 0 }) := by
    refine (((modArbiter_quiet s _).trans posted.toQuiet).trans (modEngine_quiet _ _)).lawful fun h => ?_
    exact endOperation_tableKept _ _ posted.holder rfl
      (posted.starting.trans (not_starting (s := s) h (by rw [op]; nofun)))
  unfold endSelfTest
  dsimp only
  split
  · exact ended
  · exact ended.trans (enterSafe_calm _).lawful

theorem endSave_lawful (s : State) (image : WorkingConfig) (readBackMatches : Bool) (saving : s.store.saving = some image)
    (op : s.engine.op = .save) : Lawful s (s.endSave image readBackMatches) := by
  refine ⟨id, id, fun ⟨admin, _, kept⟩ => ⟨?_, kept image saving, nofun⟩, fun h => ?_⟩
  · obtain ⟨p, hp⟩ := admin
    have config : ((s.endSave image readBackMatches).port p).config = (s.port p).config := (postAll_calm _ _).configs p
    exact ⟨p, by rwa [globals_of_config config]⟩
  · refine endOperation_tableKept _ _ rfl rfl ?_
    exact not_starting (s := s) h (by rw [op]; nofun)

/-! ## Deferred resets -/

theorem finishEngineReset_lawful (s : State) (deferred : s.arbiter.deferred = .engine) (release : s.atRelease = true) :
    Lawful s s.finishEngineReset := by
  refine ((releasePort_lawful s).trans (abandonHolds_lawful _ fun kept load => ?_)).trans (resetRecords_calm _).lawful
  have arbiter := releasePort_holder s release
  have waits := kept.2.2.1 load
  rw [arbiter, deferred] at waits
  simp at waits

theorem finishTableReset_lawful (s : State) : Lawful s s.finishTableReset := by
  refine Quiet.lawful ?_ fun _ => startTableLoad_tableKept _
  refine Quiet.trans ?_ (startTableLoad_quiet _)
  refine Quiet.trans ?_ (abandonHolds_quiet _)
  rw [releasePort_frame]
  exact .of_parts

/-! ## Loads and power-on -/

theorem reloadDrive_driveOnly (s : State) : DriveOnly s s.reloadDrive := by
  refine DriveOnly.trans (t := s.forOutlets _) (forOutlets_induct (DriveOnly s) _ s (DriveOnly.refl s) ?_)
    (mapBranches_driveOnly _ _)
  intro n t ht
  dsimp only
  split
  · exact ht.trans ((modChannel_driveOnly t n _).trans (restartSettle_driveOnly _ _))
  · exact ht.trans (modChannel_driveOnly t n _)

theorem mapPulse_calm (s : State) (f : PulseId → PulseChannel → PulseChannel) : Calm s (s.mapPulse f) := .of_parts

theorem reformAll_calm (s : State) : Calm s s.reformAll := .of_parts

theorem reloadMeasure_calm (s : State) (c : WorkingConfig) : Calm s (s.reloadMeasure c) := by
  have ratios : ∀ (l : List RatioId) (t : State),
      Calm t (l.foldl (fun t m => t.setRatio m c.ratioEnable[m] c.ratioTrim[m]) t) := by
    intro l
    induction l with
    | nil => exact fun t => .refl t
    | cons m l ih => exact fun t => (setRatio_calm t m _ _).trans (ih _)
  unfold reloadMeasure
  refine Calm.trans ?_ (mapPulse_calm _ _)
  exact (setFaultAction_calm s _).trans (ratios _ _)

/-- Structures that the clamping of a load leaves as the image has them, as far as stores and pulse channels go. -/
theorem unshared_loadedConfig (s : State) : Unshared fun n => s.loadedConfig.outlets[n].struct := by
  unfold loadedConfig
  split
  · next valid =>
    simp only [storedValid, imageValid, Bool.and_eq_true] at valid
    have sound := (bindingsSound_iff _).mp valid.1.2
    refine sound.congr (fun n => ?_) fun n => ?_
    · simp [clampConfig, clampOutlet, clampStructure]
    · simp [clampConfig, clampOutlet, clampStructure]
  · constructor <;> simp [Config.defaults, Config.defaultStructure, boundStore]

theorem hasAdmin_defaults : hasAdmin Config.defaults := ⟨0, by simp [Config.defaults, Config.defaultPort]⟩

theorem hasAdmin_clampConfig {c : WorkingConfig} (h : hasAdmin c) : hasAdmin (clampConfig c) := by
  obtain ⟨p, hp⟩ := h
  exact ⟨p, by simpa [clampConfig, clampPort] using hp⟩

theorem hasAdmin_loadedConfig {s : State} (h : hasAdmin s.store.image) : hasAdmin s.loadedConfig := by
  unfold loadedConfig
  split
  · exact hasAdmin_clampConfig h
  · exact hasAdmin_defaults

/-- The blocks as a TABLE RESET writes them at the end of its load, before the channel settings take effect. -/
def reloaded (s : State) (c : WorkingConfig) : State :=
  { s with
    outlets := tabulate fun n => Outlet.ofConfig c.outlets[n]
    profile := c.profile
    steam := { SteamPool.ofConfig c with lowpr := s.inputs.lowpr.asserted }
    water := WaterPool.ofConfig c
    stores := tabulate fun i => { settings := c.stores[i], reading := .notValid, lastRecharge := none }
    branches := tabulate fun b => { s.branches[b] with interval := c.settle[b] }
    ports := tabulate fun p => reloadPort c.ports[p] s.ports[p] }

theorem tableResetValues_calm (s : State) (c : WorkingConfig) : Calm (s.reloaded c) (s.tableResetValues c) := by
  have dropped : Calm (s.reloaded c) ((s.reloaded c).modArbiter fun a => { a with removals := [] }) := .of_parts
  exact ((dropped.trans (reloadDrive_driveOnly _).calm).trans (reloadMeasure_calm _ c)).trans (reformAll_calm _)

/-- A state with the structures and rights of the configuration a load gives. -/
structure Loaded (s t : State) : Prop where
  structs : ∀ n, (t.outlet n).struct = s.loadedConfig.outlets[n].struct
  configs : ∀ p, (t.port p).config = s.loadedConfig.ports[p]
  store : t.store = s.store
  bursts : s.BurstsKept → t.BurstsKept

theorem Loaded.quiet {s t u : State} (h : Loaded s t) (k : Quiet t u) : Loaded s u where
  structs n := (k.structs n).trans (h.structs n)
  configs p := (k.configs p).trans (h.configs p)
  store := k.store.trans h.store
  bursts b := k.bursts (h.bursts b)

theorem Loaded.lawful {s t : State} (h : Loaded s t) (table : s.TableKept → t.TableKept) : Lawful s t where
  bursts := h.bursts
  bindings _ := by
    rw [bindingsKept_iff]
    simp only [h.structs]
    exact unshared_loadedConfig s
  admin a := by
    obtain ⟨p, hp⟩ := hasAdmin_loadedConfig a.2.1
    refine ⟨⟨p, ?_⟩, ?_⟩
    · simpa [globals, h.configs] using hp
    · rw [h.store]; exact a.2
  table := table

theorem endLoad_tableKept (s : State) (defaulted : Bool) : (s.endLoad defaulted).TableKept :=
  endOperation_tableKept _ _ rfl rfl rfl

theorem endLoad_quiet (s : State) (defaulted : Bool) : Quiet s (s.endLoad defaulted) :=
  (modArbiter_quiet s _).trans (modEngine_quiet _ _)

theorem finishLoad_lawful (s : State) : Lawful s s.finishLoad := by
  unfold finishLoad
  dsimp only
  split
  · have started : Loaded s (s.startupValues s.loadedConfig) :=
      ⟨fun n => by simp [startupValues, outlet, Outlet.ofConfig], fun p => by simp [startupValues, port], rfl, id⟩
    exact (started.quiet (endLoad_quiet _ _)).lawful fun _ => endLoad_tableKept _ _
  · have loaded : Loaded s (s.reloaded s.loadedConfig) :=
      ⟨fun n => by simp [reloaded, outlet, Outlet.ofConfig], fun p => by simp [reloaded, port, reloadPort], rfl, id⟩
    have posted := (loaded.quiet (tableResetValues_calm s _).toQuiet).quiet
      (postAll_calm _ (.configDone (if s.storedValid then .loaded else .defaulted))).toQuiet
    exact (posted.quiet (endLoad_quiet _ _)).lawful fun _ => endLoad_tableKept _ _

theorem powerUp_lawful (s : State) (cause : ResetCause) : Lawful s (s.powerUp cause) where
  bursts _ := ⟨Nat.zero_le 8, List.nodup_nil⟩
  bindings _ := by
    rw [bindingsKept_iff]
    constructor <;> simp [powerUp, reset, outlet, Outlet.ofConfig, Config.defaults, Config.defaultStructure, boundStore]
  admin a := ⟨⟨0, by simp [globals, port, powerUp, reset, PortUnit.ofConfig, Config.defaults, Config.defaultPort]⟩,
    a.2.1, nofun⟩
  table _ := ⟨nofun, fun _ => .inr rfl, fun _ => .inl rfl, fun _ => ⟨rfl, rfl⟩⟩

/-! ## Time -/

theorem elapse_outlet (e : BurstEntry) : e.elapse.outlet = e.outlet := by
  unfold BurstEntry.elapse
  split <;> rfl

theorem elapseAlways_calm (s : State) : Calm s s.elapseAlways :=
  { Calm.of_parts (s := s) (t := { s.elapseAlways with ports := s.ports }) with
    configs := fun p => by simp [elapseAlways, port, PortUnit.elapse] }

theorem elapseRun_calm (s : State) : Calm s s.elapseRun := by
  unfold elapseRun
  split
  · refine { Calm.of_parts (s := s) (t := s) with bursts := fun h => ⟨by simpa using h.1, ?_⟩ }
    have same : BurstEntry.outlet ∘ BurstEntry.elapse = BurstEntry.outlet := funext elapse_outlet
    simpa only [List.map_map, same] using h.2
  · exact .refl s

theorem elapseOperation_calm (s : State) : Calm s s.elapseOperation := by
  unfold elapseOperation
  split
  · exact .of_parts
  · exact .refl s

theorem elapse_lawful (s : State) : Lawful s s.elapse :=
  (((elapseAlways_calm s).trans (elapseRun_calm _)).trans (elapseOperation_calm _)).lawful.trans (releasePort_lawful _)

/-! ## Inputs -/

theorem inputChanged_calm (s : State) (i : PlantInput) : Calm s (s.inputChanged i) := by
  have tripped : ∀ b, Calm s (s.tripChanged b) := fun b => by
    unfold tripChanged
    dsimp only
    split
    · exact Calm.trans .of_parts (postAll_calm _ _)
    · exact postAll_calm _ _
  cases i with
  | trip0 => exact tripped 0
  | trip1 => exact tripped 1
  | lowpr => exact Calm.trans .of_parts (postAll_calm _ _)
  | lockout => exact postAll_calm _ _

theorem modInput_calm (s : State) (i : PlantInput) (f : InputPin → InputPin) : Calm s (s.modInput i f) := by
  cases i with
  | trip0 | trip1 | lowpr | lockout => exact .of_parts

theorem inputEstablished_calm (s : State) (i : PlantInput) : Calm s (s.inputEstablished i) := by
  cases i with
  | trip0 | trip1 | lowpr | lockout => exact .of_parts

/-! ## Drive and burst events -/

theorem loseFeedback_calm (s : State) (n : OutletId) : Calm s (s.loseFeedback n) := by
  unfold loseFeedback
  split
  · exact (turnOffNow_driveOnly s n).calm.trans (raiseAbsent_calm _ n)
  · exact (postOutlet_calm s n _).trans (modChannel_driveOnly _ n _).calm

theorem durationOut_calm (s : State) (n : OutletId) : Calm s (s.durationOut n) := by
  unfold durationOut
  exact (modEntry_calm s n _ fun e => by split <;> rfl).trans (raiseRemoval_calm _ n _)

theorem waitOut_calm (s : State) (n : OutletId) : Calm s (s.waitOut n) := by
  unfold waitOut
  exact (modEntry_calm s n _ fun e => by split <;> rfl).trans (raiseRemoval_calm _ n _)

end Sys2Proof.Machine.State
end

section
set_option Elab.async false
/-! PROOFS. The four laws of Safety hold along every step: every row of the table is lawful, and so is a millisecond. -/

namespace Sys2Proof.Machine
namespace State

/-- Every command and every event is lawful. -/
theorem exec_lawful (i : Instr) (s : State) : ∃ t, exec i s = .next t ∧ Lawful s t := by
  cases i with
  | identify p pl | readStatus p pl | readOutlet p pl | readPool p pl | readStore p pl | readChannel p pl
  | readBursts p pl | readEvents p pl | readRights p pl | setDemand p pl | setLimits p pl | setOutletConfig p pl
  | parkOutlet p pl | unparkOutlet p pl | clearAbsent p pl | senseStart p pl | senseEnd p pl | requestBurst p pl
  | endBurst p pl | postCapacity p pl | postMargin p pl | postPumpFlow p pl | setProfile p pl | setStore p pl
  | setChannel p pl | setBranch p pl | maskEvents p pl | setWindow p pl | engineStart p pl | engineStop p pl
  | serviceEnter p pl | serviceLeave p pl | serviceDriveSet p pl | serviceDriveRelease p pl | engineReset p pl
  | tableReset p pl | testTable p pl | saveConfig p pl =>
    exact ⟨_, rfl, goodFrame_lawful s p _ pl⟩
  | unknownCommand p code pl => exact ⟨_, rfl, goodFrame_lawful s p code pl⟩
  | overrun p =>
    refine ⟨_, rfl, ?_⟩
    split
    · exact .refl s
    · exact (overrun_calm s p).lawful
  | receiveByte p b stopBit => exact ⟨_, rfl, takeByte_lawful s p b stopBit⟩
  | interByteTimeout p =>
    refine ⟨_, rfl, ?_⟩
    split
    · exact (frameError_calm s p _).lawful
    · exact .refl s
    · exact .refl s
  | discardQuietExpiry p =>
    refine ⟨_, rfl, ?_⟩
    split
    · exact (modPort_calm s p _).lawful
    · exact .refl s
  | responseSent p => exact ⟨_, rfl, sentResponse_lawful s p⟩
  | tableHandover => exact ⟨_, rfl, handOver_lawful s⟩
  | steamRoundTimerExpiry =>
    refine ⟨_, rfl, ?_⟩
    split
    · exact (steamTimer_calm s).lawful
    · exact .refl s
  | waterRoundTimerExpiry =>
    refine ⟨_, rfl, ?_⟩
    split
    · exact (waterTimer_calm s).lawful
    · exact .refl s
  | steamRound =>
    refine ⟨_, rfl, ?_⟩
    split
    · next held =>
      have calm := runSteamRound_calm s
      exact calm.lawful.trans (release_lawful _ (by rw [calm.holder, held]; nofun))
    · exact .refl s
  | waterRound =>
    refine ⟨_, rfl, ?_⟩
    split
    · next held =>
      have calm := runWaterRound_calm s
      exact calm.lawful.trans (release_lawful _ (by rw [calm.holder, held]; nofun))
    · exact .refl s
  | silenceTimerExpiry p =>
    refine ⟨_, rfl, ?_⟩
    split
    · exact (((modPort_calm s p fun u => { u with silence := none }).trans (lapseCapacity_calm _ p)).trans
        (raiseLapse_calm _ p)).lawful
    · exact .refl s
  | lapseWarning p =>
    refine ⟨_, rfl, ?_⟩
    split
    · exact ((postTo_calm s p _).trans (modPort_calm _ p _)).lawful
    · exact .refl s
  | applyLapse p =>
    refine ⟨_, rfl, ?_⟩
    split
    · exact (((releasePort_lawful s).trans (writeLapse_calm _ p).lawful).trans (takeHeldOf_lawful _ p)).trans
        (takeHeld_lawful _)
    · exact .refl s
  | plantInputLevelChange x low => exact ⟨_, rfl, (modInput_calm s x _).lawful⟩
  | debounceExpiry x =>
    refine ⟨_, rfl, ?_⟩
    split
    · exact ((modInput_calm s x _).trans (inputChanged_calm _ x)).lawful
    · exact .refl s
    · exact .refl s
  | inputEstablished x =>
    refine ⟨_, rfl, ?_⟩
    split
    · exact ((modInput_calm s x _).trans (inputEstablished_calm _ x)).lawful
    · exact .refl s
    · exact .refl s
  | referenceConversion count =>
    refine ⟨_, rfl, ?_⟩
    split
    · exact (convertReference_calm s count).lawful
    · exact .refl s
  | ratioConversion m count =>
    refine ⟨_, rfl, ?_⟩
    split
    · exact (convertRatio_calm s m count).lawful
    · exact .refl s
  | holdTimerExpiry =>
    refine ⟨_, rfl, ?_⟩
    split
    · exact (expireHold_calm s).lawful
    · exact .refl s
  | pulseCount f => exact ⟨_, rfl, (Calm.of_parts (s := s) (t := s.modPulse f countPulse)).lawful⟩
  | periodBoundary n =>
    refine ⟨_, rfl, ?_⟩
    split
    · exact .refl s
    · exact (boundary_driveOnly s n).calm.lawful
  | dwellExpiry n =>
    refine ⟨_, rfl, ?_⟩
    split
    · exact (modChannel_driveOnly s n _).calm.lawful
    · exact .refl s
  | settleTimerExpiry b =>
    refine ⟨_, rfl, ?_⟩
    split
    · exact (settleExpiry_driveOnly s b).calm.lawful
    · exact .refl s
  | feedbackLossConfirmed n =>
    refine ⟨_, rfl, ?_⟩
    split
    · exact (loseFeedback_calm s n).lawful
    · exact .refl s
  | applyAbsentWrite n =>
    refine ⟨_, rfl, ?_⟩
    split
    · exact (releasePort_lawful s).trans (writeAbsent_calm _ n).lawful
    · exact .refl s
  | senseHoldExpiry n =>
    refine ⟨_, rfl, ?_⟩
    split
    · exact ((endTest_driveOnly s n).calm.trans (raiseSenseEnd_calm _ n)).lawful
    · exact .refl s
  | applySenseExpiryWrite n =>
    refine ⟨_, rfl, ?_⟩
    split
    · exact (releasePort_lawful s).trans (writeSenseEnd_calm _ n).lawful
    · exact .refl s
  | burstDurationExpiry n =>
    refine ⟨_, rfl, ?_⟩
    split
    · split
      · exact (durationOut_calm s n).lawful
      · exact .refl s
    · exact .refl s
  | burstWaitExpiry n =>
    refine ⟨_, rfl, ?_⟩
    split
    · split
      · exact (waitOut_calm s n).lawful
      · exact .refl s
    · exact .refl s
  | applyBurstRemoval n =>
    refine ⟨_, rfl, ?_⟩
    split
    · exact (releasePort_lawful s).trans (writeRemoval_calm _ n).lawful
    · exact .refl s
  | applyEngineStateWrite =>
    refine ⟨_, rfl, ?_⟩
    split
    · exact (releasePort_lawful s).trans (writeEngine_calm _ _).lawful
    · exact .refl s
  | selfTestStart => exact ⟨_, rfl, handOverTo_lawful s _⟩
  | selfTestEnd memoryFails =>
    refine ⟨_, rfl, ?_⟩
    split
    · next h => exact endSelfTest_lawful s memoryFails h.1
    · exact .refl s
  | saveStart => exact ⟨_, rfl, handOverTo_lawful s _⟩
  | saveEnd readBackMatches =>
    refine ⟨_, rfl, ?_⟩
    split
    · next saving =>
      split
      · next h => exact endSave_lawful s _ readBackMatches saving h.1
      · exact .refl s
    · exact .refl s
  | engineResetDeferred =>
    refine ⟨_, rfl, ?_⟩
    split
    · next h => exact finishEngineReset_lawful s h.1 h.2
    · exact .refl s
  | tableResetLoadStart =>
    refine ⟨_, rfl, ?_⟩
    split
    · exact (finishTableReset_lawful s).trans (takeHeld_lawful _)
    · exact .refl s
  | configLoadEnd =>
    refine ⟨_, rfl, ?_⟩
    split
    · exact finishLoad_lawful s
    · exact .refl s
  | powerOn => exact ⟨_, rfl, powerUp_lawful s _⟩
  | resetLine => exact ⟨_, rfl, powerUp_lawful s _⟩
  | driveTick n fb =>
    refine ⟨_, rfl, ?_⟩
    split
    · exact .refl s
    · exact (modChannel_driveOnly s n _).calm.lawful

/-- Every step is lawful: the front command on the state with the queue's rest, the due event, or a millisecond. -/
theorem step_lawful {s t : State} (h : step s = .next t) : Lawful s t := by
  have lawful_of_exec : ∀ (i : Instr) (u : State), exec i u = .next t → Lawful u t := by
    intro i u e
    obtain ⟨v, hv, lawful⟩ := exec_lawful i u
    rw [hv, Host.Outcome.next.injEq] at e
    exact e ▸ lawful
  unfold step at h
  split at h
  · next c rest _ =>
    have front : Lawful s { s with pending := rest } := (Calm.of_parts (s := s)).lawful
    exact front.trans (lawful_of_exec c _ h)
  · unfold idle at h
    split at h
    · exact lawful_of_exec _ s h
    · rw [Host.Outcome.next.injEq] at h
      exact h ▸ elapse_lawful s

end State

/-- Settles O5 (R100, R102): every operation is calm about the list or removes, changes or appends one lawful entry. -/
theorem everyStepKeepsTheBurstList : Obligations.EveryStepKeepsTheBurstList :=
  fun _ _ kept h => (State.step_lawful h).bursts kept

/-- Settles O6 (R3, R165): the structures change only where R3's check for duplicates passed or a sound image is loaded. -/
theorem everyStepKeepsTheBindings : Obligations.EveryStepKeepsTheBindings :=
  fun _ _ kept h => (State.step_lawful h).bindings kept

/-- Settles O7 (R145, R164 to R166): rights change only where an ADMIN is left or a configuration with one is loaded. -/
theorem everyStepLeavesAnAdmin : Obligations.EveryStepLeavesAnAdmin :=
  fun _ _ kept h => (State.step_lawful h).admin kept

/-- Settles O8 (R20, R161, R166 to R170): every hold, release and change of the operation keeps both together. -/
theorem everyStepKeepsTheTableHolder : Obligations.EveryStepKeepsTheTableHolder :=
  fun _ _ kept h => (State.step_lawful h).table kept

end Sys2Proof.Machine
end

section
set_option Elab.async false
/-! PROOFS. The step, the state after reset, and the reads that do not wait for the table (O1, O3, O4, O9 to O11). -/

namespace Sys2Proof.Machine

open Sys2Proof.Statements

/-- Settles O1 (log 1): a step takes the front command off the queue. -/
theorem stepCarriesOutTheFrontCommand : Obligations.StepCarriesOutTheFrontCommand :=
  fun _ _ _ => rfl

/-- Settles O3 (R168, R25, R51, R136, R154): each value stands in the reset state. -/
theorem resetValues : Obligations.ResetValues := by
  refine ⟨rfl, rfl, rfl, rfl, rfl, rfl, rfl, rfl, rfl, rfl, rfl, rfl, fun n => ?_, fun b => ?_, fun p => ?_⟩
  · simp [State.outlet, State.channel, State.reset, Outlet.ofConfig, Channel.ofOutlet, Config.defaults]
  · simp [State.boiler, State.reset, SteamPool.ofConfig]
  · simp only [State.port, State.reset, PortUnit.ofConfig, Fin.getElem_fin, tabulate_getElem, true_and]
    change decide (EventFlags.clear.bits &&& ~~~BitVec.allOnes 19 ≠ 0) = false
    decide

/-- Settles O4 (R3, R102, R145; log 9): the new part holds no burst, binds nothing and lets Port A administer. -/
theorem invariantsHoldAtReset : Obligations.InvariantsHoldAtReset := by
  refine ⟨⟨Nat.zero_le _, List.nodup_nil⟩, ?_, ⟨⟨0, ?_⟩, ⟨0, ?_⟩, nofun⟩, nofun, nofun, nofun, nofun⟩
  · rw [State.bindingsKept_iff]
    constructor <;>
      simp [State.reset, State.outlet, Outlet.ofConfig, Config.defaults, Config.defaultStructure, State.boundStore]
  · simp [State.globals, State.port, State.reset, PortUnit.ofConfig, Config.defaults, Config.defaultPort]
  · simp [State.reset, Config.defaults, Config.defaultPort]

namespace State

/-! ## Commands that do not wait for the table -/

section

variable {s : State} {p : Port} {c : Code} {pl : List Byte}

/-- The row of a command that does not wait for the table leaves what its answer leaves. -/
theorem exec_direct {a : Answer} (h : Receives s p) (hr : c ≠ .tableReset) (ht : c.isTable = false)
    (hl : c.lengthOk pl = true) (hd : (s.heard p).runDirect c p pl = a) :
    exec (commandRow c p pl) s = .next (respond a p c.byte (decide ((s.port p).link = .lapsed))) := by
  rw [exec_commandRow, frameOf_direct s p c pl h hr ht hl, hd]

/-- A command that changes nothing answers, and nothing but the sender's port unit changes. -/
theorem answered_of_direct {r : Result} {out : List Byte} (h : Receives s p) (hr : c ≠ .tableReset)
    (ht : c.isTable = false) (hl : c.lengthOk pl = true)
    (hd : (s.heard p).runDirect c p pl = { state := s.heard p, result := r, payload := out }) :
    ∃ t, exec (commandRow c p pl) s = .next t ∧ AllKept s t ∧ PortAnswered s t p s.port c.byte r out :=
  ⟨_, exec_direct h hr ht hl hd, answer_heard_allKept .., portAnswered_respond s
    { state := s.heard p, result := r, payload := out } p c.byte s.port (heard_port s p) fun q => heard_port_ne s p q⟩

/-- A command that changes port units alone answers from the units as it leaves them. -/
theorem answered_of_ports {a : Answer} {u : Port → PortUnit} (h : Receives s p) (hr : c ≠ .tableReset)
    (ht : c.isTable = false) (hl : c.lengthOk pl = true) (hd : (s.heard p).runDirect c p pl = a)
    (kept : AllKept s a.state) (own : a.state.port p = heardUnit (u p))
    (others : ∀ q, q ≠ p → a.state.port q = u q) :
    ∃ t, exec (commandRow c p pl) s = .next t ∧ AllKept s t ∧ PortAnswered s t p u c.byte a.result a.payload :=
  ⟨_, exec_direct h hr ht hl hd, kept, portAnswered_respond s a p c.byte u own others⟩

end

/-- Nothing but the port units differs. -/
theorem allKept_of_parts {s t : State} (records : RecordsKept s t := by exact ⟨rfl, rfl, rfl⟩)
    (drive : DriveKept s t := by exact ⟨rfl, rfl⟩) (pools : PoolsKept s t := by exact ⟨rfl, rfl⟩)
    (measure : MeasureKept s t := by exact ⟨rfl, rfl, rfl, rfl, rfl⟩) (rest : RestKept s t := by exact ⟨rfl, rfl, rfl⟩)
    (engine : EngineKept s t := by exact rfl) (arbiter : ArbiterKept s t := by exact rfl) : AllKept s t :=
  ⟨records, drive, pools, measure, rest, engine, arbiter⟩

/-! ## The status word (R141) -/

theorem bit_eq_one_iff (b : Bool) : bit b = 1 ↔ b = true := by cases b <;> decide

theorem bit_le_one (b : Bool) : bit b ≤ 1 := by cases b <;> decide

/-- A flag that a number holds as its bit k is that bit of the number as a word. -/
theorem getLsbD_ofNat_eq {n x k : Nat} (b : Bool) (hk : k < n) (h : x / 2 ^ k % 2 = bit b) :
    (BitVec.ofNat n x).getLsbD k = b := by
  rw [BitVec.getLsbD_ofNat, decide_eq_true hk, Bool.true_and, Nat.testBit_eq_decide_div_mod_eq, h]
  cases b <;> rfl

theorem engineStateCode_lt (s : State) : s.engineStateCode < 4 := by
  unfold engineStateCode
  cases s.engine.state <;> decide

theorem resetCauseCode_lt (s : State) : s.resetCauseCode < 4 := by
  unfold resetCauseCode
  cases s.engine.cause <;> decide

/-- A port has attention exactly while a kind is set that its mask leaves. -/
theorem attention_iff (u : PortUnit) :
    u.attention = true ↔ ∃ k < 19, u.flags.bits.getLsbD k = true ∧ u.mask.getLsbD k = false := by
  have bits : ∀ k < 19, (u.flags.bits &&& ~~~u.mask).getLsbD k = true ↔
      u.flags.bits.getLsbD k = true ∧ u.mask.getLsbD k = false := by
    intro k hk
    simp [hk]
  rw [PortUnit.attention, decide_eq_true_eq]
  constructor
  · intro differs
    by_contra none
    refine differs (BitVec.eq_of_getLsbD_eq fun k hk => ?_)
    have clear : (u.flags.bits &&& ~~~u.mask).getLsbD k = false := by
      rw [← Bool.not_eq_true, bits k hk]
      exact fun set => none ⟨k, hk, set⟩
    rw [clear]
    exact BitVec.getLsbD_zero.symm
  · rintro ⟨k, hk, set⟩ zero
    have := (bits k hk).mpr set
    simp [zero] at this

theorem attention_of_clear (u : PortUnit) (h : u.flags = .clear) : u.attention = false := by
  have bits : EventFlags.clear.bits = 0 := by decide
  simp [PortUnit.attention, h, bits]

/-- The fields of the status word (10, table 10-3). -/
theorem statusWord_fields (s : State) (p : Port) (revived : Bool) :
    (s.statusWord p revived).toNat % 4 = s.engineStateCode ∧
    (s.statusWord p revived).getLsbD 2 = s.busy ∧ (s.statusWord p revived).getLsbD 3 = s.parity ∧
    (s.statusWord p revived).getLsbD 4 = (s.port p).attention ∧
    (s.statusWord p revived).getLsbD 5 = (revived || decide ((s.port p).link ≠ .active)) ∧
    (s.statusWord p revived).getLsbD 6 = s.lockout ∧ (s.statusWord p revived).getLsbD 7 = s.inputs.lowpr.asserted ∧
    (s.statusWord p revived).getLsbD 8 = s.engine.defaulted ∧
    (s.statusWord p revived).toNat / 512 = s.resetCauseCode := by
  have state := s.engineStateCode_lt
  have cause := s.resetCauseCode_lt
  have b2 := bit_le_one s.busy
  have b3 := bit_le_one s.parity
  have b4 := bit_le_one (s.port p).attention
  have b5 := bit_le_one (revived || decide ((s.port p).link ≠ .active))
  have b6 := bit_le_one s.lockout
  have b7 := bit_le_one s.inputs.lowpr.asserted
  have b8 := bit_le_one s.engine.defaulted
  unfold statusWord
  refine ⟨?_, getLsbD_ofNat_eq _ (by decide) ?_, getLsbD_ofNat_eq _ (by decide) ?_, getLsbD_ofNat_eq _ (by decide) ?_,
    getLsbD_ofNat_eq _ (by decide) ?_, getLsbD_ofNat_eq _ (by decide) ?_, getLsbD_ofNat_eq _ (by decide) ?_,
    getLsbD_ofNat_eq _ (by decide) ?_, ?_⟩ <;> (try rw [BitVec.toNat_ofNat]) <;> omega

/-! ## Reads -/

theorem ports_toList (s : State) : s.ports.toList = [s.port 0, s.port 1, s.port 2] := by
  have listed : s.ports.toList = (List.finRange 3).map s.port :=
    List.ext_getElem (by simp) fun i _ _ => by simp [port]
  rw [listed]
  rfl

/-- The link of a port that has been answered is that of the heard state. -/
theorem link_of_portAnswered {s t : State} {p : Port} {code : Byte} {r : Result} {out : List Byte}
    (h : PortAnswered s t p s.port code r out) (q : Port) : (t.port q).link = ((s.heard p).port q).link := by
  obtain ⟨sender, others⟩ := h
  by_cases e : q = p
  · subst e
    rw [sender, heard_port]
    rfl
  · rw [others q e, heard_port_ne s p q e]

end State

/-- Settles O9 (R141): the status word is read off by its fields, and both commands change nothing. -/
theorem identifyAndReadStatusAnswer : Obligations.IdentifyAndReadStatusAnswer := by
  refine ⟨fun s p revived => ?_, fun s p h => ⟨?_, ?_⟩⟩
  · obtain ⟨state, busy, parity, attention, link, lockout, lowpr, defaulted, cause⟩ := s.statusWord_fields p revived
    refine ⟨?_, ?_, parity, ?_, ?_, lockout, lowpr, defaulted, ?_⟩
    · exact state
    · rw [busy]; simp [State.busy]
    · rw [attention]; exact State.attention_iff _
    · rw [link]
      cases (s.port p).link <;> simp
    · exact cause
  · exact State.answered_of_direct (c := .identify) h nofun rfl rfl rfl
  · obtain ⟨t, ht, kept, answered⟩ := State.answered_of_direct (c := .readStatus) (pl := []) h nofun rfl rfl rfl
    refine ⟨t, ht, kept, ?_⟩
    rw [State.link_of_portAnswered answered, State.link_of_portAnswered answered, State.link_of_portAnswered answered]
    rw [State.ports_toList] at answered
    exact answered

/-! ## Indices and codes in payloads -/

@[simp] theorem u8At_cons_zero (b : Byte) (l : List Byte) : u8At (b :: l) 0 = b.toNat := rfl

@[simp] theorem u8At_cons_succ (b : Byte) (l : List Byte) (i : Nat) : u8At (b :: l) (i + 1) = u8At l i := rfl

@[simp] theorem byteAt_cons_zero (b : Byte) (l : List Byte) : byteAt (b :: l) 0 = b := rfl

@[simp] theorem byteAt_cons_succ (b : Byte) (l : List Byte) (i : Nat) : byteAt (b :: l) (i + 1) = byteAt l i := rfl

@[simp] theorem index?_val {n : Nat} (i : Fin n) : index? n i.val = some i := dif_pos i.isLt

theorem index?_of_eq {n v : Nat} {i : Fin n} (h : v = i.val) : index? n v = some i := h ▸ index?_val i

theorem index?_eq_none {n v : Nat} (h : n ≤ v) : index? n v = none := dif_neg (Nat.not_lt.mpr h)

/-- An index below 256 is the number of its byte. -/
theorem toNat_byte {n : Nat} (i : Fin n) (h : n ≤ 256) : (BitVec.ofNat 8 i.val).toNat = i.val := by
  rw [BitVec.toNat_ofNat]
  exact Nat.mod_eq_of_lt (i.isLt.trans_le h)

theorem index?_byte {n : Nat} (i : Fin n) (h : n ≤ 256) : index? n (BitVec.ofNat 8 i.val).toNat = some i :=
  index?_of_eq (toNat_byte i h)

theorem channel?_ratio : ∀ m : RatioId, channel? (BitVec.ofNat 8 (0x10 + m.val)) = some (.ratio m) := by decide

theorem channel?_pulse : ∀ f : PulseId, channel? (BitVec.ofNat 8 (0x20 + f.val)) = some (.pulse f) := by decide

/-- A code outside the three ranges names no channel. -/
theorem channel?_eq_none {b : Byte} (h : ¬ ChannelNamed b) : channel? b = none := by
  obtain ⟨notReference, notRatio, notPulse⟩ : b ≠ 0x00 ∧ ¬ RatioNamed b ∧ ¬ PulseNamed b :=
    ⟨fun e => h (.inl e), fun e => h (.inr (.inl e)), fun e => h (.inr (.inr e))⟩
  rw [channel?, if_neg notReference]
  split
  next range => rw [index?_eq_none (by omega), Option.map_none]
  next =>
    split
    next range => rw [index?_eq_none (by omega), Option.map_none]
    next => rfl

namespace State

/-! ## READ POOL (R24) -/

theorem steamPayload_length (s : State) : s.steamPayload.length = 28 := by
  simp [steamPayload, boilerPayload, be8, be16, pointersPayload]

theorem waterPayload_length (s : State) : s.waterPayload.length = 21 := by
  simp [waterPayload, be8, be16, pointersPayload]

theorem branchPayload_length (b : Branch) : (branchPayload b).length = 3 + b.queue.length := by
  simp [branchPayload, be8]; omega

/-- What READ POOL answers for a pool and a part, the state left alone. -/
theorem doReadPool_answers (s : State) (a b : Byte) :
    ∃ r out, s.doReadPool [a, b] = { state := s, result := r, payload := out } ∧
      (a = 0 → b = 0 → r = .ok ∧ out = s.steamPayload) ∧
      (∀ k : BranchId, a = 0 → b.toNat = k.val + 1 → r = .ok ∧ out = branchPayload (s.branch k)) ∧
      (a = 1 → b = 0 → r = .ok ∧ out = s.waterPayload) ∧
      ((1 < a.toNat ∨ (a = 0 ∧ 6 < b.toNat) ∨ (a = 1 ∧ b ≠ 0)) → r = .badIndex ∧ out = []) := by
  have zero : ∀ x : Byte, x = 0 ↔ x.toNat = 0 := fun x => by bv_omega
  have one : ∀ x : Byte, x = 1 ↔ x.toNat = 1 := fun x => by bv_omega
  simp only [doReadPool, u8At_cons_zero, u8At_cons_succ, ne_eq, zero, one]
  generalize a.toNat = x, b.toNat = y
  split
  next => exact ⟨_, _, rfl, by simp⟩
  next k =>
    by_cases h : k < 6
    · rw [index?, dif_pos h]
      refine ⟨_, _, rfl, by omega, fun j _ e => ⟨rfl, ?_⟩, by omega, by omega⟩
      congr 2
      exact Fin.ext (by simpa using e)
    · rw [index?, dif_neg h]
      exact ⟨_, _, rfl, by omega, fun j _ e => absurd j.isLt (by omega), by omega, fun _ => ⟨rfl, rfl⟩⟩
  next => exact ⟨_, _, rfl, by simp⟩
  next n00 n0k n10 =>
    refine ⟨_, _, rfl, fun e f => (n00 e f).elim, fun j e f => (n0k _ e f).elim, fun e f => (n10 e f).elim, fun _ => ⟨rfl, rfl⟩⟩

/-! ## READ STORE and READ CHANNEL (R73, R98) -/

theorem storePayload_length (s : State) (i : StoreId) : (s.storePayload i).length = 20 := by
  have reading : ∀ r, (storeReadingPayload r).length = 3 := fun r => by cases r <;> rfl
  have recharge : (s.shownRecharge i).length = 3 := by unfold shownRecharge; split <;> rfl
  simp [storePayload, be8, be16, sbe16, reading, recharge]

end State

/-- Settles O10 (R24, R73, R98): each read answers the payload of its record, by the codes of chapter 10. -/
theorem recordReadsAnswer : Obligations.RecordReadsAnswer := by
  intro s p h
  refine ⟨fun a b => ?_, fun i => ?_, ?_, fun m => ?_, fun f => ?_, fun pl hl => ?_, fun pl hl => ⟨?_, ?_⟩, fun b hb => ?_,
    fun b hb => ?_⟩
  · obtain ⟨r, out, answers, steam, branch, water, bad⟩ := (s.heard p).doReadPool_answers a b
    obtain ⟨t, ht, kept, answered⟩ := State.answered_of_direct (c := .readPool) (pl := [a, b]) h nofun rfl rfl answers
    refine ⟨t, r, out, ht, kept, answered, fun ha hb => ?_, fun k ha hb => ?_, fun ha hb => ?_, bad⟩
    · exact ⟨(steam ha hb).1, (steam ha hb).2, (steam ha hb).2 ▸ State.steamPayload_length _⟩
    · exact ⟨(branch k ha hb).1, (branch k ha hb).2, (branch k ha hb).2 ▸ State.branchPayload_length _⟩
    · exact ⟨(water ha hb).1, (water ha hb).2, (water ha hb).2 ▸ State.waterPayload_length _⟩
  · obtain ⟨t, ht, kept, answered⟩ := State.answered_of_direct (c := .readStore) (pl := [BitVec.ofNat 8 i.val])
      (out := s.storePayload i) (r := .ok) h nofun rfl rfl (by
        simp only [State.runDirect, State.doReadStore, u8At_cons_zero, index?_byte i (by decide)]
        rfl)
    exact ⟨t, ht, kept, answered, State.storePayload_length s i⟩
  · obtain ⟨t, ht, kept, answered⟩ := State.answered_of_direct (c := .readChannel) (pl := [0x00])
      (out := State.referencePayload s.reference) (r := .ok) h nofun rfl rfl rfl
    exact ⟨t, ht, kept, answered, rfl⟩
  · obtain ⟨t, ht, kept, answered⟩ := State.answered_of_direct (c := .readChannel)
      (pl := [BitVec.ofNat 8 (0x10 + m.val)]) (out := State.ratioPayload (s.ratioChannel m)) (r := .ok) h nofun rfl rfl (by
        simp only [State.runDirect, State.doReadChannel, byteAt_cons_zero, channel?_ratio]
        rfl)
    exact ⟨t, ht, kept, answered, rfl⟩
  · obtain ⟨t, ht, kept, answered⟩ := State.answered_of_direct (c := .readChannel)
      (pl := [BitVec.ofNat 8 (0x20 + f.val)]) (out := State.pulsePayload (s.pulseChannel f)) (r := .ok) h nofun rfl rfl (by
        simp only [State.runDirect, State.doReadChannel, byteAt_cons_zero, channel?_pulse]
        rfl)
    exact ⟨t, ht, kept, answered, rfl⟩
  · exact State.refused_of_length s p .readPool pl h nofun (by simpa [Code.lengthOk] using hl)
  · exact State.refused_of_length s p .readStore pl h nofun (by simpa [Code.lengthOk] using hl)
  · exact State.refused_of_length s p .readChannel pl h nofun (by simpa [Code.lengthOk] using hl)
  · refine State.refused_of_direct s p .readStore [b] _ h nofun rfl rfl ?_
    simp only [State.runDirect, State.doReadStore, u8At_cons_zero, index?_eq_none (n := 2) hb]
  · refine State.refused_of_direct s p .readChannel [b] _ h nofun rfl rfl ?_
    simp only [State.runDirect, State.doReadChannel, byteAt_cons_zero, channel?_eq_none hb]

/-! ## READ EVENTS and MASK EVENTS (R153) -/

/-- Settles O11 (R153): the flags or the mask of the sender are written before the response, and the line follows them. -/
theorem readEventsTakesTheFlagsAndMaskEventsWritesTheMask :
    Obligations.ReadEventsTakesTheFlagsAndMaskEventsWritesTheMask := by
  intro s p h
  refine ⟨?_, fun a b c => ?_⟩
  · obtain ⟨t, ht, kept, answered⟩ := State.answered_of_ports (c := .readEvents) (pl := [])
      (a := (s.heard p).doReadEvents p) (u := fun q => if q = p then { s.port q with flags := .clear } else s.port q)
      h nofun rfl rfl rfl State.allKept_of_parts (by simp [State.doReadEvents, reply, State.heardUnit])
      fun q hq => by simp [State.doReadEvents, reply, State.modPort_port, hq]
    have quiet : (t.port p).attention = false := by
      simp only [answered.1, if_true]
      exact State.attention_of_clear _ rfl
    have sent : (s.heard p |>.doReadEvents p).payload = (s.port p).flags.payload := by
      simp [State.doReadEvents, reply, State.heardUnit]
    exact ⟨t, ht, kept, sent ▸ answered, quiet, by rw [PortUnit.atnHigh, quiet]; rfl⟩
  · intro mask
    obtain ⟨t, ht, kept, answered⟩ := State.answered_of_ports (c := .maskEvents) (pl := [a, b, c])
      (a := (s.heard p).doMaskEvents p [a, b, c]) (u := fun q => if q = p then { s.port q with mask := mask } else s.port q)
      h nofun rfl rfl rfl State.allKept_of_parts (by simp [State.doMaskEvents, done, State.heardUnit, mask])
      fun q hq => by simp [State.doMaskEvents, done, State.modPort_port, hq]
    refine ⟨t, ht, kept, answered, ?_⟩
    rw [PortUnit.atnHigh, Bool.not_eq_false', State.attention_iff, answered.1]
    simp only [if_true]

end Sys2Proof.Machine
end

section
set_option Elab.async false
/-! PROOFS. Posted capacity and the settings of branches and stores (O13, O14, O16, O18). -/

namespace Sys2Proof.Machine

open Sys2Proof.Statements

/-- An index below 256 as simp leaves the number of its byte. -/
theorem index?_mod {n : Nat} (i : Fin n) (h : n ≤ 256) : index? n (i.val % 256) = some i :=
  index?_of_eq (Nat.mod_eq_of_lt (i.isLt.trans_le h))

namespace State

/-! ## What a response leaves of the records -/

section

variable (a : Answer) (p : Port) (code : Byte) (revived : Bool)

@[simp] theorem respond_outlet (n : OutletId) : (respond a p code revived).outlet n = a.state.outlet n := rfl
@[simp] theorem respond_channel (n : OutletId) : (respond a p code revived).channel n = a.state.channel n := rfl
@[simp] theorem respond_branch (b : BranchId) : (respond a p code revived).branch b = a.state.branch b := rfl
@[simp] theorem respond_boiler (b : BoilerId) : (respond a p code revived).boiler b = a.state.boiler b := rfl
@[simp] theorem respond_storeRec (i : StoreId) : (respond a p code revived).storeRec i = a.state.storeRec i := rfl
@[simp] theorem respond_ratioChannel (m : RatioId) :
    (respond a p code revived).ratioChannel m = a.state.ratioChannel m := rfl
@[simp] theorem respond_pulseChannel (f : PulseId) :
    (respond a p code revived).pulseChannel f = a.state.pulseChannel f := rfl

end

theorem modBoiler_boiler (s : State) (b k : BoilerId) (f : Boiler → Boiler) :
    (s.modBoiler b f).boiler k = if k = b then f (s.boiler k) else s.boiler k := by
  by_cases h : k = b
  · subst h; simp [modBoiler, boiler]
  · have h' : b.val ≠ k.val := fun e => h (Fin.ext e.symm)
    simp [modBoiler, boiler, h, h']

/-- The result of a command that was carried out, by whether it clamped. -/
theorem done_eq (s : State) {clamped : Bool} {P : Prop} [Decidable P] (h : clamped = true ↔ P) :
    done s clamped = { state := s, result := if P then .clamped else .ok, payload := [] } := by
  by_cases hP : P
  · simp [done, hP, h.mpr hP]
  · have : clamped = false := by rw [← Bool.not_eq_true, h]; exact hP
    simp [done, hP, this]

/-- The result of a posting that was carried out. -/
theorem postResult_eq (trip : Bool) {clamped : Bool} {P : Prop} [Decidable P] (h : clamped = true ↔ P) :
    postResult trip clamped = if trip then .tripActive else if P then .clamped else .ok := by
  by_cases hP : P
  · simp [postResult, hP, h.mpr hP]
  · have : clamped = false := by rw [← Bool.not_eq_true, h]; exact hP
    simp [postResult, hP, this]

/-- POST CAPACITY with the right and a boiler's number writes that boiler. -/
theorem doPostCapacity_ok (s : State) (p : Port) (b : BoilerId) (h l : Byte) (long : Option (Byte × Byte))
    (right : (s.globals p).capacity = true) :
    s.doPostCapacity p ([BitVec.ofNat 8 b.val, h, l] ++ (long.map fun x => [x.1, x.2]).getD []) =
      { state := s.postBoiler p b (h.toNat * 256 + l.toNat) (long.map fun x => x.1.toNat * 256 + x.2.toNat)
        result := if s.tripAsserted b then .tripActive
          else if 8000 < h.toNat * 256 + l.toNat ∨ 8000 < (long.map fun x => x.1.toNat * 256 + x.2.toNat).getD 0
            then .clamped else .ok
        payload := [] } := by
  rw [← postResult_eq (clamped := decide (8000 < h.toNat * 256 + l.toNat) ||
    above (long.map fun x => x.1.toNat * 256 + x.2.toNat) 8000) _ (by cases long <;> simp [above])]
  cases long <;> simp [doPostCapacity, right, index?_mod b (by decide), longField, u16At]
  rfl

end State

/-- Settles O13 (R52, R53): the row of POST CAPACITY on a boiler's number. -/
theorem postCapacityWritesTheBoiler : Obligations.PostCapacityWritesTheBoiler := by
  intro s p b h l long receives right v lapse
  have written := (s.heard p).doPostCapacity_ok p b h l long (by simpa using right)
  refine ⟨_, State.exec_direct (c := .postCapacity) receives nofun rfl (by cases long <;> rfl) written,
    ⟨⟨rfl, rfl, rfl⟩, ⟨rfl, rfl⟩, rfl, ⟨rfl, rfl, rfl, rfl, rfl⟩, ⟨rfl, rfl, rfl⟩, rfl, rfl⟩, ?_, fun k hk => ?_, rfl,
    State.portAnswered_respond s _ p _ s.port (State.heard_port s p) fun q => State.heard_port_ne s p q⟩
  · rw [State.respond_boiler, State.postBoiler, State.modBoiler_boiler, if_pos rfl]
    cases long <;> rfl
  · rw [State.respond_boiler, State.postBoiler, State.modBoiler_boiler, if_neg hk]
    rfl

/-- Settles O14 (R52, R59, R61): both commands write their record clamped. -/
theorem postMarginAndPumpFlowWriteTheirRecords : Obligations.PostMarginAndPumpFlowWriteTheirRecords := by
  intro s p receives right
  have right' : ((s.heard p).globals p).capacity = true := by simpa using right
  refine ⟨fun m f => ?_, fun h l long => ?_⟩
  · refine ⟨_, State.exec_direct (c := .postMargin) (pl := m :: f.toList) receives nofun rfl (by cases f <;> rfl)
      (if_neg (not_not.mpr right') |>.trans (State.done_eq _ (P := 30 < m.toNat ∨ f.any (fun x => decide (x.toNat < 20 ∨ 100 < x.toNat)) = true) ?_)), ⟨⟨rfl, rfl, rfl⟩, ⟨rfl, rfl⟩, rfl, ⟨rfl, rfl, rfl, rfl, rfl⟩, ⟨rfl, rfl, rfl⟩, rfl, rfl⟩, ?_,
      State.portAnswered_respond s _ p _ s.port (State.heard_port s p) fun q => State.heard_port_ne s p q⟩
    · rw [Bool.or_eq_true, decide_eq_true_iff]
      refine or_congr Iff.rfl ?_
      cases f with
      | none => exact Iff.rfl
      | some x =>
        have wide : clampNat 20 100 x.toNat ≠ x.toNat ↔ x.toNat < 20 ∨ 100 < x.toNat := by
          unfold clampNat
          omega
        exact (decide_eq_true_iff.trans wide).trans decide_eq_true_iff.symm
    · cases f <;> rfl
  · intro v lapse
    refine ⟨_, State.exec_direct (c := .postPumpFlow) (pl := [h, l] ++ (long.map fun x => [x.1, x.2]).getD []) receives
      nofun rfl (by cases long <;> rfl)
      (if_neg (not_not.mpr right') |>.trans (State.done_eq _ (P := 2000 < v ∨ 2000 < lapse.getD 0) ?_)), ⟨⟨rfl, rfl, rfl⟩, ⟨rfl, rfl⟩, rfl, ⟨rfl, rfl, rfl, rfl, rfl⟩, ⟨rfl, rfl, rfl⟩, rfl, rfl⟩, ?_,
      State.portAnswered_respond s _ p _ s.port (State.heard_port s p) fun q => State.heard_port_ne s p q⟩
    · cases long <;> simp [State.longField, State.above, u16At, v, lapse]
    · cases long <;> rfl

/-- Settles O18 (R123): the interval is clamped and written. -/
theorem setBranchWritesTheInterval : Obligations.SetBranchWritesTheInterval := by
  intro s p b v receives right standby
  have written : (s.heard p).doSetBranch p [BitVec.ofNat 8 b.val, v] =
      { state := (s.heard p).modBranch b fun r => { r with interval := min v.toNat 30 }
        result := if 30 < v.toNat then .clamped else .ok
        payload := [] } := by
    rw [← State.done_eq _ (decide_eq_true_iff (p := 30 < v.toNat))]
    simp [State.doSetBranch, right, index?_mod b (by decide), standby]
    rfl
  refine ⟨_, State.exec_direct (c := .setBranch) receives nofun rfl rfl written, ⟨rfl, rfl, rfl⟩, rfl, ?_, fun k hk => ?_,
    ⟨rfl, rfl⟩, ⟨rfl, rfl, rfl, rfl, rfl⟩, ⟨rfl, rfl, rfl⟩, rfl, rfl,
    State.portAnswered_respond s _ p _ s.port (State.heard_port s p) fun q => State.heard_port_ne s p q⟩
  · rw [State.respond_branch, State.modBranch_branch_self]
    rfl
  · rw [State.respond_branch, State.modBranch_branch_ne _ _ hk]
    rfl

end Sys2Proof.Machine
end

section
set_option Elab.async false
/-! PROOFS. SET STORE and the refusals of the commands that post and set (O15, O16). -/

namespace Sys2Proof.Machine

open Sys2Proof.Statements

theorem u8At_lt (pl : List Byte) (i : Nat) : u8At pl i < 256 := (byteAt pl i).isLt

namespace State

theorem done_result (s : State) (clamped : Bool) : (done s clamped).result = .clamped ↔ clamped = true := by
  cases clamped <;> simp [done]

/-! ## SET STORE (R69, R70) -/

/-- Settings are stored as carried exactly where none of them is out of its range. -/
theorem clampStore_ne_iff (c : StoreSettings) (hg : c.gain < 256) :
    clampStore c ≠ c ↔ c.setpoint < 400 ∨ 750 < c.setpoint ∨ c.lowPoint < 300 ∨
      max 400 (min c.setpoint 750) - 10 < c.lowPoint ∨ c.gain = 0 ∨ 4000 < c.fallback := by
  obtain ⟨a, b, set, low, gain, fallback⟩ := c
  simp only [clampStore, clampInt, clampNat, ne_eq, StoreSettings.mk.injEq, true_and] at hg ⊢
  omega

theorem writeStore_storeRec (s : State) (i j : StoreId) (c : StoreSettings) :
    (s.writeStore i c).storeRec j =
      if j = i then
        { s.storeRec i with
          settings := c
          reading := if (s.storeRec i).settings.primary = c.primary ∧ (s.storeRec i).settings.secondary = c.secondary
                     then (s.storeRec i).reading else s.formReading c }
      else s.storeRec j := by
  rw [writeStore, modStore_storeRec]

/-- The water record after SET STORE: the long form writes D_low and the fail derate. -/
def waterSet (w : WaterPool) (pl : List Byte) : WaterPool :=
  if pl.length = 12 then { w with dLow := max 20 (min (u8At pl 10) 100), failDerate := min (u8At pl 11) 100 } else w

/-- SET STORE with the right and two channels that may stand together. -/
theorem doSetStore_ok (s : State) (p : Port) (i : StoreId) (pl : List Byte) (a b : Option RatioId)
    (right : (s.globals p).store = true) (hi : u8At pl 0 = i.val) (ha : optIndex? 6 (byteAt pl 1) = some a)
    (hb : optIndex? 6 (byteAt pl 2) = some b) (apart : a = none ∨ a ≠ b) :
    s.doSetStore p pl = done
      { s.writeStore i (clampStore (carriedStore pl a b)) with water := waterSet s.water pl }
      (decide (clampStore (carriedStore pl a b) ≠ carriedStore pl a b) ||
        (decide (pl.length = 12 ∧ (u8At pl 10 < 20 ∨ 100 < u8At pl 10 ∨ 100 < u8At pl 11)))) := by
  have two : ¬ (a.isSome ∧ a = b) := by
    rintro ⟨some, same⟩
    exact apart.elim (fun none => by simp [none] at some) fun differ => differ same
  simp only [doSetStore, right, not_true, if_false, index?_of_eq hi, ha, hb, if_neg two]
  by_cases long : pl.length = 12
  · have wide : ∀ v, clampNat 20 100 v ≠ v ↔ v < 20 ∨ 100 < v := fun v => by unfold clampNat; omega
    congr 1
    · simp only [longField, long, if_true, waterSet]
      rfl
    · simp [longField, long, wide, above, Bool.or_assoc]
  · congr 1
    · simp only [longField, long, if_false, waterSet]
      rfl
    · simp [longField, long, above]

end State

/-- Settles O16 (R69, R70): the settings are clamped and written, and a change of channels forms the reading again. -/
theorem setStoreWritesTheStore : Obligations.SetStoreWritesTheStore := by
  intro s p i pl a b receives right length hi ha hb apart set c
  have written := (s.heard p).doSetStore_ok p i pl a b (by simpa using right) hi ha hb apart

  refine ⟨_, _, State.exec_direct (c := .setStore) receives nofun rfl (by simpa [Code.lengthOk] using length) written,
    ⟨rfl, rfl, rfl⟩, ⟨rfl, rfl⟩, rfl, rfl, rfl, rfl, rfl, ⟨rfl, rfl, rfl⟩, rfl, rfl, ?_, fun j hj => ?_, rfl,
    State.portAnswered_respond s _ p _ s.port (State.heard_port s p) fun q => State.heard_port_ne s p q, ?_, ?_⟩
  · refine (State.writeStore_storeRec (s.heard p) i i _).trans ?_
    rw [if_pos rfl]
    rfl
  · refine (State.writeStore_storeRec (s.heard p) i j _).trans ?_
    rw [if_neg hj]
    rfl
  · unfold done
    split
    · exact .inr rfl
    · exact .inl rfl
  · rw [State.done_result, Bool.or_eq_true, decide_eq_true_iff, decide_eq_true_iff,
      State.clampStore_ne_iff _ (u8At_lt pl 7)]
    simp only [or_assoc]
    rfl

/-! ## Codes of the settings commands (chapter 10) -/

/-- What a channel code names, by the four ranges of chapter 10. -/
theorem channel?_cases (b : Byte) :
    (b = 0x00 ∧ channel? b = some .reference) ∨ (RatioNamed b ∧ ∃ m, channel? b = some (.ratio m)) ∨
      (PulseNamed b ∧ ∃ f, channel? b = some (.pulse f)) ∨ (¬ ChannelNamed b ∧ channel? b = none) := by
  by_cases reference : b = 0x00
  · exact .inl ⟨reference, by rw [reference]; rfl⟩
  · by_cases ratio : RatioNamed b
    · refine .inr (.inl ⟨ratio, ⟨b.toNat - 0x10, by omega⟩, ?_⟩)
      rw [channel?, if_neg reference, if_pos ⟨ratio.1, by omega⟩, index?, dif_pos (by omega)]
      rfl
    · by_cases pulse : PulseNamed b
      · refine .inr (.inr (.inl ⟨pulse, ⟨b.toNat - 0x20, by omega⟩, ?_⟩))
        rw [channel?, if_neg reference, if_neg (by omega), if_pos pulse.1, index?, dif_pos (by omega)]
        rfl
      · have unnamed : ¬ ChannelNamed b := by rintro (h | h | h) <;> contradiction
        exact .inr (.inr (.inr ⟨unnamed, channel?_eq_none unnamed⟩))

theorem not_ratioNamed_zero : ¬ RatioNamed 0x00 := by decide

theorem not_pulseNamed_zero : ¬ PulseNamed 0x00 := by decide

theorem not_pulseNamed_of_ratioNamed {b : Byte} (h : RatioNamed b) : ¬ PulseNamed b := by
  obtain ⟨-, high⟩ := h
  rintro ⟨low, -⟩
  omega

theorem ne_zero_of_ratioNamed {b : Byte} (h : RatioNamed b) : b ≠ 0x00 := by
  rintro rfl
  exact not_ratioNamed_zero h

theorem ne_zero_of_pulseNamed {b : Byte} (h : PulseNamed b) : b ≠ 0x00 := by
  rintro rfl
  exact not_pulseNamed_zero h

/-- The length check of SET CHANNEL (R96; log 17). -/
theorem setChannelLengthOk_iff (pl : List Byte) : setChannelLengthOk pl = true ↔ ChannelLength pl := by
  unfold setChannelLengthOk ChannelLength
  rcases channel?_cases (byteAt pl 0) with ⟨zero, named⟩ | ⟨ratio, m, named⟩ | ⟨pulse, f, named⟩ | ⟨unnamed, named⟩
  · have ratio : ¬ RatioNamed (byteAt pl 0) := zero ▸ not_ratioNamed_zero
    simp only [named, beq_iff_eq]
    tauto
  · have other := not_pulseNamed_of_ratioNamed ratio
    have nonzero := ne_zero_of_ratioNamed ratio
    simp only [named, beq_iff_eq]
    tauto
  · have other : ¬ RatioNamed (byteAt pl 0) := fun h => not_pulseNamed_of_ratioNamed h pulse
    simp only [named, beq_iff_eq]
    tauto
  · have zero : byteAt pl 0 ≠ 0x00 := fun e => unnamed (.inl e)
    have ratio : ¬ RatioNamed (byteAt pl 0) := fun e => unnamed (.inr (.inl e))
    have pulse : ¬ PulseNamed (byteAt pl 0) := fun e => unnamed (.inr (.inr e))
    simp only [named, Bool.or_eq_true, beq_iff_eq]
    tauto

/-- The length check of SERVICE DRIVE (R135; log 17). -/
theorem serviceDriveLengthOk_iff (pl : List Byte) : serviceDriveLengthOk pl = true ↔ DriveLength pl := by
  have zero : byteAt pl 1 ≠ 0 ↔ u8At pl 1 ≠ 0 := by unfold u8At; bv_omega
  have one : byteAt pl 1 ≠ 1 ↔ u8At pl 1 ≠ 1 := by unfold u8At; bv_omega
  unfold serviceDriveLengthOk DriveLength
  split
  next four => simpa [four] using one
  next =>
    split
    next two => simpa [two] using zero
    next => simp [*]

theorem faultAction?_isSome : ∀ b : Byte, (faultAction? b).isSome = true ↔ b.toNat ≤ 2 := by decide

theorem enable?_isSome : ∀ b : Byte, (State.enable? b).isSome = true ↔ b.toNat ≤ 1 := by decide

theorem size?_isSome : ∀ b : Byte, (size? b).isSome = true ↔ b.toNat ≤ 5 := by decide

theorem filter?_isSome : ∀ b : Byte, (filter? b).isSome = true ↔ b.toNat ≤ 3 := by decide

theorem outletRights?_isSome (b : Byte) : (outletRights? b).isSome = true ↔ b.toNat < 32 := by
  unfold outletRights?
  split <;> simp <;> omega

theorem globalRights?_isSome (b : Byte) : (globalRights? b).isSome = true ↔ b.toNat < 16 := by
  unfold globalRights?
  split <;> simp <;> omega

/-- An optional index is FFh or an index. -/
theorem optIndex?_isSome (n : Nat) (b : Byte) : (optIndex? n b).isSome = true ↔ b.toNat < n ∨ b.toNat = 0xFF := by
  have none : b = 0xFF ↔ b.toNat = 0xFF := by bv_omega
  unfold optIndex? index?
  split
  next h => simp [none.mp h]
  next h =>
    have : b.toNat ≠ 0xFF := fun e => h (none.mpr e)
    split <;> simp <;> omega

/-- SET WINDOW finds an undefined selector, code or right exactly where check 3 of R145 refuses it. -/
theorem parseWindow_isSome (c : PortConfig) (pl : List Byte) :
    (State.parseWindow c pl).isSome = true ↔
      (u8At pl 1 < 4 ∧ u8At pl 3 ≤ 5 ∧ u8At pl 4 ≤ 3 ∧ u8At pl 5 < 32) ∨
      (u8At pl 1 = 4 ∧ u8At pl 2 < 32 ∧ u8At pl 3 < 16) := by
  have size := size?_isSome (byteAt pl 3)
  have filter := filter?_isSome (byteAt pl 4)
  have rights := outletRights?_isSome (byteAt pl 5)
  have defaults := outletRights?_isSome (byteAt pl 2)
  have globals := globalRights?_isSome (byteAt pl 3)
  change _ ↔ u8At pl 3 ≤ 5 at size
  change _ ↔ u8At pl 4 ≤ 3 at filter
  change _ ↔ u8At pl 5 < 32 at rights
  change _ ↔ u8At pl 2 < 32 at defaults
  change _ ↔ u8At pl 3 < 16 at globals
  unfold State.parseWindow
  by_cases window : u8At pl 1 < 4
  · rw [index?, dif_pos window, ← size, ← filter, ← rights]
    cases size? (byteAt pl 3) <;> cases filter? (byteAt pl 4) <;> cases outletRights? (byteAt pl 5) <;>
      simp <;> omega
  · rw [index?, dif_neg window]
    by_cases base : u8At pl 1 = 4
    · simp only [base, if_true]
      rw [← defaults, ← globals]
      cases outletRights? (byteAt pl 2) <;> cases globalRights? (byteAt pl 3) <;> simp
    · simp only [base, if_false]
      simp
      omega

/-! ## The refusals, command by command (R52, R69, R96, R123, R135, R145) -/

section

variable {s : State} {p : Port} {pl : List Byte}

theorem postings_refused_without_capacity (h : Receives s p) (right : (s.globals p).capacity = false) :
    ((pl.length = 3 ∨ pl.length = 5) → Refused s p .postCapacity pl .denied) ∧
    ((pl.length = 1 ∨ pl.length = 2) → Refused s p .postMargin pl .denied) ∧
    ((pl.length = 2 ∨ pl.length = 4) → Refused s p .postPumpFlow pl .denied) := by
  have denied : ¬ ((s.heard p).globals p).capacity = true := by simp [right]
  exact ⟨fun length => State.refused_of_direct s p .postCapacity pl _ h nofun rfl (by simpa [Code.lengthOk] using length)
      (if_pos denied),
    fun length => State.refused_of_direct s p .postMargin pl _ h nofun rfl (by simpa [Code.lengthOk] using length)
      (if_pos denied),
    fun length => State.refused_of_direct s p .postPumpFlow pl _ h nofun rfl (by simpa [Code.lengthOk] using length)
      (if_pos denied)⟩

theorem postCapacity_refused_badIndex (h : Receives s p) (right : (s.globals p).capacity = true)
    (length : pl.length = 3 ∨ pl.length = 5) (index : 1 < u8At pl 0) : Refused s p .postCapacity pl .badIndex := by
  refine State.refused_of_direct s p .postCapacity pl _ h nofun rfl (by simpa [Code.lengthOk] using length) ?_
  simp [State.runDirect, State.doPostCapacity, right, index?_eq_none (n := 2) index]

theorem setStore_refused (h : Receives s p) (length : pl.length = 10 ∨ pl.length = 12) :
    ((s.globals p).store = false → Refused s p .setStore pl .denied) ∧
    ((s.globals p).store = true →
      (1 < u8At pl 0 ∨ ¬ (u8At pl 1 ≤ 5 ∨ u8At pl 1 = 0xFF) ∨ ¬ (u8At pl 2 ≤ 5 ∨ u8At pl 2 = 0xFF)) →
      Refused s p .setStore pl .badIndex) ∧
    ((s.globals p).store = true → u8At pl 0 ≤ 1 → u8At pl 1 ≤ 5 → u8At pl 2 = u8At pl 1 →
      Refused s p .setStore pl .duplicate) := by
  have refused : ∀ r, (s.heard p).doSetStore p pl = refuse (s.heard p) r → Refused s p .setStore pl r := fun r =>
    State.refused_of_direct s p .setStore pl r h nofun rfl (by simpa [Code.lengthOk] using length)
  have primary := optIndex?_isSome 6 (byteAt pl 1)
  have secondary := optIndex?_isSome 6 (byteAt pl 2)
  refine ⟨fun right => refused _ (if_pos (by simp [right])), fun right wrong => refused _ ?_,
    fun right index first same => refused _ ?_⟩
  · change _ ↔ u8At pl 1 < 6 ∨ u8At pl 1 = 0xFF at primary
    change _ ↔ u8At pl 2 < 6 ∨ u8At pl 2 = 0xFF at secondary
    have store : (index? 2 (u8At pl 0)).isSome = true ↔ u8At pl 0 < 2 := by unfold index?; split <;> simp [*]
    simp only [State.doSetStore, State.heard_globals, right, not_true, if_false]
    split
    next i a b hi ha hb =>
      have := store.mp (by rw [hi]; rfl)
      have := primary.mp (by rw [ha]; rfl)
      have := secondary.mp (by rw [hb]; rfl)
      omega
    next => rfl
  · have named : (optIndex? 6 (byteAt pl 1)).isSome = true := by
      rw [primary]
      exact .inl (by unfold u8At at first; omega)
    have bytes : byteAt pl 2 = byteAt pl 1 := BitVec.eq_of_toNat_eq same
    obtain ⟨a, ha⟩ := Option.isSome_iff_exists.mp named
    have some : a.isSome = true := by
      unfold optIndex? at ha
      rw [if_neg (by unfold u8At at first; bv_omega)] at ha
      obtain ⟨i, -, rfl⟩ := Option.map_eq_some_iff.mp ha
      rfl
    simp only [State.doSetStore, State.heard_globals, right, not_true, if_false, bytes, ha, index?,
      dif_pos (show u8At pl 0 < 2 by omega), some, and_self, if_true]

theorem setChannel_refused (h : Receives s p) (length : ChannelLength pl) :
    ((s.globals p).admin = false → Refused s p .setChannel pl .denied) ∧
    ((s.globals p).admin = true →
      (¬ ChannelNamed (byteAt pl 0) ∨ (byteAt pl 0 = 0x00 ∧ 2 < u8At pl 1) ∨ (RatioNamed (byteAt pl 0) ∧ 1 < u8At pl 1)) →
      Refused s p .setChannel pl .badIndex) ∧
    ((s.globals p).admin = true →
      ¬ (¬ ChannelNamed (byteAt pl 0) ∨ (byteAt pl 0 = 0x00 ∧ 2 < u8At pl 1) ∨
        (RatioNamed (byteAt pl 0) ∧ 1 < u8At pl 1)) →
      s.engine.state ≠ .standby → Refused s p .setChannel pl .badState) := by
  have refused : ∀ r, (s.heard p).doSetChannel p pl = refuse (s.heard p) r → Refused s p .setChannel pl r := fun r =>
    State.refused_of_direct s p .setChannel pl r h nofun rfl ((setChannelLengthOk_iff pl).mpr length)
  have action := faultAction?_isSome (byteAt pl 1)
  have enable := enable?_isSome (byteAt pl 1)
  change _ ↔ u8At pl 1 ≤ 2 at action
  change _ ↔ u8At pl 1 ≤ 1 at enable
  refine ⟨fun right => refused _ (if_pos (by simp [right])), fun right wrong => refused _ ?_,
    fun right sound away => refused _ ?_⟩
  · simp only [State.doSetChannel, State.heard_globals, right, not_true, if_false]
    rcases channel?_cases (byteAt pl 0) with ⟨zero, named⟩ | ⟨ratio, m, named⟩ | ⟨pulse, f, named⟩ | ⟨unnamed, named⟩
    · have undefined : faultAction? (byteAt pl 1) = none := by
        rw [← Option.not_isSome_iff_eq_none, action]
        rw [zero] at wrong
        rcases wrong with none | ⟨-, high⟩ | ⟨none, -⟩
        · exact absurd (.inl rfl) none
        · omega
        · exact absurd none not_ratioNamed_zero
      simp only [named, undefined]
    · have undefined : State.enable? (byteAt pl 1) = none := by
        rw [← Option.not_isSome_iff_eq_none, enable]
        rcases wrong with none | ⟨zero, -⟩ | ⟨-, high⟩
        · exact absurd (.inr (.inl ratio)) none
        · exact absurd zero (ne_zero_of_ratioNamed ratio)
        · omega
      simp only [named, undefined]
    · rcases wrong with none | ⟨zero, -⟩ | ⟨ratio, -⟩
      · exact absurd (.inr (.inr pulse)) none
      · exact absurd zero (ne_zero_of_pulseNamed pulse)
      · exact absurd pulse (not_pulseNamed_of_ratioNamed ratio)
    · simp only [named]
  · obtain ⟨channel, reference, ratioCode⟩ : ChannelNamed (byteAt pl 0) ∧ ¬ (byteAt pl 0 = 0x00 ∧ 2 < u8At pl 1) ∧
        ¬ (RatioNamed (byteAt pl 0) ∧ 1 < u8At pl 1) :=
      ⟨not_not.mp fun e => sound (.inl e), fun e => sound (.inr (.inl e)), fun e => sound (.inr (.inr e))⟩
    simp only [State.doSetChannel, State.heard_globals, right, not_true, if_false, State.heard_engine]
    rcases channel?_cases (byteAt pl 0) with ⟨zero, named⟩ | ⟨ratio, m, named⟩ | ⟨pulse, f, named⟩ | ⟨unnamed, named⟩
    · obtain ⟨a, ha⟩ := Option.isSome_iff_exists.mp (action.mpr (not_lt.mp fun high => reference ⟨zero, high⟩))
      simp only [named, ha]
      exact if_pos away
    · obtain ⟨e, he⟩ := Option.isSome_iff_exists.mp (enable.mpr (not_lt.mp fun high => ratioCode ⟨ratio, high⟩))
      simp only [named, he]
      exact if_pos away
    · simp only [named]
      exact if_pos away
    · exact absurd channel unnamed

theorem setBranch_refused (h : Receives s p) (length : pl.length = 2) :
    ((s.globals p).admin = false → Refused s p .setBranch pl .denied) ∧
    ((s.globals p).admin = true → 5 < u8At pl 0 → Refused s p .setBranch pl .badIndex) ∧
    ((s.globals p).admin = true → u8At pl 0 ≤ 5 → s.engine.state ≠ .standby → Refused s p .setBranch pl .badState) := by
  have refused : ∀ r, (s.heard p).doSetBranch p pl = refuse (s.heard p) r → Refused s p .setBranch pl r := fun r =>
    State.refused_of_direct s p .setBranch pl r h nofun rfl (by simpa [Code.lengthOk] using length)
  refine ⟨fun right => refused _ (if_pos (by simp [right])), fun right index => refused _ ?_,
    fun right index away => refused _ ?_⟩
  · simp only [State.doSetBranch, State.heard_globals, right, not_true, if_false, index?_eq_none (n := 6) index]
  · simp only [State.doSetBranch, State.heard_globals, right, not_true, if_false, index?, dif_pos (Nat.lt_succ_of_le index),
      State.heard_engine]
    exact if_pos away

theorem setWindow_refused (h : Receives s p) (length : pl.length = 6) :
    let wrong := 2 < u8At pl 0 ∨ 4 < u8At pl 1 ∨
      (u8At pl 1 < 4 ∧ (5 < u8At pl 3 ∨ 3 < u8At pl 4 ∨ 32 ≤ u8At pl 5)) ∨
      (u8At pl 1 = 4 ∧ (32 ≤ u8At pl 2 ∨ 16 ≤ u8At pl 3))
    ((s.globals p).admin = false → Refused s p .setWindow pl .denied) ∧
    ((s.globals p).admin = true → wrong → Refused s p .setWindow pl .badIndex) ∧
    ((s.globals p).admin = true → ¬ wrong → s.engine.state ≠ .standby → Refused s p .setWindow pl .badState) := by
  have refused : ∀ r, (s.heard p).doSetWindow p pl = refuse (s.heard p) r → Refused s p .setWindow pl r := fun r =>
    State.refused_of_direct s p .setWindow pl r h nofun rfl (by simpa [Code.lengthOk] using length)
  refine ⟨fun right => refused _ (if_pos (by simp [right])), fun right wrong => refused _ ?_,
    fun right sound away => refused _ ?_⟩
  · simp only [State.doSetWindow, State.heard_globals, right, not_true, if_false]
    split
    next => rfl
    next q hq =>
      have target : u8At pl 0 < 3 := by
        unfold index? at hq
        split at hq
        · assumption
        · cases hq
      have undefined : State.parseWindow ((s.heard p).port q).config pl = none := by
        rw [← Option.not_isSome_iff_eq_none, parseWindow_isSome]
        omega
      rw [undefined]
  · obtain ⟨w, hw⟩ := Option.isSome_iff_exists.mp
      ((parseWindow_isSome ((s.heard p).port ⟨u8At pl 0, by omega⟩).config pl).mpr (by omega))
    simp only [State.doSetWindow, State.heard_globals, right, not_true, if_false, index?,
      dif_pos (show u8At pl 0 < 3 by omega), hw, State.heard_engine]
    exact if_pos away

theorem serviceDrive_refused (h : Receives s p) (length : DriveLength pl) :
    ((s.globals p).admin = false → Refused s p .serviceDrive pl .denied) ∧
    ((s.globals p).admin = true → (23 < u8At pl 0 ∨ 1 < u8At pl 1) → Refused s p .serviceDrive pl .badIndex) ∧
    ((s.globals p).admin = true → u8At pl 1 ≤ 1 → ∀ (n : OutletId) (r : Result), u8At pl 0 = n.val →
      s.serviceRefusal n = some r → Refused s p .serviceDrive pl r) := by
  have refused : ∀ r, (s.heard p).doServiceDrive p pl = refuse (s.heard p) r → Refused s p .serviceDrive pl r := fun r =>
    State.refused_of_direct s p .serviceDrive pl r h nofun rfl ((serviceDriveLengthOk_iff pl).mpr length)
  refine ⟨fun right => refused _ (if_pos (by simp [right])), fun right wrong => refused _ ?_,
    fun right form n r index refusal => refused _ ?_⟩
  · simp only [State.doServiceDrive, State.heard_globals, right, not_true, if_false]
    split
    next => rfl
    next n hn =>
      have outlet : u8At pl 0 < 24 := by
        unfold outletArg index? at hn
        split at hn
        · assumption
        · cases hn
      rw [if_pos (by omega)]
  · have refusal' : (s.heard p).serviceRefusal n = some r := refusal
    simp only [State.doServiceDrive, State.heard_globals, right, not_true, if_false, outletArg, index?_of_eq index,
      if_neg (Nat.not_lt.mpr form), refusal']

end

/-- Settles O15 (R52, R69, R96, R123, R135, R145; log 17): each command checks its length, the right, its codes and the state, in that order. -/
theorem postingsAndSettingsAreRefusedInOrder : Obligations.PostingsAndSettingsAreRefusedInOrder := by
  intro s p pl h
  have badLength : ∀ c : Code, c ≠ .tableReset → c.lengthOk pl = false → Refused s p c pl .badLength := fun c hr hl =>
    State.refused_of_length s p c pl h hr hl
  refine ⟨fun a b => badLength .postCapacity nofun (by simp [Code.lengthOk, a, b]),
    fun a b => badLength .postMargin nofun (by simp [Code.lengthOk, a, b]),
    fun a b => badLength .postPumpFlow nofun (by simp [Code.lengthOk, a, b]),
    postings_refused_without_capacity h, postCapacity_refused_badIndex h,
    ⟨fun a b => badLength .setStore nofun (by simp [Code.lengthOk, a, b]), setStore_refused h⟩,
    ⟨fun a => badLength .setChannel nofun ?_, setChannel_refused h⟩,
    ⟨fun a => badLength .setBranch nofun (by simpa [Code.lengthOk] using a), setBranch_refused h⟩,
    ⟨fun a => badLength .setWindow nofun (by simpa [Code.lengthOk] using a), setWindow_refused h⟩,
    ⟨fun a => badLength .serviceDrive nofun ?_, fun length => ?_⟩,
    fun a => badLength .maskEvents nofun (by simpa [Code.lengthOk] using a)⟩
  · exact Bool.eq_false_iff.mpr fun ok => a ((setChannelLengthOk_iff pl).mp ok)
  · exact Bool.eq_false_iff.mpr fun ok => a ((serviceDriveLengthOk_iff pl).mp ok)
  · obtain ⟨denied, badIndex, checked⟩ := serviceDrive_refused h length
    refine ⟨denied, badIndex, fun right form n index => ⟨fun away => checked right form n _ index (if_pos away),
      fun service unused => checked right form n _ index ?_, fun service used away => checked right form n _ index ?_⟩⟩
    · rw [State.serviceRefusal, if_neg (not_not.mpr service), if_pos unused]
    · rw [State.serviceRefusal, if_neg (not_not.mpr service), if_neg used, if_pos away]

end Sys2Proof.Machine
end

section
set_option Elab.async false
/-! PROOFS. SET WINDOW (O19). -/

namespace Sys2Proof.Machine

open Sys2Proof.Statements

/-! ## The codes of SET WINDOW read back (chapter 10) -/

@[simp] theorem size?_code (c : SizeCode) : size? (BitVec.ofNat 8 (sizeCode c)) = some c := by cases c <;> rfl

@[simp] theorem filter?_code (f : PoolFilter) : filter? (BitVec.ofNat 8 (filterCode f)) = some f := by cases f <;> rfl

@[simp] theorem outletRights?_code (r : OutletRights) : outletRights? (BitVec.ofNat 8 (outletRightsCode r)) = some r := by
  obtain ⟨a, b, c, d, e⟩ := r
  revert a b c d e
  decide

@[simp] theorem globalRights?_code (g : GlobalRights) : globalRights? (BitVec.ofNat 8 (globalRightsCode g)) = some g := by
  obtain ⟨a, b, c, d⟩ := g
  revert a b c d
  decide

namespace State

theorem clampBase_eq (size : SizeCode) (base : Nat) :
    clampBase size base = if size = .all then 0 else min base 23 / windowSize size * windowSize size := by
  cases size <;> rfl

/-- Some port keeps ADMIN where the new configuration has it or another port does. -/
theorem adminLeft_iff (s : State) (q : Port) (c : PortConfig) :
    s.adminLeft q c = true ↔ c.globalRights.admin = true ∨ ∃ k, k ≠ q ∧ (s.globals k).admin = true := by
  rw [adminLeft, List.any_eq_true]
  constructor
  · rintro ⟨r, -, held⟩
    by_cases e : r = q
    · rw [if_pos e] at held
      exact .inl held
    · rw [if_neg e] at held
      exact .inr ⟨r, e, held⟩
  · rintro (own | ⟨k, other, held⟩)
    · exact ⟨q, List.mem_finRange q, by rw [if_pos rfl]; exact own⟩
    · exact ⟨k, List.mem_finRange k, by rw [if_neg other]; exact held⟩

/-- SET WINDOW of a window. -/
theorem parseWindow_window (c : PortConfig) (q : Port) (w : Fin 4) (base : Byte) (size : SizeCode) (filter : PoolFilter)
    (r : OutletRights) :
    parseWindow c [BitVec.ofNat 8 q.val, BitVec.ofNat 8 w.val, base, BitVec.ofNat 8 (sizeCode size),
        BitVec.ofNat 8 (filterCode filter), BitVec.ofNat 8 (outletRightsCode r)] =
      some
        { config := { c with windows := c.windows.set w ⟨clampBase size base.toNat, size, filter, r⟩ }
          clamped := decide (clampBase size base.toNat ≠ base.toNat), setsSilence := false } := by
  simp only [parseWindow, u8At_cons_succ, u8At_cons_zero, byteAt_cons_succ, byteAt_cons_zero,
    index?_byte w (by decide), size?_code, filter?_code, outletRights?_code]
  rfl

/-- SET WINDOW of the default set, the global set and the silence time. -/
theorem parseWindow_defaults (c : PortConfig) (q : Port) (d : OutletRights) (g : GlobalRights) (h l : Byte) :
    parseWindow c [BitVec.ofNat 8 q.val, 4, BitVec.ofNat 8 (outletRightsCode d), BitVec.ofNat 8 (globalRightsCode g), h, l] =
      some
        { config := { c with defaultRights := d, globalRights := g, silence := clampSilence (h.toNat * 256 + l.toNat) }
          clamped := decide (clampSilence (h.toNat * 256 + l.toNat) ≠ h.toNat * 256 + l.toNat), setsSilence := true } := by
  have four : (4 : Byte).toNat = 4 := rfl
  simp only [parseWindow, u8At_cons_succ, u8At_cons_zero, byteAt_cons_succ, byteAt_cons_zero, four,
    index?_eq_none (Nat.le_refl 4), if_true, outletRights?_code, globalRights?_code, u16At]
  rfl

/-- SET WINDOW with the right, in STANDBY, of what its payload writes. -/
theorem doSetWindow_eq (s : State) (p q : Port) (pl : List Byte) (w : RightsWrite) (right : (s.globals p).admin = true)
    (standby : s.engine.state = .standby) (target : u8At pl 0 = q.val)
    (parsed : parseWindow (s.port q).config pl = some w) :
    s.doSetWindow p pl =
      if s.adminLeft q w.config then done (s.writeRights p q w) w.clamped else refuse s .denied := by
  simp only [doSetWindow, right, not_true, if_false, index?_of_eq target, parsed, standby, ne_eq]
  cases s.adminLeft q w.config <;> simp

end State

/-- A command clamped what it carried exactly where another number was stored. -/
theorem done_result_of_ne (s : State) (stored carried : Nat) :
    (done s (decide (stored ≠ carried))).result = if stored = carried then .ok else .clamped := by
  by_cases h : stored = carried <;> simp [done, h]

/-- The port units after a rights write, as the command's own frame has left them before. -/
theorem writeRights_port (s : State) (p q k : Port) (w : State.RightsWrite) :
    ((s.heard p).writeRights p q w).port k =
      if k = q then
        { (s.heard p).port q with
          config := w.config
          silence := if ¬ w.setsSilence then ((s.heard p).port q).silence
                     else if p = q then SilenceTimer.load w.config.silence
                     else silenceAfter ((s.heard p).port q) w.config.silence }
      else (s.heard p).port k := by
  rw [State.writeRights, State.modPort_port]

/-- Settles O19 (R145, R147; log 30, log 38): the payload is read back as written, and ADMIN is left or not. -/
theorem setWindowWritesTheRights : Obligations.SetWindowWritesTheRights := by
  intro s p q receives right standby
  have right' : ((s.heard p).globals p).admin = true := by simpa using right
  refine ⟨fun w base size filter r => ?_, fun d g h l left => ?_, fun d g h l none others => ?_⟩
  · intro stored written
    have parsed := State.parseWindow_window ((s.heard p).port q).config q w base size filter r
    have left : (s.heard p).adminLeft q ((s.heard p).port q).config = true := by
      rw [State.adminLeft_iff]
      by_cases e : p = q
      · exact .inl (e ▸ right')
      · exact .inr ⟨p, e, right'⟩
    have writes := (State.doSetWindow_eq (s.heard p) p q _ _ right' standby (by exact toNat_byte q (by decide)) parsed).trans
      (if_pos left)
    have base_eq : clampBase size base.toNat = stored := State.clampBase_eq size base.toNat
    rw [base_eq] at writes
    obtain ⟨t, ht, kept, answered⟩ := State.answered_of_ports (c := .setWindow)
      (u := fun k => if k = q then
        { s.port k with config := { (s.port k).config with windows := (s.port k).config.windows.set w written } }
        else s.port k)
      receives nofun rfl rfl writes State.allKept_of_parts
      (by
        refine (writeRights_port s p q p _).trans ?_
        by_cases e : p = q
        · subst e; simp [State.heardUnit, written]
        · simp [e])
      (fun k hk => by
        refine (writeRights_port s p q k _).trans ?_
        by_cases e : k = q
        · subst e; simp [hk, State.heard_port_ne, written]
        · simp [e, hk, State.heard_port_ne])
    refine ⟨t, ht, kept, ?_⟩
    rw [done_result_of_ne] at answered
    exact answered
  · intro v stored
    have parsed := State.parseWindow_defaults ((s.heard p).port q).config q d g h l
    have writes := (State.doSetWindow_eq (s.heard p) p q _ _ right' standby (by exact toNat_byte q (by decide)) parsed).trans
      (if_pos ((State.adminLeft_iff _ _ _).mpr (by simpa using left)))
    have stored_eq : clampSilence v = stored := rfl
    rw [show clampSilence (h.toNat * 256 + l.toNat) = stored from stored_eq] at writes
    obtain ⟨t, ht, kept, answered⟩ := State.answered_of_ports (c := .setWindow)
      (u := fun k => if k = q then
        { s.port k with
          config := { (s.port k).config with defaultRights := d, globalRights := g, silence := stored }
          silence := if stored = 0 then none
                     else if (s.port k).config.silence = 0 ∧ (s.port k).link = .active then SilenceTimer.load stored
                     else (s.port k).silence }
        else s.port k)
      receives nofun rfl rfl writes State.allKept_of_parts
      (by
        refine (writeRights_port s p q p _).trans ?_
        by_cases e : p = q
        · subst e; simp [State.heardUnit]
        · simp [e])
      (fun k hk => by
        refine (writeRights_port s p q k _).trans ?_
        by_cases e : k = q
        · subst e; simp [hk, Ne.symm hk, State.heard_port_ne, silenceAfter]
        · simp [e, hk, State.heard_port_ne])
    refine ⟨t, ht, kept, ?_⟩
    rw [done_result_of_ne] at answered
    exact answered
  · have parsed := State.parseWindow_defaults ((s.heard p).port q).config q d g h l
    have unadmitted : ¬ (s.heard p).adminLeft q
        { ((s.heard p).port q).config with
          defaultRights := d, globalRights := g, silence := clampSilence (h.toNat * 256 + l.toNat) } = true := by
      rw [State.adminLeft_iff]
      rintro (own | ⟨k, hk, held⟩)
      · rw [none] at own
        cases own
      · rw [State.heard_globals, others k hk] at held
        cases held
    exact State.answered_of_direct (c := .setWindow) receives nofun rfl rfl
      ((State.doSetWindow_eq (s.heard p) p q _ _ right' standby (by exact toNat_byte q (by decide)) parsed).trans
        (if_neg unadmitted))

end Sys2Proof.Machine
end

section
set_option Elab.async false
/-! PROOFS. The engine commands that change a state or start an operation, and SERVICE DRIVE (O20, O22, O23, O24, O27). -/

namespace Sys2Proof.Machine

open Sys2Proof.Statements

namespace State

/-! ## What a response leaves of the parts -/

section

variable (a : Answer) (p : Port) (code : Byte) (revived : Bool)

@[simp] theorem respond_outlets : (respond a p code revived).outlets = a.state.outlets := rfl
@[simp] theorem respond_profile : (respond a p code revived).profile = a.state.profile := rfl
@[simp] theorem respond_arbiter : (respond a p code revived).arbiter = a.state.arbiter := rfl
@[simp] theorem respond_bursts : (respond a p code revived).bursts = a.state.bursts := rfl
@[simp] theorem respond_steam : (respond a p code revived).steam = a.state.steam := rfl
@[simp] theorem respond_water : (respond a p code revived).water = a.state.water := rfl
@[simp] theorem respond_stores : (respond a p code revived).stores = a.state.stores := rfl
@[simp] theorem respond_reference : (respond a p code revived).reference = a.state.reference := rfl
@[simp] theorem respond_ratio : (respond a p code revived).ratio = a.state.ratio := rfl
@[simp] theorem respond_pulse : (respond a p code revived).pulse = a.state.pulse := rfl
@[simp] theorem respond_scan : (respond a p code revived).scan = a.state.scan := rfl
@[simp] theorem respond_inputs : (respond a p code revived).inputs = a.state.inputs := rfl
@[simp] theorem respond_channels : (respond a p code revived).channels = a.state.channels := rfl
@[simp] theorem respond_branches : (respond a p code revived).branches = a.state.branches := rfl
@[simp] theorem respond_engine : (respond a p code revived).engine = a.state.engine := rfl
@[simp] theorem respond_store : (respond a p code revived).store = a.state.store := rfl
@[simp] theorem respond_pending : (respond a p code revived).pending = a.state.pending := rfl

end

/-- A change of the engine state. -/
theorem setEngine_ne (s : State) (e : EngineState) (h : s.engine.state ≠ e) :
    s.setEngine e = (s.modEngine fun g => { g with state := e }).postAll .engineState := if_neg h

/-- The checks of an engine command are passed. -/
theorem checkEngine_none {s : State} {c : Code} {p : Port} (right : (s.globals p).admin = true)
    (idle : engineBusy s.engine.op c = false) (taken : engineTakenFrom c s.engine.state = true) :
    s.checkEngine c p = none := by
  simp [checkEngine, right, idle, taken]

/-- Only a save or a load, or a self-test for the two commands that start an operation, makes an engine command answer BUSY. -/
theorem engineBusy_eq_false {op : Operation} {c : Code} (h : op = .none ∨ op = .selfTest) (ht : c ≠ .testTable)
    (hs : c ≠ .saveConfig) : engineBusy op c = false := by
  rcases h with rfl | rfl
  · rfl
  · simp [engineBusy, ht, hs]

theorem engineOk_ok {s : State} {c : Code} {p : Port} (f : State → State) (h : s.checkEngine c p = none) :
    s.engineOk c p f = { state := f s, result := .ok, payload := [] } := by
  rw [engineOk, h]
  rfl

theorem engineAccepted_ok {s : State} {c : Code} {p : Port} (f : State → State) (h : s.checkEngine c p = none) :
    s.engineAccepted c p f = { state := f s, result := .accepted, payload := [] } := by
  rw [engineAccepted, h]

/-- A port unit of the heard state with an event posted. -/
theorem withEvent_heard_port (s : State) (p q : Port) (e : Event) :
    withEvent ((s.heard p).port q) e = if q = p then heardUnit (withEvent (s.port q) e) else withEvent (s.port q) e := by
  by_cases h : q = p
  · subst h; simp [withEvent, heardUnit]
  · simp [h, heard_port_ne]

theorem postAll_port (s : State) (e : Event) (q : Port) : (s.postAll e).port q = withEvent (s.port q) e := by
  rw [postAll, mapPorts_port]
  rfl

end State

/-- Settles O20 (R133, R155, R156): the channels leave the pattern, the timers start. -/
theorem engineStartEntersRun : Obligations.EngineStartEntersRun := by
  intro s p receives right op standby
  have leaves : (s.heard p).engine.state ≠ .run := by simp [standby]
  have check : (s.heard p).checkEngine .engineStart p = none :=
    State.checkEngine_none (by simpa using right) (State.engineBusy_eq_false op nofun nofun) (by simp [standby, State.engineTakenFrom])
  have started := State.engineOk_ok State.runEngineStart check
  rw [State.runEngineStart, State.setEngine_ne _ _ leaves] at started
  refine ⟨_, State.exec_direct (c := .engineStart) (pl := []) receives nofun rfl rfl started, by simp [RecordsKept],
    by simp, by simp [MeasureKept], by simp [RestKept], by simp [ArbiterKept], ?_, by simp, by simp, fun n => ?_,
    State.portAnswered_respond s _ p _ (allEvent s .engineState) ?_ fun q hq => ?_⟩
  · simp [State.modEngine]
  · rw [State.respond_channel, State.mapChannels_channel]
    change State.leavePattern (s.channel n) = _
    unfold State.leavePattern
    by_cases pattern : (s.channel n).phase = .safePattern
    · simp only [pattern, ne_eq, not_true, if_true, if_false]
    · simp only [pattern, ne_eq, not_false_iff, if_true, if_false]
  · rw [State.mapChannels_port_kept]
    exact (State.postAll_port _ _ _).trans ((State.withEvent_heard_port s p p _).trans (if_pos rfl))
  · rw [State.mapChannels_port_kept]
    exact (State.postAll_port _ _ _).trans ((State.withEvent_heard_port s p q _).trans (if_neg hq))

/-- Settles O22 (R134, R155, R156, R159): both commands change the engine state and what goes with it. -/
theorem serviceEnterAndLeave : Obligations.ServiceEnterAndLeave := by
  intro s p receives right op
  have right' : ((s.heard p).globals p).admin = true := by simpa using right
  refine ⟨fun run => ?_, fun service => ?_⟩
  · have check : (s.heard p).checkEngine .serviceEnter p = none :=
      State.checkEngine_none right' (State.engineBusy_eq_false op nofun nofun) (by simp [run, State.engineTakenFrom])
    have entered := State.engineOk_ok State.runServiceEnter check
    rw [State.runServiceEnter, State.setEngine_ne _ _ (by simp [run])] at entered
    refine ⟨_, State.exec_direct (c := .serviceEnter) (pl := []) receives nofun rfl rfl entered, by simp [RecordsKept, State.withdrawRequests],
      by simp [DriveKept, State.withdrawRequests], by simp [PoolsKept, State.withdrawRequests],
      by simp [MeasureKept, State.withdrawRequests], by simp [RestKept, State.withdrawRequests], ?_, ?_,
      State.portAnswered_respond s _ p _ (allEvent s .engineState) ?_ fun q hq => ?_⟩
    · simp [State.withdrawRequests, State.modEngine]
    · simp [State.withdrawRequests, State.modArbiter]
    · exact (State.postAll_port _ _ _).trans ((State.withEvent_heard_port s p p _).trans (if_pos rfl))
    · exact (State.postAll_port _ _ _).trans ((State.withEvent_heard_port s p q _).trans (if_neg hq))
  · have check : (s.heard p).checkEngine .serviceLeave p = none :=
      State.checkEngine_none right' (State.engineBusy_eq_false op nofun nofun) (by simp [service, State.engineTakenFrom])
    have left := State.engineOk_ok State.runServiceLeave check
    rw [State.runServiceLeave, State.setEngine_ne _ _ (by simp [service])] at left
    refine ⟨_, State.exec_direct (c := .serviceLeave) (pl := []) receives nofun rfl rfl left, by simp [RecordsKept], by simp,
      by simp, by simp, by simp [MeasureKept], by simp [RestKept], by simp [ArbiterKept], ?_, fun n => ?_,
      State.portAnswered_respond s _ p _ (allEvent s .engineState) ?_ fun q hq => ?_⟩
    · simp [State.modEngine]
    · rw [State.respond_channel, State.mapChannels_channel]
      rfl
    · rw [State.mapChannels_port_kept]
      exact (State.postAll_port _ _ _).trans ((State.withEvent_heard_port s p p _).trans (if_pos rfl))
    · rw [State.mapChannels_port_kept]
      exact (State.postAll_port _ _ _).trans ((State.withEvent_heard_port s p q _).trans (if_neg hq))

/-- Settles O23 (R161, R166): the operation is set and nothing else. -/
theorem testTableAndSaveConfigAreAccepted : Obligations.TestTableAndSaveConfigAreAccepted := by
  intro s p receives right op
  have right' : ((s.heard p).globals p).admin = true := by simpa using right
  refine ⟨fun away => ?_, fun standby => ?_⟩
  · have check : (s.heard p).checkEngine .testTable p = none :=
      State.checkEngine_none right' (by simp [op, State.engineBusy]) (by simp [away, State.engineTakenFrom])
    refine ⟨_, State.exec_direct (c := .testTable) (pl := []) receives nofun rfl rfl
        (State.engineAccepted_ok State.runTestTable check), by simp [RecordsKept, State.runTestTable],
      by simp [DriveKept, State.runTestTable], by simp [PoolsKept, State.runTestTable],
      by simp [MeasureKept, State.runTestTable], by simp [RestKept, State.runTestTable],
      by simp [ArbiterKept, State.runTestTable], by simp [State.runTestTable, State.modEngine],
      State.portAnswered_respond s _ p _ s.port (State.heard_port s p) fun q => State.heard_port_ne s p q, rfl⟩
  · have check : (s.heard p).checkEngine .saveConfig p = none :=
      State.checkEngine_none right' (by simp [op, State.engineBusy]) (by simp [standby, State.engineTakenFrom])
    refine ⟨_, State.exec_direct (c := .saveConfig) (pl := []) receives nofun rfl rfl
        (State.engineAccepted_ok State.runSaveConfig check), by simp [RecordsKept, State.runSaveConfig],
      by simp [DriveKept, State.runSaveConfig], by simp [PoolsKept, State.runSaveConfig],
      by simp [MeasureKept, State.runSaveConfig], by simp [RestKept, State.runSaveConfig],
      by simp [ArbiterKept, State.runSaveConfig], by simp [State.runSaveConfig, State.modEngine],
      State.portAnswered_respond s _ p _ s.port (State.heard_port s p) fun q => State.heard_port_ne s p q, rfl⟩

/-! ## The refusals of the engine commands (R155) -/

namespace State

/-- Held frames are left alone where every port that holds one is lapsing still. -/
theorem takeHeld_eq_self (s : State)
    (h : ∀ q code bytes, (s.port q).outstanding = some (.held code bytes) → (s.port q).link = .lapsing) :
    s.takeHeld = s := by
  have one : ∀ p, s.takeHeldOf p = s := fun p => by
    by_cases lapsing : (s.port p).link = .lapsing
    · exact takeHeldOf_lapsing s p lapsing
    · exact takeHeldOf_none s p fun code bytes held => lapsing (h p code bytes held)
  have once : s.takeHeldOnce = s :=
    forPorts_induct (fun t => t = s) (fun p t => t.takeHeldOf p) s rfl fun p t same => by rw [same]; exact one p
  rw [takeHeld, once, once]

/-- A TABLE RESET at a port that receives is taken, and then the frames that are held. -/
theorem frameOf_tableReset (s : State) (p : Port) (pl : List Byte) (h : Receives s p) :
    s.frameOf p .tableReset pl =
      (if pl.length = 0 then
          respond ((s.heard p).runDirect .tableReset p pl) p 0x46 (decide ((s.port p).link = .lapsed))
        else (s.heard p).answer p 0x46 (decide ((s.port p).link = .lapsed)) .badLength []).takeHeld := by
  have taken := takeFrame_receives s p Code.tableReset.byte pl h
  obtain ⟨started, free, present⟩ := h
  have silent : s.transmitting p = false := by simp [transmitting, free]
  have length : Code.tableReset.lengthOk pl = true ↔ pl.length = 0 := by simp [Code.lengthOk]
  have frame : s.frameOf p .tableReset pl =
      ((s.modPort p fun u => { u with receiver := .idle }).takeFrame p Code.tableReset.byte pl).takeHeld := by
    simp only [frameOf, goodFrame, started, silent, Bool.or_false, Bool.false_eq_true, if_false, free, if_true]
    cases link : (s.port p).link with
    | active | lapsed => rfl
    | lapsing => exact absurd link present
  rw [frame, taken, ofByte_byte]
  simp only [length]
  split <;> rfl

/-- The checks of an engine command refuse it, whichever of the two ways it answers. -/
theorem runDirect_refuses {s : State} {c : Code} {p : Port} {r : Result} (pl : List Byte)
    (hc : c ∈ [Code.engineStart, .engineStop, .serviceEnter, .serviceLeave, .engineReset, .tableReset, .testTable, .saveConfig])
    (h : s.checkEngine c p = some r) : s.runDirect c p pl = refuse s r := by
  have ok : ∀ f, s.engineOk c p f = refuse s r := fun f => by rw [engineOk, h]
  have accepted : ∀ f, s.engineAccepted c p f = refuse s r := fun f => by rw [engineAccepted, h]
  simp only [List.mem_cons, List.not_mem_nil, or_false] at hc
  rcases hc with rfl | rfl | rfl | rfl | rfl | rfl | rfl | rfl
  · exact ok _
  · exact ok _
  · exact ok _
  · exact ok _
  · exact ok _
  · exact accepted _
  · exact accepted _
  · exact accepted _

/-- An engine command that its length or its checks refuse answers so, and nothing but the sender's port unit changes. -/
theorem engineCommand_refused {s : State} {p : Port} {c : Code} {pl : List Byte} {r : Result} (h : Receives s p)
    (hc : c ∈ [Code.engineStart, .engineStop, .serviceEnter, .serviceLeave, .engineReset, .tableReset, .testTable, .saveConfig])
    (held : c = .tableReset → ∀ q code bytes, (s.port q).outstanding = some (.held code bytes) → (s.port q).link = .lapsing)
    (why : (pl ≠ [] ∧ r = .badLength) ∨ (pl = [] ∧ s.checkEngine c p = some r)) : Refused s p c pl r := by
  have checked : (s.heard p).checkEngine c p = s.checkEngine c p := by simp [checkEngine]
  have direct : c.isTable = false ∧ c.lengthOk pl = decide (pl.length = 0) := by
    simp only [List.mem_cons, List.not_mem_nil, or_false] at hc
    rcases hc with rfl | rfl | rfl | rfl | rfl | rfl | rfl | rfl <;> exact ⟨rfl, rfl⟩
  obtain ⟨notTable, length⟩ := direct
  by_cases reset : c = .tableReset
  · refine refused_of_answer s p c pl r ?_
    have unheld : ∀ r, ((s.heard p).answer p c.byte (decide ((s.port p).link = .lapsed)) r []).takeHeld =
        (s.heard p).answer p c.byte (decide ((s.port p).link = .lapsed)) r [] := fun r => by
      refine takeHeld_eq_self _ fun q code bytes waiting => ?_
      by_cases own : q = p
      · subst own
        rw [answer_port] at waiting
        cases waiting
      · rw [answer_port_ne _ _ _ _ _ _ _ own, heard_port_ne s p q own] at waiting ⊢
        exact held reset q code bytes waiting
    rw [← unheld]
    subst reset
    rw [frameOf_tableReset s p pl h]
    rcases why with ⟨long, rfl⟩ | ⟨rfl, refusal⟩
    · rw [if_neg (by simpa using long)]
      rfl
    · rw [if_pos List.length_nil, runDirect_refuses [] hc (checked.trans refusal)]
      rfl
  · rcases why with ⟨long, rfl⟩ | ⟨rfl, refusal⟩
    · exact refused_of_length s p c pl h reset (by simpa [length] using long)
    · exact refused_of_direct s p c [] r h reset notTable (by simp [length]) (runDirect_refuses [] hc (checked.trans refusal))

end State

/-- Settles O24 (R155): the checks of the engine commands stand in the order of the statement. -/
theorem engineCommandsAreRefusedInOrder : Obligations.EngineCommandsAreRefusedInOrder := by
  intro s p c pl h hc held answers takenFrom busy
  have busy_iff : State.engineBusy s.engine.op c = true ↔ busy := by
    unfold State.engineBusy
    cases op : s.engine.op <;> simp [busy, op]
  have taken_iff : State.engineTakenFrom c s.engine.state = true ↔ s.engine.state ∈ takenFrom := by
    simp only [List.mem_cons, List.not_mem_nil, or_false] at hc
    rcases hc with rfl | rfl | rfl | rfl | rfl | rfl | rfl | rfl <;>
      cases s.engine.state <;> simp [State.engineTakenFrom, takenFrom]
  refine ⟨fun long => State.engineCommand_refused h hc held (.inl ⟨long, rfl⟩),
    fun empty right => State.engineCommand_refused h hc held (.inr ⟨empty, ?_⟩),
    fun empty right isBusy => State.engineCommand_refused h hc held (.inr ⟨empty, ?_⟩),
    fun empty right notBusy away => State.engineCommand_refused h hc held (.inr ⟨empty, ?_⟩)⟩
  · rw [State.checkEngine, if_pos (by simp [right])]
  · rw [State.checkEngine, if_neg (not_not.mpr right), if_pos (busy_iff.mpr isBusy)]
  · rw [State.checkEngine, if_neg (not_not.mpr right), if_neg (mt busy_iff.mp notBusy), if_pos (mt taken_iff.mp away)]

/-- Settles O27 (R135): the override of one channel is written or removed. -/
theorem serviceDriveSetsAndReleasesTheOverride : Obligations.ServiceDriveSetsAndReleasesTheOverride := by
  intro s p n receives right service used active present
  have allowed : (s.heard p).serviceRefusal n = none := by
    have same : (s.heard p).serviceRefusal n = s.serviceRefusal n := rfl
    rw [same, State.serviceRefusal, if_neg (not_not.mpr service), if_neg used,
      if_neg (not_or.mpr ⟨not_not.mpr active, by rw [Bool.not_eq_true]; exact present⟩)]
  have right' : ((s.heard p).globals p).admin = true := by simpa using right
  refine ⟨fun h l => ?_, ?_⟩
  · intro v period
    have set : (s.heard p).doServiceDrive p [BitVec.ofNat 8 n.val, 0, h, l] = (s.heard p).driveSet n v := by
      simp only [State.doServiceDrive, right', not_true, if_false, outletArg, u8At_cons_zero, index?_byte n (by decide),
        allowed]
      rfl
    rw [State.driveSet, State.done_eq _ decide_eq_true_iff] at set
    refine ⟨_, State.exec_direct (c := .serviceDrive) (pl := [BitVec.ofNat 8 n.val, 0, h, l]) receives nofun rfl rfl set,
      by simp [RecordsKept], by simp, ?_, fun m hm => ?_, by simp [PoolsKept], by simp [MeasureKept], by simp [RestKept],
      by simp [EngineKept], by simp [ArbiterKept],
      State.portAnswered_respond s _ p _ s.port (State.heard_port s p) fun q => State.heard_port_ne s p q⟩
    · rw [State.respond_channel, State.modChannel_channel_self]
      rfl
    · rw [State.respond_channel, State.modChannel_channel_ne _ _ hm]
      rfl
  · have release : (s.heard p).doServiceDrive p [BitVec.ofNat 8 n.val, 1] = (s.heard p).driveRelease n := by
      simp only [State.doServiceDrive, right', not_true, if_false, outletArg, u8At_cons_zero, index?_byte n (by decide),
        allowed]
      rfl
    rw [State.driveRelease] at release
    refine ⟨_, State.exec_direct (c := .serviceDrive) (pl := [BitVec.ofNat 8 n.val, 1]) receives nofun rfl rfl release,
      by simp [RecordsKept, done], by simp [done], ?_, fun m hm => ?_, by simp [PoolsKept, done], by simp [MeasureKept, done],
      by simp [RestKept, done], by simp [EngineKept, done], by simp [ArbiterKept, done],
      State.portAnswered_respond s _ p _ s.port (State.heard_port s p) fun q => State.heard_port_ne s p q⟩
    · rw [State.respond_channel, done, State.modChannel_channel_self]
      rfl
    · rw [State.respond_channel, done, State.modChannel_channel_ne _ _ hm]
      rfl

end Sys2Proof.Machine
end

section
set_option Elab.async false
/-! PROOFS. Table commands with the table idle: the state they are carried out on, and what an entry's removal does to the records and the ports. -/

namespace Sys2Proof.Machine.State

open Sys2Proof.Statements

/-! ## The state a table command is carried out on -/

/-- The heard state with the command of a port in hand and the port as the holder of the table (R20, R140 step 6). -/
def served (s : State) (p : Port) (c : Code) (pl : List Byte) : State := (s.waitingState p c.byte pl).hold (.port p)

section

variable (s : State) (p : Port) (c : Code) (pl : List Byte)

@[simp] theorem served_outlets : (s.served p c pl).outlets = s.outlets := rfl
@[simp] theorem served_profile : (s.served p c pl).profile = s.profile := rfl
@[simp] theorem served_bursts : (s.served p c pl).bursts = s.bursts := rfl
@[simp] theorem served_steam : (s.served p c pl).steam = s.steam := rfl
@[simp] theorem served_water : (s.served p c pl).water = s.water := rfl
@[simp] theorem served_stores : (s.served p c pl).stores = s.stores := rfl
@[simp] theorem served_reference : (s.served p c pl).reference = s.reference := rfl
@[simp] theorem served_ratio : (s.served p c pl).ratio = s.ratio := rfl
@[simp] theorem served_pulse : (s.served p c pl).pulse = s.pulse := rfl
@[simp] theorem served_scan : (s.served p c pl).scan = s.scan := rfl
@[simp] theorem served_inputs : (s.served p c pl).inputs = s.inputs := rfl
@[simp] theorem served_channels : (s.served p c pl).channels = s.channels := rfl
@[simp] theorem served_branches : (s.served p c pl).branches = s.branches := rfl
@[simp] theorem served_engine : (s.served p c pl).engine = s.engine := rfl
@[simp] theorem served_store : (s.served p c pl).store = s.store := rfl
@[simp] theorem served_pending : (s.served p c pl).pending = s.pending := rfl
@[simp] theorem served_outlet (n : OutletId) : (s.served p c pl).outlet n = s.outlet n := rfl
@[simp] theorem served_channel (n : OutletId) : (s.served p c pl).channel n = s.channel n := rfl
@[simp] theorem served_branch (b : BranchId) : (s.served p c pl).branch b = s.branch b := rfl
@[simp] theorem served_entryOf (n : OutletId) : (s.served p c pl).entryOf n = s.entryOf n := rfl
@[simp] theorem served_clearedAmount (n : OutletId) : (s.served p c pl).clearedAmount n = s.clearedAmount n := rfl
@[simp] theorem served_inPattern : (s.served p c pl).inPattern = s.inPattern := rfl

/-- The port has become the holder and the last holder. -/
theorem served_arbiter :
    (s.served p c pl).arbiter = { s.arbiter with holder := some (.port p), lastHolder := .port p } := rfl

/-- The sender's unit has its command in hand. -/
theorem served_port_self :
    (s.served p c pl).port p = { heardUnit (s.port p) with
      outstanding := some (.waiting c.byte pl (decide ((s.port p).link = .lapsed))) } := by
  change (s.waitingState p c.byte pl).port p = _
  simp [waitingState]

theorem served_port_ne {q : Port} (h : q ≠ p) : (s.served p c pl).port q = s.port q := by
  change (s.waitingState p c.byte pl).port q = _
  simp [waitingState, modPort_port, h]

theorem served_config (q : Port) : ((s.served p c pl).port q).config = (s.port q).config := by
  by_cases h : q = p
  · subst h; rw [served_port_self]; rfl
  · rw [served_port_ne s p c pl h]

@[simp] theorem served_globals (q : Port) : (s.served p c pl).globals q = s.globals q := by
  rw [globals, served_config, globals]

@[simp] theorem served_rights (q : Port) (n : OutletId) : (s.served p c pl).rights q n = s.rights q n := by
  simp only [rights, served_config, served_globals, lockout, served_inputs, served_outlet]
  rfl

end

section

variable {s : State} {p : Port} {c : Code} {pl : List Byte} {a : Answer} {u : Port → PortUnit}

/-- The row of a table command with the table idle leaves what its answer leaves. -/
theorem exec_table (h : Receives s p) (hi : TableIdle s) (ht : c.isTable = true) (hl : c.lengthOk pl = true)
    (hk : s.checkTable c p pl = none) (hd : (s.served p c pl).runTable c p pl = a) :
    exec (commandRow c p pl) s = .next (respond a p c.byte (decide ((s.port p).link = .lapsed))) := by
  rw [exec_commandRow, frameOf_table s p c pl h hi ht hl (by simpa using hk), ← hd]
  rfl

/-- The ports after a table command: it answers from the units its operation leaves, the command in hand aside. -/
theorem portAnswered_served {x : Option Outstanding} (own : a.state.port p = { heardUnit (u p) with outstanding := x })
    (others : ∀ q, q ≠ p → a.state.port q = u q) (code : Byte) :
    PortAnswered s (respond a p code (decide ((s.port p).link = .lapsed))) p u code a.result a.payload := by
  refine ⟨?_, fun q hq => by simp [respond, hq, others q hq]⟩
  simp only [respond, answer_port, statusWord_answer, own, heardUnit]

/-- A table command that changes nothing beside the holder of the table answers so. -/
theorem answered_of_table {r : Result} {out : List Byte} (h : Receives s p) (hi : TableIdle s) (ht : c.isTable = true)
    (hl : c.lengthOk pl = true) (hk : s.checkTable c p pl = none)
    (hd : (s.served p c pl).runTable c p pl = { state := s.served p c pl, result := r, payload := out }) :
    ∃ t, exec (commandRow c p pl) s = .next t ∧ AllKeptHeld s t p ∧ PortAnswered s t p s.port c.byte r out :=
  ⟨_, exec_table h hi ht hl hk hd,
    ⟨⟨rfl, rfl, rfl⟩, ⟨rfl, rfl⟩, ⟨rfl, rfl⟩, ⟨rfl, rfl, rfl, rfl, rfl⟩, ⟨rfl, rfl, rfl⟩, rfl, rfl⟩,
    portAnswered_served (a := { state := s.served p c pl, result := r, payload := out }) (served_port_self s p c pl)
      (fun _ hq => served_port_ne s p c pl hq) c.byte⟩

/-- A table command passes its checks with the right it needs while no operation is in progress. -/
theorem checkTable_none (hr : s.checkRights c p pl = none) (idle : s.engine.op = .none) : s.checkTable c p pl = none := by
  simp [checkTable, hr, busy, idle]

theorem checkOutlet_none {n : OutletId} {right : OutletRights → Bool} (hn : outletArg pl = some n)
    (held : right (s.rights p n) = true) : s.checkOutlet p pl right = none := by
  simp [checkOutlet, hn, held]

theorem outletArg_byte (n : OutletId) (l : List Byte) : outletArg (BitVec.ofNat 8 n.val :: l) = some n :=
  index?_byte n (by decide)

/-- A command on an outlet is carried out on the outlet its payload names. -/
theorem onOutlet_eq (s : State) {pl : List Byte} {n : OutletId} (hn : outletArg pl = some n) (f : OutletId → Answer) :
    s.onOutlet pl f = f n := by
  rw [onOutlet, hn]

end

/-! ## Grants and entries of the burst list (R10, R107) -/

theorem lowered_eq_min (g limit : Nat) : lowered g limit = min g limit := by
  unfold lowered
  split <;> omega

theorem enforceEffective_lowers (s : State) (n : OutletId) :
    (s.enforceEffective n).outlet n = { s.outlet n with grant := lowered (s.outlet n).grant (s.effectiveDemand n) } ∧
    (s.enforceEffective n).channel n = loweredChannel (s.channel n) (s.outlet n).grant (s.effectiveDemand n) := by
  rw [enforceEffective_outlet, enforceEffective_channel, lowered_eq_min]
  exact ⟨rfl, rfl⟩

/-- The entry of an outlet leaves the record, the channel and the requester as R107 says. -/
theorem removeEntry_some {s : State} {n : OutletId} {e : BurstEntry} (notice : BurstEntry → Event)
    (h : s.entryOf n = some e) :
    (s.removeEntry n notice).outlet n = { s.outlet n with
      burstRef := false
      grant := if e.isCleared then lowered (s.outlet n).grant (s.outlet n).demand else (s.outlet n).grant } ∧
    (s.removeEntry n notice).channel n =
      (if e.isCleared then loweredChannel (s.channel n) (s.outlet n).grant (s.outlet n).demand else s.channel n) := by
  have gone : ∀ t : State, t.bursts = dropEntry s.bursts e → t.clearedAmount n = none := fun t ht => by
    have none := find_dropEntry s.bursts e
    rw [entryOf_outlet h] at none
    rw [clearedAmount, entryOf, ht, none]
  simp only [removeEntry, h]
  by_cases cleared : e.isCleared
  · simp only [cleared, if_true, postTo, modPort_outlet_kept, modPort_channel_kept]
    refine ⟨(enforceEffective_lowers _ n).1.trans ?_, (enforceEffective_lowers _ n).2.trans ?_⟩ <;>
      (rw [effectiveDemand, gone _ rfl, modOutlet_outlet_self]; rfl)
  · simp only [cleared, Bool.false_eq_true, if_false, postTo, modPort_outlet_kept, modPort_channel_kept]
    refine ⟨?_, ?_⟩
    · rw [modOutlet_outlet_self]
      rfl
    · rfl

/-- The removal of an outlet's entry posts its notice to the requester alone. -/
theorem removeEntry_port (s : State) (n : OutletId) (notice : BurstEntry → Event) (q : Port) :
    (s.removeEntry n notice).port q = entryEvent s n notice q := by
  unfold removeEntry entryEvent
  cases s.entryOf n with
  | none => rfl
  | some e =>
    simp only [postTo, modPort_port]
    have kept : ∀ k, (if e.isCleared = true then
        State.enforceEffective (({ s with bursts := dropEntry s.bursts e } : State).modOutlet n fun o => { o with burstRef := false }) n
      else ({ s with bursts := dropEntry s.bursts e } : State).modOutlet n fun o => { o with burstRef := false }).port k =
        s.port k := fun k => by
      split
      · rw [enforceEffective_frame]; rfl
      · rfl
    rw [kept, kept]
    by_cases own : q = e.requester
    · subst own; simp [withEvent]
    · simp [own, Ne.symm own]

end Sys2Proof.Machine.State
end

section
set_option Elab.async false
/-! PROOFS. The table commands on demands, conditions, bursts and the profile (O29, O33 to O39). -/

namespace Sys2Proof.Machine

open Sys2Proof.Statements

/-- Settles O39 (R19; log 6, log 16): the profile is written where its number is one. -/
theorem setProfileWritesTheProfile : Obligations.SetProfileWritesTheProfile := by
  intro s p v receives idle right
  have check : s.checkTable .setProfile p [v] = none :=
    State.checkTable_none (by simp [State.checkRights, right]) idle.2.2
  refine ⟨fun k hk => ?_, fun high => ?_⟩
  · have writes : (s.served p .setProfile [v]).runTable .setProfile p [v] =
        done { s.served p .setProfile [v] with profile := k } false := by
      simp only [State.runTable, State.doSetProfile, u8At_cons_zero, index?_of_eq hk]
    exact ⟨_, State.exec_table receives idle rfl rfl check writes, rfl, rfl, rfl, ⟨rfl, rfl⟩, ⟨rfl, rfl⟩,
      ⟨rfl, rfl, rfl, rfl, rfl⟩, ⟨rfl, rfl, rfl⟩, rfl, rfl,
      State.portAnswered_served (State.served_port_self s p _ _) (fun _ hq => State.served_port_ne s p _ _ hq) _⟩
  · exact State.answered_of_table (c := .setProfile) receives idle rfl rfl check (by
      simp only [State.runTable, State.doSetProfile, u8At_cons_zero, index?_eq_none (n := 4) high]
      rfl)

/-! ## Conditions (R13 to R18) -/

section

variable {s : State} {p : Port} {n : OutletId}

/-- The five commands that need PARK pass their checks with it. -/
theorem checkTable_park {c : Code} (hc : c ∈ [Code.parkOutlet, .unparkOutlet, .clearAbsent, .senseStart, .senseEnd])
    (h : Reaches s p n [BitVec.ofNat 8 n.val] OutletRights.park) :
    s.checkTable c p [BitVec.ofNat 8 n.val] = none := by
  obtain ⟨-, ⟨-, -, idle⟩, named, right⟩ := h
  refine State.checkTable_none ?_ idle
  have checked := State.checkOutlet_none (right := OutletRights.park) named right
  simp only [List.mem_cons, List.not_mem_nil, or_false] at hc
  rcases hc with rfl | rfl | rfl | rfl | rfl <;> exact checked

end

namespace State

/-- The state after an outlet has come back to ACTIVE. -/
def reactivated (s : State) (n : OutletId) : State :=
  (s.modOutlet n fun o => { o with condition := .active }).modChannel n fun c => c.setCondition .active

theorem returnActive_ok (s : State) (n : OutletId) (k : Condition) (used : (s.outlet n).struct.pool ≠ .unused)
    (condition : (s.outlet n).condition = k) : s.returnActive n k = done (s.reactivated n) false := by
  rw [returnActive, if_neg used, if_neg (not_not.mpr condition)]
  rfl

theorem returnActive_refused (s : State) (n : OutletId) (k : Condition) (used : (s.outlet n).struct.pool ≠ .unused)
    (condition : (s.outlet n).condition ≠ k) : s.returnActive n k = refuse s .badState := by
  rw [returnActive, if_neg used, if_pos condition]

/-- What a change of one outlet record and its drive channel leaves, as the response of its command shows it. -/
theorem record_answered (s : State) (p : Port) (n : OutletId) (c : Code) (pl : List Byte) (f : Outlet → Outlet)
    (g : Channel → Channel) (clamped : Bool) :
    let t := respond (done (((s.served p c pl).modOutlet n f).modChannel n g) clamped) p c.byte
      (decide ((s.port p).link = .lapsed))
    t.outlet n = f (s.outlet n) ∧ t.channel n = g (s.channel n) ∧ OthersKept s t n ∧ PlantKept s t ∧
    t.bursts = s.bursts ∧ t.branches = s.branches ∧ ArbiterHeld s t p ∧
    PortAnswered s t p s.port c.byte (if clamped then .clamped else .ok) [] := by
  refine ⟨?_, ?_, fun m hm => ⟨?_, ?_⟩, ?_, by simp [done], by simp [done], ?_, ?_⟩
  · rw [respond_outlet, done, modChannel_outlet_kept, modOutlet_outlet_self]
    rfl
  · rw [respond_channel, done, modChannel_channel_self]
    rfl
  · rw [respond_outlet, done, modChannel_outlet_kept, modOutlet_outlet_ne _ _ hm]
    rfl
  · rw [respond_channel, done, modChannel_channel_ne _ _ hm]
    rfl
  · simp [PlantKept, PoolsKept, MeasureKept, RestKept, EngineKept, done]
  · simp [ArbiterHeld, done, served_arbiter]
  · exact portAnswered_served (a := done (((s.served p c pl).modOutlet n f).modChannel n g) clamped)
      (served_port_self s p _ _) (fun _ hq => served_port_ne s p _ _ hq) _

end State

/-- Settles O34 (R14, R16): both commands bring the outlet back from their condition and refuse any other. -/
theorem unparkAndClearAbsentReturnToActive : Obligations.UnparkAndClearAbsentReturnToActive := by
  intro s p n reaches used
  have unpark := checkTable_park (c := .unparkOutlet) (by simp) reaches
  have clear := checkTable_park (c := .clearAbsent) (by simp) reaches
  obtain ⟨receives, idle, named, right⟩ := reaches
  refine ⟨fun parked => ?_, fun other => ?_, fun absent => ?_, fun other => ?_⟩
  · exact ⟨_, State.exec_table receives idle rfl rfl unpark
      ((State.onOutlet_eq _ named _).trans (State.returnActive_ok _ n _ used parked)), State.record_answered ..⟩
  · exact State.answered_of_table (c := .unparkOutlet) receives idle rfl rfl unpark
      ((State.onOutlet_eq _ named _).trans (State.returnActive_refused _ n _ used other))
  · exact ⟨_, State.exec_table receives idle rfl rfl clear
      ((State.onOutlet_eq _ named _).trans (State.returnActive_ok _ n _ used absent)), State.record_answered ..⟩
  · exact State.answered_of_table (c := .clearAbsent) receives idle rfl rfl clear
      ((State.onOutlet_eq _ named _).trans (State.returnActive_refused _ n _ used other))

/-- Settles O35 (R17, R129; log 10): the outlet is SENSING and its channel in TEST. -/
theorem senseStartEntersTest : Obligations.SenseStartEntersTest := by
  intro s p n k reaches used away condition
  have check := checkTable_park (c := .senseStart) (by simp) reaches
  obtain ⟨receives, idle, named, right⟩ := reaches
  have prior : State.priorFor (s.outlet n).condition = some k := by
    rw [condition]
    cases k <;> rfl
  have starts : (s.served p .senseStart [BitVec.ofNat 8 n.val]).runTable .senseStart p [BitVec.ofNat 8 n.val] =
      done (((s.served p .senseStart [BitVec.ofNat 8 n.val]).modOutlet n fun o => { o with condition := .sensing k }).modChannel n
        fun c => Channel.setCondition
          { c with phase := .test, applied := 0, output := .on, finding := some false, holdLeft := some 10000, testTick := 0 }
          (.sensing k)) false := by
    refine (State.onOutlet_eq _ named _).trans ?_
    simp only [State.doSenseStart, State.served_engine, State.served_outlet, if_neg away, if_neg used, prior]
  exact ⟨_, State.exec_table receives idle rfl rfl check starts, State.record_answered ..⟩

end Sys2Proof.Machine
end

section
set_option Elab.async false
/-! PROOFS. The table commands on demands, senses, parking and bursts (O29, O33, O36 to O38). -/

namespace Sys2Proof.Machine

open Sys2Proof.Statements

namespace State

/-! ## What the shared operations leave, read off by a field -/

/-- Whatever does not look at drive channels and branches, a change of these alone keeps. -/
theorem DriveOnly.get {s t : State} {α : Sort*} (h : DriveOnly s t) (g : State → α)
    (hg : ∀ a b, g { s with channels := a, branches := b } = g s := by intros; rfl) : g t = g s := by
  unfold DriveOnly at h
  rw [h]
  exact hg _ _

/-- Whatever does not look at outlets, channels, the burst list and the ports, the removal of an entry keeps. -/
theorem removeEntry_get {α : Sort*} (s : State) (n : OutletId) (notice : BurstEntry → Event) (g : State → α)
    (hg : ∀ a b c d, g { s with outlets := a, channels := b, bursts := c, ports := d } = g s := by intros; rfl) :
    g (s.removeEntry n notice) = g s := by
  rw [removeEntry_frame]
  exact hg _ _ _ _

/-- Whatever does not look at outlets and channels, the lowering of a grant keeps. -/
theorem enforceEffective_get {α : Sort*} (s : State) (n : OutletId) (g : State → α)
    (hg : ∀ a b, g { s with outlets := a, channels := b } = g s := by intros; rfl) : g (s.enforceEffective n) = g s := by
  rw [enforceEffective_frame]
  exact hg _ _

/-- The rights of a port on an outlet look at its configuration, the outlet's pool and LOCKOUT. -/
theorem rights_congr {s t : State} {p : Port} {n : OutletId} (config : (t.port p).config = (s.port p).config)
    (inputs : t.inputs = s.inputs) (pool : (t.outlet n).struct.pool = (s.outlet n).struct.pool) :
    t.rights p n = s.rights p n := by
  simp only [rights, globals, lockout, config, inputs, pool]
  rfl

theorem postOutlet_port (s : State) (n : OutletId) (e : Event) (q : Port) : (s.postOutlet n e).port q = readEvent s n e q := by
  rw [postOutlet, mapPorts_port]
  rfl

/-- Two states with the same units and rights post an outlet event alike. -/
theorem readEvent_congr {s t : State} {n : OutletId} (e : Event) {q : Port} (ports : t.port q = s.port q)
    (rights : t.rights q n = s.rights q n) : readEvent t n e q = readEvent s n e q := by
  rw [readEvent, readEvent, ports, rights]

/-- An outlet event posted on the state a command is carried out on: the sender's command in hand aside, it is that of before. -/
theorem readEvent_served (s : State) (p : Port) (c : Code) (pl : List Byte) (n : OutletId) (e : Event) :
    readEvent (s.served p c pl) n e p = { heardUnit (readEvent s n e p) with
      outstanding := some (.waiting c.byte pl (decide ((s.port p).link = .lapsed))) } ∧
    ∀ q, q ≠ p → readEvent (s.served p c pl) n e q = readEvent s n e q := by
  refine ⟨?_, fun q hq => readEvent_congr e (served_port_ne s p c pl hq) (served_rights s p c pl q n)⟩
  rw [readEvent, readEvent, served_rights, served_port_self]
  split <;> rfl

/-- The notice of an entry posted on the state a command is carried out on. -/
theorem entryEvent_served (s : State) (p : Port) (c : Code) (pl : List Byte) (n : OutletId) (notice : BurstEntry → Event) :
    entryEvent (s.served p c pl) n notice p = { heardUnit (entryEvent s n notice p) with
      outstanding := some (.waiting c.byte pl (decide ((s.port p).link = .lapsed))) } ∧
    ∀ q, q ≠ p → entryEvent (s.served p c pl) n notice q = entryEvent s n notice q := by
  refine ⟨?_, fun q hq => ?_⟩
  · rw [entryEvent, entryEvent, served_entryOf, served_port_self]
    cases s.entryOf n with
    | none => rfl
    | some e =>
      simp only
      split <;> rfl
  · rw [entryEvent, entryEvent, served_entryOf, served_port_ne s p c pl hq]

/-! ## Senses (R18, R130) -/

/-- A sense's end in the record, the channel's condition and the flags of the readers. -/
theorem endSense_spec (s : State) (n : OutletId) (r : Continuity) :
    (s.endSense n r).outlet n = { s.outlet n with condition := priorOf (s.outlet n).condition, continuity := r } ∧
    (s.endSense n r).channel n = (s.channel n).setCondition (priorOf (s.outlet n).condition) ∧
    (∀ m, m ≠ n → (s.endSense n r).outlet m = s.outlet m ∧ (s.endSense n r).channel m = s.channel m) ∧
    ∀ q, (s.endSense n r).port q = readEvent s n (.senseDone n) q := by
  unfold endSense
  refine ⟨by simp, by simp, fun m hm => ⟨by simp [modOutlet_outlet_ne, hm], by simp [modChannel_channel_ne, hm]⟩, fun q => ?_⟩
  refine (postOutlet_port _ n _ q).trans (readEvent_congr _ rfl (rights_congr rfl rfl ?_))
  rw [modChannel_outlet_kept, modOutlet_outlet_self]

/-- Whatever does not look at outlets, channels and ports, the end of a sense keeps. -/
theorem endSense_get {α : Sort*} (s : State) (n : OutletId) (r : Continuity) (g : State → α)
    (hg : ∀ a b c, g { s with outlets := a, channels := b, ports := c } = g s := by intros; rfl) :
    g (s.endSense n r) = g s :=
  hg _ _ _

/-- The pulses of a channel in TEST stop (R130). -/
def stopPulses (s : State) (n : OutletId) : State := if (s.channel n).phase = .test then s.endTest n else s

theorem stopPulses_driveOnly (s : State) (n : OutletId) : DriveOnly s (s.stopPulses n) := by
  unfold stopPulses
  split
  · exact modChannel_driveOnly s n _
  · exact DriveOnly.refl s

theorem stopPulses_channel_ne (s : State) {n m : OutletId} (h : m ≠ n) : (s.stopPulses n).channel m = s.channel m := by
  unfold stopPulses
  split
  · exact modChannel_channel_ne s _ h
  · rfl

theorem stopPulses_branches (s : State) (n : OutletId) : (s.stopPulses n).branches = s.branches := by
  unfold stopPulses
  split <;> rfl

theorem stopPulses_channel (s : State) (n : OutletId) :
    ((s.stopPulses n).channel n).finding = (s.channel n).finding ∧
    ((s.channel n).phase = .test → ((s.stopPulses n).channel n).phase = (if s.inPattern then .safePattern else .off) ∧
      ((s.stopPulses n).channel n).output = .off ∧ ((s.stopPulses n).channel n).holdLeft = none) := by
  unfold stopPulses
  by_cases test : (s.channel n).phase = .test
  · rw [if_pos test, endTest, modChannel_channel_self]
    exact ⟨rfl, fun _ => ⟨rfl, rfl, rfl⟩⟩
  · rw [if_neg test]
    exact ⟨rfl, fun h => absurd h test⟩

/-- SENSE END on a sensing outlet. -/
theorem doSenseEnd_ok (s : State) (n : OutletId) (used : (s.outlet n).struct.pool ≠ .unused)
    (sensing : isSensing (s.outlet n).condition = true) :
    s.doSenseEnd n = done ((s.stopPulses n).endSense n
      (if (s.channel n).finding = some true then .present else .absent)) false := by
  rw [doSenseEnd, if_neg used, if_neg (not_not.mpr sensing)]
  rfl

end State

/-- Settles O36 (R18, R130; log 6): the pulses stop first, then the sense ends with what the channel found. -/
theorem senseEndWritesTheFinding : Obligations.SenseEndWritesTheFinding := by
  intro s p n k reaches used sensing
  have check := checkTable_park (c := .senseEnd) (by simp) reaches
  obtain ⟨receives, idle, named, right⟩ := reaches
  intro prior
  have back : State.priorOf (s.outlet n).condition = prior := by
    rw [sensing]
    cases k <;> rfl
  have ends := (State.onOutlet_eq (s.served p .senseEnd [BitVec.ofNat 8 n.val]) named _).trans
    (State.doSenseEnd_ok (s.served p .senseEnd [BitVec.ofNat 8 n.val]) n used (by rw [State.served_outlet, sensing]; rfl))
  have stopped := State.stopPulses_driveOnly (s.served p .senseEnd [BitVec.ofNat 8 n.val]) n
  obtain ⟨found, stops⟩ := State.stopPulses_channel (s.served p .senseEnd [BitVec.ofNat 8 n.val]) n
  have branches := State.stopPulses_branches (s.served p .senseEnd [BitVec.ofNat 8 n.val]) n
  have keeps := fun m hm => State.stopPulses_channel_ne (s.served p .senseEnd [BitVec.ofNat 8 n.val]) (n := n) (m := m) hm
  refine ⟨_, State.exec_table receives idle rfl rfl check ends, ?_⟩
  rw [State.served_channel] at found stops ends ⊢
  generalize (s.served p .senseEnd [BitVec.ofNat 8 n.val]).stopPulses n = quiet at *
  generalize (if (s.channel n).finding = some true then Continuity.present else .absent) = r at *
  have outlets : quiet.outlet = s.outlet := stopped.get State.outlet
  obtain ⟨outlet, channel, others, ports⟩ := State.endSense_spec quiet n r
  rw [outlets, back] at outlet channel
  have units : ∀ q, (quiet.endSense n r).port q = readEvent (s.served p .senseEnd [BitVec.ofNat 8 n.val]) n (.senseDone n) q :=
    fun q => (ports q).trans (stopped.get fun t => readEvent t n (.senseDone n) q)
  obtain ⟨own, other⟩ := State.readEvent_served s p .senseEnd [BitVec.ofNat 8 n.val] n (.senseDone n)
  refine ⟨outlet, ?_, ?_, fun test => ?_, fun m hm => ⟨?_, ?_⟩, ?_, ?_, ?_, ?_,
    State.portAnswered_served ((units p).trans own) (fun q hq => (units q).trans (other q hq)) _⟩
  · rw [State.respond_channel, done, channel]
    rfl
  · rw [State.respond_channel, done, channel]
    exact found
  · rw [State.respond_channel, done, channel]
    exact stops test
  · exact (others m hm).1.trans (congrFun outlets m)
  · exact (others m hm).2.trans (keeps m hm)
  · exact (State.endSense_get quiet n r (PlantKept s)).mpr ((stopped.get (PlantKept s)).mpr ⟨⟨rfl, rfl⟩, ⟨rfl, rfl, rfl, rfl, rfl⟩, ⟨rfl, rfl, rfl⟩, rfl, rfl⟩)
  · exact (State.endSense_get quiet n r State.bursts).trans (stopped.get State.bursts)
  · exact branches
  · exact (State.endSense_get quiet n r State.arbiter).trans (stopped.get State.arbiter)

namespace State

/-- Two states that differ in outlets, drive channels, branches, the burst list and the ports alone. -/
def TableWork (s t : State) : Prop :=
  t = { s with outlets := t.outlets, channels := t.channels, branches := t.branches, bursts := t.bursts, ports := t.ports }

theorem TableWork.trans {s t u : State} (h : TableWork s t) (k : TableWork t u) : TableWork s u := by
  unfold TableWork at *
  rw [k, h]

theorem DriveOnly.tableWork {s t : State} (h : DriveOnly s t) : TableWork s t := by
  unfold DriveOnly at h
  rw [h]
  rfl

theorem modOutlet_tableWork (s : State) (n : OutletId) (f : Outlet → Outlet) : TableWork s (s.modOutlet n f) := rfl

theorem modChannel_tableWork (s : State) (n : OutletId) (f : Channel → Channel) : TableWork s (s.modChannel n f) := rfl

theorem enforceEffective_tableWork (s : State) (n : OutletId) : TableWork s (s.enforceEffective n) := by
  rw [enforceEffective_frame]
  rfl

theorem removeEntry_tableWork (s : State) (n : OutletId) (notice : BurstEntry → Event) :
    TableWork s (s.removeEntry n notice) := by
  rw [removeEntry_frame]
  rfl

/-- A table command whose operation works on the table alone leaves the plant, and the port holds the table. -/
theorem kept_of_tableWork {s : State} {p : Port} {c : Code} {pl : List Byte} {a : Answer}
    (h : TableWork (s.served p c pl) a.state) (revived : Bool) :
    PlantKept s (respond a p c.byte revived) ∧ ArbiterHeld s (respond a p c.byte revived) p := by
  unfold TableWork at h
  simp only [PlantKept, PoolsKept, MeasureKept, RestKept, EngineKept, ArbiterHeld, respond_steam, respond_water,
    respond_stores, respond_reference, respond_ratio, respond_pulse, respond_scan, respond_inputs, respond_store,
    respond_pending, respond_engine, respond_profile, respond_arbiter]
  rw [h]
  exact ⟨⟨⟨rfl, rfl⟩, ⟨rfl, rfl, rfl, rfl, rfl⟩, ⟨rfl, rfl, rfl⟩, rfl, rfl⟩, rfl⟩

/-! ## SET DEMAND (R8, R10) -/

/-- The demand of an outlet and its owner are written and the grant lowered. -/
def demanded (s : State) (p : Port) (n : OutletId) (v : Nat) : State :=
  (s.modOutlet n fun o => { o with demand := min v o.limits.ceiling, owner := .port p }).enforceEffective n

theorem demanded_spec (s : State) (p : Port) (n : OutletId) (v : Nat) :
    let d := min v (s.outlet n).limits.ceiling
    let eff := (s.clearedAmount n).getD d
    (s.demanded p n v).outlet n =
      { s.outlet n with demand := d, owner := .port p, grant := lowered (s.outlet n).grant eff } ∧
    (s.demanded p n v).channel n = loweredChannel (s.channel n) (s.outlet n).grant eff ∧
    (∀ m, m ≠ n → (s.demanded p n v).outlet m = s.outlet m ∧ (s.demanded p n v).channel m = s.channel m) ∧
    (∀ q, (s.demanded p n v).port q = s.port q) ∧ (s.demanded p n v).bursts = s.bursts ∧
    (s.demanded p n v).branches = s.branches ∧ TableWork s (s.demanded p n v) := by
  intro d eff
  obtain ⟨outlet, channel⟩ := enforceEffective_lowers
    (s.modOutlet n fun o => { o with demand := min v o.limits.ceiling, owner := .port p }) n
  have effective : (s.modOutlet n fun o => { o with demand := min v o.limits.ceiling, owner := .port p }).effectiveDemand n =
      eff := by
    rw [effectiveDemand, modOutlet_outlet_self]
    rfl
  rw [effective, modOutlet_outlet_self] at outlet channel
  refine ⟨outlet, channel, fun m hm => ⟨?_, ?_⟩, fun q => ?_, ?_, ?_, ?_⟩
  · exact (enforceEffective_outlet_ne _ n m hm).trans (modOutlet_outlet_ne s _ hm)
  · exact enforceEffective_channel_ne _ n m hm
  · exact enforceEffective_get _ n fun t => t.port q
  · exact enforceEffective_get _ n State.bursts
  · exact enforceEffective_get _ n State.branches
  · exact (modOutlet_tableWork s n _).trans (enforceEffective_tableWork _ n)

end State

/-- Settles O29 (R8, R10; log 6): the demand is written and the grant lowered to the effective demand. -/
theorem setDemandWritesTheDemand : Obligations.SetDemandWritesTheDemand := by
  intro s p n h l reaches used plain
  obtain ⟨receives, idle, named, right⟩ := reaches
  intro v d eff
  have check : s.checkTable .setDemand p [BitVec.ofNat 8 n.val, h, l] = none :=
    State.checkTable_none (State.checkOutlet_none (right := OutletRights.demand) named right) idle.2.2
  have writes : (s.served p .setDemand [BitVec.ofNat 8 n.val, h, l]).runTable .setDemand p [BitVec.ofNat 8 n.val, h, l] =
      { state := (s.served p .setDemand [BitVec.ofNat 8 n.val, h, l]).demanded p n v
        result := if (s.outlet n).limits.ceiling < v then .clamped else .ok
        payload := [] } := by
    refine (State.onOutlet_eq _ named _).trans ?_
    rw [State.doSetDemand, State.served_outlet, if_neg used, if_neg (not_not.mpr plain),
      State.done_eq _ decide_eq_true_iff]
    rfl
  obtain ⟨outlet, channel, others, ports, bursts, branches, work⟩ :=
    (s.served p .setDemand [BitVec.ofNat 8 n.val, h, l]).demanded_spec p n v
  have row := State.exec_table receives idle rfl rfl check writes
  generalize (s.served p .setDemand [BitVec.ofNat 8 n.val, h, l]).demanded p n v = u at *
  obtain ⟨plant, arbiter⟩ := State.kept_of_tableWork (a := ⟨u, _, _⟩) work (decide ((s.port p).link = .lapsed))
  exact ⟨_, row, outlet, channel, others, plant, bursts, branches, arbiter,
    State.portAnswered_served ((ports p).trans (State.served_port_self s p _ _))
      (fun q hq => (ports q).trans (State.served_port_ne s p _ _ hq)) _⟩

/-! ## Bursts (R102, R103, R107, R110) -/

/-- REQUEST BURST and END BURST pass their checks with BURST. -/
theorem checkTable_burst {s : State} {p : Port} {n : OutletId} {pl : List Byte} {c : Code}
    (hc : c = .requestBurst ∨ c = .endBurst) (h : Reaches s p n pl OutletRights.burst) : s.checkTable c p pl = none := by
  obtain ⟨-, ⟨-, -, idle⟩, named, right⟩ := h
  have checked := State.checkOutlet_none (right := OutletRights.burst) named right
  refine State.checkTable_none ?_ idle
  rcases hc with rfl | rfl <;> exact checked

/-- Settles O38 (R107, R110; log 6): the requester's entry is removed as every entry is, another port is denied. -/
theorem endBurstRemovesTheEntry : Obligations.EndBurstRemovesTheEntry := by
  intro s p n e kept reaches steam entry
  have check := checkTable_burst (c := .endBurst) (.inr rfl) reaches
  obtain ⟨receives, idle, named, right⟩ := reaches
  refine ⟨fun own => ?_, fun other => ?_⟩
  · have ends : (s.served p .endBurst [BitVec.ofNat 8 n.val]).runTable .endBurst p [BitVec.ofNat 8 n.val] =
        done ((s.served p .endBurst [BitVec.ofNat 8 n.val]).removeEntry n State.endNotice) false := by
      refine (State.onOutlet_eq _ named _).trans ?_
      simp only [State.doEndBurst, State.served_outlet, State.served_entryOf, entry, steam, own, ne_eq, not_true, if_false]
    obtain ⟨outlet, channel⟩ := State.removeEntry_some (s := s.served p .endBurst [BitVec.ofNat 8 n.val]) State.endNotice entry
    have bursts := State.removeEntry_bursts (s.served p .endBurst [BitVec.ofNat 8 n.val]) n State.endNotice e entry
    have others := fun m hm => State.removeEntry_others (s.served p .endBurst [BitVec.ofNat 8 n.val]) n m State.endNotice hm
    have ports := State.removeEntry_port (s.served p .endBurst [BitVec.ofNat 8 n.val]) n State.endNotice
    have branches := State.removeEntry_get (s.served p .endBurst [BitVec.ofNat 8 n.val]) n State.endNotice State.branches
    have work := State.removeEntry_tableWork (s.served p .endBurst [BitVec.ofNat 8 n.val]) n State.endNotice
    obtain ⟨sender, rest⟩ := State.entryEvent_served s p .endBurst [BitVec.ofNat 8 n.val] n State.endNotice
    have row := State.exec_table receives idle rfl rfl check ends
    generalize (s.served p .endBurst [BitVec.ofNat 8 n.val]).removeEntry n State.endNotice = u at *
    obtain ⟨plant, arbiter⟩ := State.kept_of_tableWork (a := done u false) work (decide ((s.port p).link = .lapsed))
    exact ⟨_, row, bursts.trans (withoutEntry_eq_dropEntry _ _).symm, outlet, channel, others, plant, branches, arbiter,
      State.portAnswered_served ((ports p).trans sender) (fun q hq => (ports q).trans (rest q hq)) _⟩
  · exact State.answered_of_table (c := .endBurst) receives idle rfl rfl check ((State.onOutlet_eq _ named _).trans (by
      simp only [State.doEndBurst, State.served_outlet, State.served_entryOf, entry, steam, other, ne_eq, not_true,
        not_false_iff, if_false, if_true]
      rfl))

/-- REQUEST BURST stores what it carries exactly where nothing is out of its range (R103). -/
theorem requestClamped_iff (amount a d w : Nat) :
    (decide (amount ≠ a) || decide (clampNat 10 3600 d ≠ d) || decide (clampNat 10 600 w ≠ w)) = true ↔
      ¬ (amount = a ∧ 10 ≤ d ∧ d ≤ 3600 ∧ 10 ≤ w ∧ w ≤ 600) := by
  have duration : clampNat 10 3600 d ≠ d ↔ ¬ (10 ≤ d ∧ d ≤ 3600) := by unfold clampNat; omega
  have wait : clampNat 10 600 w ≠ w ↔ ¬ (10 ≤ w ∧ w ≤ 600) := by unfold clampNat; omega
  simp only [Bool.or_eq_true, decide_eq_true_iff, duration, wait]
  tauto

/-- Settles O37 (R102, R103; log 6): the checks with the table come in their order, and the entry is appended QUEUED. -/
theorem requestBurstAppendsAnEntry : Obligations.RequestBurstAppendsAnEntry := by
  intro s p n a₁ a₂ d₁ d₂ w₁ w₂ reaches away steam active
  have check := checkTable_burst (c := .requestBurst) (.inl rfl) reaches
  obtain ⟨receives, idle, named, right⟩ := reaches
  intro a d w c amount i
  have carried : ∀ t : State, t.onOutlet [BitVec.ofNat 8 n.val, a₁, a₂, d₁, d₂, w₁, w₂] (fun n => t.doRequestBurst p n a d w) =
      t.doRequestBurst p n a d w := fun t => State.onOutlet_eq t named _
  have amount_eq : State.burstAmount a c = amount := rfl
  refine ⟨fun fresh room => ?_, fun taken => ?_, fun fresh full => ?_⟩
  · have appends : (s.served p .requestBurst [BitVec.ofNat 8 n.val, a₁, a₂, d₁, d₂, w₁, w₂]).runTable .requestBurst p
          [BitVec.ofNat 8 n.val, a₁, a₂, d₁, d₂, w₁, w₂] =
        { state := (s.served p .requestBurst [BitVec.ofNat 8 n.val, a₁, a₂, d₁, d₂, w₁, w₂]).appendEntry n p amount
            (max 10 (min d 3600)) (max 10 (min w 600))
          result := if amount = a ∧ 10 ≤ d ∧ d ≤ 3600 ∧ 10 ≤ w ∧ w ≤ 600 then .ok else .clamped
          payload := [] } := by
      refine (carried _).trans ?_
      simp only [State.doRequestBurst, State.served_engine, State.served_outlet, State.served_entryOf, State.served_bursts,
        if_neg away, steam, active, fresh, Option.isSome_none, ne_eq, not_true, if_false, Bool.false_eq_true]
      refine (if_neg (Nat.not_le.mpr room)).trans ?_
      rw [← ite_not, ← State.done_eq _ (clamped := decide (amount ≠ a) || decide (clampNat 10 3600 d ≠ d) ||
        decide (clampNat 10 600 w ≠ w)) (requestClamped_iff amount a d w)]
      rfl
    have row := State.exec_table receives idle rfl rfl check appends
    refine ⟨_, row, rfl, ?_, rfl, fun m hm => ⟨?_, rfl⟩, ?_, rfl, rfl,
      State.portAnswered_served (State.served_port_self s p _ _) (fun q hq => State.served_port_ne s p _ _ hq) _⟩
    · rw [State.respond_outlet, State.appendEntry, State.modOutlet_outlet_self]
      rfl
    · rw [State.respond_outlet, State.appendEntry, State.modOutlet_outlet_ne _ _ hm]
      rfl
    · exact ⟨⟨rfl, rfl⟩, ⟨rfl, rfl, rfl, rfl, rfl⟩, ⟨rfl, rfl, rfl⟩, rfl, rfl⟩
  · exact State.answered_of_table (c := .requestBurst) receives idle rfl rfl check ((carried _).trans (by
      simp only [State.doRequestBurst, State.served_engine, State.served_outlet, State.served_entryOf, if_neg away, steam,
        active, Option.isSome_iff_ne_none.mpr taken, ne_eq, not_true, if_false, if_true]
      rfl))
  · exact State.answered_of_table (c := .requestBurst) receives idle rfl rfl check ((carried _).trans (by
      simp only [State.doRequestBurst, State.served_engine, State.served_outlet, State.served_entryOf, State.served_bursts,
        if_neg away, steam, active, fresh, Option.isSome_none, ne_eq, not_true, if_false, Bool.false_eq_true]
      exact if_pos full))

/-! ## PARK OUTLET (R13, R119) -/

namespace State

/-- The settle timers after a start or a close on a branch, if there is one (R124). -/
theorem restartSettle_branch (s : State) (b : Option BranchId) (k : BranchId) :
    (s.restartSettle b).branch k = if b = some k then restarted (s.branch k) else s.branch k := by
  cases b with
  | none => rfl
  | some b =>
    simp only [restartSettle, modBranch_branch, Option.some.injEq]
    by_cases own : k = b
    · subst own; rw [if_pos rfl, if_pos rfl]; rfl
    · rw [if_neg own, if_neg (Ne.symm own)]

theorem restartSettle_channels (s : State) (b : Option BranchId) : (s.restartSettle b).channels = s.channels := by
  cases b <;> rfl

theorem restartSettle_channel (s : State) (b : Option BranchId) (n : OutletId) :
    (s.restartSettle b).channel n = s.channel n := by
  cases b <;> rfl

/-- An output turned off at once: its channel, and the queues and the settle timer of its branch (R119, R124, R125). -/
theorem turnOffNow_spec (s : State) (n : OutletId) :
    (s.turnOffNow n).channel n = turnedOff (s.channel n) s.inPattern ∧
    (∀ m, m ≠ n → (s.turnOffNow n).channel m = s.channel m) ∧
    ∀ b, (s.turnOffNow n).branch b = branchAfterOff s n b := by
  have channel : ∀ m, (s.turnOffNow n).channel m = ((s.modChannel n fun c => turnedOff c s.inPattern).channel m) := fun m => by
    unfold turnOffNow
    dsimp only
    split
    · rfl
    · exact restartSettle_channel _ _ m
  refine ⟨?_, fun m hm => ?_, fun b => ?_⟩
  · rw [channel, modChannel_channel_self]
  · rw [channel, modChannel_channel_ne _ _ hm]
  · unfold turnOffNow branchAfterOff
    by_cases off : (s.channel n).applied = 0
    · simp [off, leaveQueues]
    · simp [off, restartSettle_branch, leaveQueues]

/-- An ACTIVE outlet is parked, its entry revoked and its output turned off. -/
def parked (s : State) (n : OutletId) : State :=
  ((((s.modOutlet n fun o => { o with condition := .parked, grant := 0, status := .idle }).modChannel n
    fun c => Channel.setCondition { c with grant := 0 } .parked).removeEntry n (revoked .park)).turnOffNow n)

/-- An outlet whose record and channel have the grant 0 keeps them so when its entry leaves. -/
theorem removeEntry_ungranted (s : State) (n : OutletId) (notice : BurstEntry → Event) (h : (s.outlet n).grant = 0) :
    (s.removeEntry n notice).outlet n = { s.outlet n with burstRef := (s.outlet n).burstRef && (s.entryOf n).isNone } ∧
    (s.removeEntry n notice).channel n = s.channel n := by
  cases entry : s.entryOf n with
  | none =>
    rw [removeEntry_none s n notice entry]
    simp
  | some e =>
    obtain ⟨outlet, channel⟩ := removeEntry_some notice entry
    rw [outlet, channel, h]
    simp [lowered, loweredChannel, h]

theorem parked_spec (s : State) (n : OutletId) :
    (s.parked n).outlet n = { s.outlet n with
      condition := .parked, grant := 0, status := .idle, burstRef := (s.outlet n).burstRef && (s.entryOf n).isNone } ∧
    (s.parked n).channel n = turnedOff { s.channel n with condition := .parked, grant := 0 } s.inPattern ∧
    (∀ b, (s.parked n).branch b = branchAfterOff s n b) ∧
    (s.parked n).bursts = withoutOutlet s.bursts n ∧
    (∀ m, m ≠ n → (s.parked n).outlet m = s.outlet m ∧ (s.parked n).channel m = s.channel m) ∧
    (∀ q, (s.parked n).port q = entryEvent s n (revoked .park) q) ∧ TableWork s (s.parked n) := by
  let s2 := (s.modOutlet n fun o => { o with condition := .parked, grant := 0, status := .idle }).modChannel n
    fun c => Channel.setCondition { c with grant := 0 } .parked
  have record : s2.outlet n = { s.outlet n with condition := .parked, grant := 0, status := .idle } := by
    simp only [s2, modChannel_outlet_kept, modOutlet_outlet_self]
  have copy : s2.channel n = Channel.setCondition { s.channel n with grant := 0 } .parked := modChannel_channel_self _ n _
  obtain ⟨outlet, channel⟩ := removeEntry_ungranted s2 n (revoked .park) (by rw [record])
  obtain ⟨turned, rest, branches⟩ := turnOffNow_spec (s2.removeEntry n (revoked .park)) n
  have off := turnOffNow_driveOnly (s2.removeEntry n (revoked .park)) n
  refine ⟨?_, ?_, fun b => ?_, ?_, fun m hm => ⟨?_, ?_⟩, fun q => ?_, ?_⟩
  · refine (off.get fun t => t.outlet n).trans (outlet.trans ?_)
    rw [record]
    rfl
  · refine turned.trans ?_
    rw [channel, copy]
    exact congrArg _ (removeEntry_get s2 n _ State.inPattern)
  · refine (branches b).trans ?_
    have own := removeEntry_get s2 n (revoked .park) fun t => t.branch b
    simp only [branchAfterOff, own, channel, copy]
    rfl
  · exact (off.get State.bursts).trans (removeEntry_withoutOutlet s2 n _)
  · refine (off.get fun t => t.outlet m).trans ((removeEntry_others s2 n m _ hm).1.trans ?_)
    simp only [s2, modChannel_outlet_kept, modOutlet_outlet_ne s _ hm]
  · exact (rest m hm).trans ((removeEntry_others s2 n m _ hm).2.trans (modChannel_channel_ne _ _ hm))
  · exact (off.get fun t => t.port q).trans (removeEntry_port s2 n _ q)
  · exact (((modOutlet_tableWork s n _).trans (modChannel_tableWork _ n _)).trans (removeEntry_tableWork s2 n _)).trans
      off.tableWork

end State

/-- Settles O33 (R13, R107, R119; log 6, log 27): the record and the channel first, then the entry, then the output. -/
theorem parkOutletParks : Obligations.ParkOutletParks := by
  intro s p n reaches used active
  have check := checkTable_park (c := .parkOutlet) (by simp) reaches
  obtain ⟨receives, idle, named, right⟩ := reaches
  have parks : (s.served p .parkOutlet [BitVec.ofNat 8 n.val]).runTable .parkOutlet p [BitVec.ofNat 8 n.val] =
      done ((s.served p .parkOutlet [BitVec.ofNat 8 n.val]).parked n) false := by
    refine (State.onOutlet_eq _ named _).trans ?_
    simp only [State.doPark, State.served_outlet, if_neg used, active, ne_eq, not_true, if_false]
    rfl
  have row := State.exec_table receives idle rfl rfl check parks
  obtain ⟨outlet, channel, branches, bursts, others, ports, work⟩ :=
    (s.served p .parkOutlet [BitVec.ofNat 8 n.val]).parked_spec n
  obtain ⟨sender, rest⟩ := State.entryEvent_served s p .parkOutlet [BitVec.ofNat 8 n.val] n (State.revoked .park)
  generalize (s.served p .parkOutlet [BitVec.ofNat 8 n.val]).parked n = u at *
  obtain ⟨plant, arbiter⟩ := State.kept_of_tableWork (a := done u false) work (decide ((s.port p).link = .lapsed))
  exact ⟨_, row, outlet, channel, branches, bursts, others, plant, arbiter,
    State.portAnswered_served ((ports p).trans sender) (fun q hq => (ports q).trans (rest q hq)) _⟩

end Sys2Proof.Machine
end

section
set_option Elab.async false
/-! PROOFS. The refusals of the table commands (O30). -/

namespace Sys2Proof.Machine

open Sys2Proof.Statements

section

variable {s : State} {p : Port} {pl : List Byte}

/-- A table command that needs a right on an outlet: its length and its checks before the table. -/
structure OutletCommand (c : Code) (length : Nat) (right : OutletRights → Bool) : Prop where
  isTable : c.isTable = true
  lengthOk : ∀ pl, c.lengthOk pl = (pl.length == length)
  checks : ∀ (s : State) (p : Port) (pl : List Byte), (c = .readOutlet → u8At pl 1 ≤ 2) →
    s.checkRights c p pl = s.checkOutlet p pl right

theorem outletCommand_setDemand : OutletCommand .setDemand 3 OutletRights.demand := ⟨rfl, fun _ => rfl, fun _ _ _ _ => rfl⟩

theorem outletCommand_setLimits : OutletCommand .setLimits 14 OutletRights.limits := ⟨rfl, fun _ => rfl, fun _ _ _ _ => rfl⟩

theorem outletCommand_readOutlet : OutletCommand .readOutlet 2 OutletRights.read :=
  ⟨rfl, fun _ => rfl, fun s p pl part => by rw [State.checkRights, if_neg (Nat.not_lt.mpr (part rfl))]⟩

theorem outletCommand_parkOutlet : OutletCommand .parkOutlet 1 OutletRights.park := ⟨rfl, fun _ => rfl, fun _ _ _ _ => rfl⟩

theorem outletCommand_unparkOutlet : OutletCommand .unparkOutlet 1 OutletRights.park :=
  ⟨rfl, fun _ => rfl, fun _ _ _ _ => rfl⟩

theorem outletCommand_clearAbsent : OutletCommand .clearAbsent 1 OutletRights.park := ⟨rfl, fun _ => rfl, fun _ _ _ _ => rfl⟩

theorem outletCommand_senseStart : OutletCommand .senseStart 1 OutletRights.park := ⟨rfl, fun _ => rfl, fun _ _ _ _ => rfl⟩

theorem outletCommand_senseEnd : OutletCommand .senseEnd 1 OutletRights.park := ⟨rfl, fun _ => rfl, fun _ _ _ _ => rfl⟩

theorem outletCommand_requestBurst : OutletCommand .requestBurst 7 OutletRights.burst :=
  ⟨rfl, fun _ => rfl, fun _ _ _ _ => rfl⟩

theorem outletCommand_endBurst : OutletCommand .endBurst 1 OutletRights.burst := ⟨rfl, fun _ => rfl, fun _ _ _ _ => rfl⟩

/-- The eight commands that O30 lists. -/
theorem outletCommand_of_mem {c : Code} {length : Nat} {right : OutletRights → Bool}
    (h : (c, length, right) ∈ [(Code.readOutlet, 2, OutletRights.read), (.parkOutlet, 1, OutletRights.park),
        (.unparkOutlet, 1, OutletRights.park), (.clearAbsent, 1, OutletRights.park), (.senseStart, 1, OutletRights.park),
        (.senseEnd, 1, OutletRights.park), (.requestBurst, 7, OutletRights.burst), (.endBurst, 1, OutletRights.burst)]) :
    OutletCommand c length right := by
  simp only [List.mem_cons, List.not_mem_nil, or_false, Prod.mk.injEq] at h
  rcases h with ⟨rfl, rfl, rfl⟩ | ⟨rfl, rfl, rfl⟩ | ⟨rfl, rfl, rfl⟩ | ⟨rfl, rfl, rfl⟩ | ⟨rfl, rfl, rfl⟩ | ⟨rfl, rfl, rfl⟩ |
    ⟨rfl, rfl, rfl⟩ | ⟨rfl, rfl, rfl⟩
  · exact outletCommand_readOutlet
  · exact outletCommand_parkOutlet
  · exact outletCommand_unparkOutlet
  · exact outletCommand_clearAbsent
  · exact outletCommand_senseStart
  · exact outletCommand_senseEnd
  · exact outletCommand_requestBurst
  · exact outletCommand_endBurst

namespace OutletCommand

variable {c : Code} {length : Nat} {right : OutletRights → Bool}

theorem ne_tableReset (k : OutletCommand c length right) : c ≠ .tableReset := by
  rintro rfl
  cases k.isTable

theorem refused_badLength (k : OutletCommand c length right) (h : Receives s p) (hl : pl.length ≠ length) :
    Refused s p c pl .badLength :=
  State.refused_of_length s p c pl h k.ne_tableReset (by rw [k.lengthOk]; simpa using hl)

/-- A check of the rights refuses the command before it asks for the table. -/
theorem refused_of_checkRights (k : OutletCommand c length right) (h : Receives s p) (hl : pl.length = length) {r : Result}
    (hr : s.checkRights c p pl = some r) : Refused s p c pl r :=
  State.refused_of_checkTable s p c pl r h k.isTable (by rw [k.lengthOk]; simpa using hl) (by rw [State.checkTable, hr])

theorem refused_badIndex (k : OutletCommand c length right) (h : Receives s p) (hl : pl.length = length)
    (part : c = .readOutlet → u8At pl 1 ≤ 2) (hn : 23 < u8At pl 0) : Refused s p c pl .badIndex :=
  k.refused_of_checkRights h hl (by rw [k.checks s p pl part, State.checkOutlet, outletArg, index?_eq_none hn])

theorem refused_denied (k : OutletCommand c length right) (h : Receives s p) (hl : pl.length = length)
    (part : c = .readOutlet → u8At pl 1 ≤ 2) {n : OutletId} (hn : u8At pl 0 = n.val) (hr : right (s.rights p n) = false) :
    Refused s p c pl .denied :=
  k.refused_of_checkRights h hl (by simp [k.checks s p pl part, State.checkOutlet, outletArg, index?_of_eq hn, hr])

theorem checkRights_none (k : OutletCommand c length right) (part : c = .readOutlet → u8At pl 1 ≤ 2) {n : OutletId}
    (hn : u8At pl 0 = n.val) (hr : right (s.rights p n) = true) : s.checkRights c p pl = none := by
  rw [k.checks s p pl part]
  exact State.checkOutlet_none (index?_of_eq hn) hr

theorem refused_busy (k : OutletCommand c length right) (h : Receives s p) (hl : pl.length = length)
    (part : c = .readOutlet → u8At pl 1 ≤ 2) {n : OutletId} (hn : u8At pl 0 = n.val) (hr : right (s.rights p n) = true)
    (busy : s.engine.op ≠ .none) : Refused s p c pl .busy :=
  State.refused_of_checkTable s p c pl _ h k.isTable (by rw [k.lengthOk]; simpa using hl) (by
    rw [State.checkTable, k.checkRights_none part hn hr]
    simp [State.busy, busy])

/-- With the table the operation of the command refuses it. -/
theorem refusedHolding (k : OutletCommand c length right) (h : Receives s p) (idle : TableIdle s) (hl : pl.length = length)
    (part : c = .readOutlet → u8At pl 1 ≤ 2) {n : OutletId} (hn : u8At pl 0 = n.val) (hr : right (s.rights p n) = true)
    {r : Result} (hd : ∀ t : State, t.engine = s.engine → t.outlet = s.outlet → t.entryOf = s.entryOf →
      t.runTable c p pl = refuse t r) : RefusedHolding s p c pl r :=
  State.refusedHolding_of_runTable s p c pl r h idle k.isTable (by rw [k.lengthOk]; simpa using hl)
    (State.checkTable_none (k.checkRights_none part hn hr) idle.2.2) fun t engine outlets bursts =>
      hd t engine (by funext m; rw [State.outlet, State.outlet, outlets]) (by funext m; rw [State.entryOf, State.entryOf, bursts])

end OutletCommand

end

/-! ## With the table (R13 to R18, R102, R110) -/

section

variable {s : State} {p : Port} {n : OutletId} {pl : List Byte}

/-- What the commands that need PARK answer once their port has the table. -/
theorem park_refusedHolding (h : Receives s p) (idle : TableIdle s) (hl : pl.length = 1) (hn : u8At pl 0 = n.val)
    (hr : (s.rights p n).park = true) :
    ((s.outlet n).struct.pool = .unused →
      RefusedHolding s p .parkOutlet pl .badIndex ∧ RefusedHolding s p .unparkOutlet pl .badIndex ∧
      RefusedHolding s p .clearAbsent pl .badIndex ∧ RefusedHolding s p .senseEnd pl .badIndex) ∧
    ((s.outlet n).struct.pool ≠ .unused → (s.outlet n).condition ≠ .active →
      RefusedHolding s p .parkOutlet pl .badState) ∧
    (s.engine.state = .safe → RefusedHolding s p .senseStart pl .badState) ∧
    (s.engine.state ≠ .safe → (s.outlet n).struct.pool = .unused → RefusedHolding s p .senseStart pl .badIndex) ∧
    (s.engine.state ≠ .safe → (s.outlet n).struct.pool ≠ .unused → (s.outlet n).condition ≠ .parked →
      (s.outlet n).condition ≠ .absent → RefusedHolding s p .senseStart pl .badState) ∧
    ((s.outlet n).struct.pool ≠ .unused → (∀ k, (s.outlet n).condition ≠ .sensing k) →
      RefusedHolding s p .senseEnd pl .badState) := by
  have named : outletArg pl = some n := index?_of_eq hn
  have park := fun r => outletCommand_parkOutlet.refusedHolding (r := r) h idle hl nofun hn hr
  have unpark := fun r => outletCommand_unparkOutlet.refusedHolding (r := r) h idle hl nofun hn hr
  have clear := fun r => outletCommand_clearAbsent.refusedHolding (r := r) h idle hl nofun hn hr
  have start := fun r => outletCommand_senseStart.refusedHolding (r := r) h idle hl nofun hn hr
  have ends := fun r => outletCommand_senseEnd.refusedHolding (r := r) h idle hl nofun hn hr
  refine ⟨fun unused => ⟨park _ fun t _ outlet _ => ?_, unpark _ fun t _ outlet _ => ?_, clear _ fun t _ outlet _ => ?_,
      ends _ fun t _ outlet _ => ?_⟩,
    fun used away => park _ fun t _ outlet _ => ?_, fun safe => start _ fun t engine _ _ => ?_,
    fun out unused => start _ fun t engine outlet _ => ?_, fun out used k₁ k₂ => start _ fun t engine outlet _ => ?_,
    fun used away => ends _ fun t _ outlet _ => ?_⟩ <;> refine (State.onOutlet_eq t named _).trans ?_
  · rw [State.doPark, outlet, if_pos unused]
  · rw [State.returnActive, outlet, if_pos unused]
  · rw [State.returnActive, outlet, if_pos unused]
  · rw [State.doSenseEnd, outlet, if_pos unused]
  · rw [State.doPark, outlet, if_neg used, if_pos away]
  · rw [State.doSenseStart, engine, if_pos safe]
  · rw [State.doSenseStart, engine, outlet, if_neg out, if_pos unused]
  · have none : State.priorFor (s.outlet n).condition = none := by
      cases condition : (s.outlet n).condition <;> simp_all [State.priorFor]
    simp only [State.doSenseStart, engine, outlet, if_neg out, if_neg used, none]
  · have still : ¬ State.isSensing (s.outlet n).condition = true := by
      cases condition : (s.outlet n).condition <;> simp_all [State.isSensing]
    rw [State.doSenseEnd, outlet, if_neg used, if_pos still]

/-- What REQUEST BURST answers once its port has the table, before it looks at the list. -/
theorem requestBurst_refusedHolding (h : Receives s p) (idle : TableIdle s) (hl : pl.length = 7) (hn : u8At pl 0 = n.val)
    (hr : (s.rights p n).burst = true) :
    (s.engine.state = .safe → RefusedHolding s p .requestBurst pl .badState) ∧
    (s.engine.state ≠ .safe → (s.outlet n).struct.pool ≠ .steam → RefusedHolding s p .requestBurst pl .badIndex) ∧
    (s.engine.state ≠ .safe → (s.outlet n).struct.pool = .steam → (s.outlet n).condition ≠ .active →
      RefusedHolding s p .requestBurst pl .badState) := by
  have named : outletArg pl = some n := index?_of_eq hn
  have request := fun r => outletCommand_requestBurst.refusedHolding (r := r) h idle hl nofun hn hr
  refine ⟨fun safe => request _ fun t engine _ _ => ?_, fun out other => request _ fun t engine outlet _ => ?_,
    fun out steam away => request _ fun t engine outlet _ => ?_⟩ <;> refine (State.onOutlet_eq t named _).trans ?_
  · rw [State.doRequestBurst, engine, if_pos safe]
  · rw [State.doRequestBurst, engine, outlet, if_neg out, if_pos other]
  · rw [State.doRequestBurst, engine, outlet, if_neg out, if_neg (not_not.mpr steam), if_pos away]

/-- What END BURST answers once its port has the table and no entry is there. -/
theorem endBurst_refusedHolding (h : Receives s p) (idle : TableIdle s) (hl : pl.length = 1) (hn : u8At pl 0 = n.val)
    (hr : (s.rights p n).burst = true) :
    ((s.outlet n).struct.pool ≠ .steam → RefusedHolding s p .endBurst pl .badIndex) ∧
    ((s.outlet n).struct.pool = .steam → s.entryOf n = none → RefusedHolding s p .endBurst pl .badState) := by
  have named : outletArg pl = some n := index?_of_eq hn
  have ends := fun r => outletCommand_endBurst.refusedHolding (r := r) h idle hl nofun hn hr
  refine ⟨fun other => ends _ fun t _ outlet _ => ?_, fun steam none => ends _ fun t _ outlet entry => ?_⟩ <;>
    refine (State.onOutlet_eq t named _).trans ?_
  · rw [State.doEndBurst, outlet, if_pos other]
  · rw [State.doEndBurst, outlet, if_neg (not_not.mpr steam), entry, none]

/-- SET DEMAND is refused with the table on an UNUSED outlet and on a RECHARGE one. -/
theorem setDemand_refusedHolding (h : Receives s p) (idle : TableIdle s) (hl : pl.length = 3) (hn : u8At pl 0 = n.val)
    (hr : (s.rights p n).demand = true) :
    ((s.outlet n).struct.pool = .unused → RefusedHolding s p .setDemand pl .badIndex) ∧
    ((s.outlet n).struct.pool ≠ .unused → (s.outlet n).struct.role ≠ .plain →
      RefusedHolding s p .setDemand pl .role) := by
  have named : outletArg pl = some n := index?_of_eq hn
  have set := fun r => outletCommand_setDemand.refusedHolding (r := r) h idle hl nofun hn hr
  refine ⟨fun unused => set _ fun t _ outlet _ => ?_, fun used recharge => set _ fun t _ outlet _ => ?_⟩ <;>
    refine (State.onOutlet_eq t named _).trans ?_
  · rw [State.doSetDemand, outlet, if_pos unused]
  · rw [State.doSetDemand, outlet, if_neg used, if_pos recharge]

end

/-- Settles O30 (R1, R19, R21, R101, R102, R110; log 6, log 16): each command is refused by the first of its checks that fails, before the table and with it. -/
theorem outletCommandsAreRefusedInOrder : Obligations.OutletCommandsAreRefusedInOrder := by
  intro s p h
  refine ⟨fun pl hl => outletCommand_setDemand.refused_badLength h hl,
    fun b hi lo hb => outletCommand_setDemand.refused_badIndex h rfl nofun hb,
    fun n hi lo hr => outletCommand_setDemand.refused_denied h rfl nofun (toNat_byte n (by decide)) hr,
    fun n hi lo hr busy => outletCommand_setDemand.refused_busy h rfl nofun (toNat_byte n (by decide)) hr busy,
    fun n hi lo idle hr => setDemand_refusedHolding h idle rfl (toNat_byte n (by decide)) hr,
    fun pl => ⟨fun hl => ⟨?_, ?_⟩, fun hl right => ?_⟩, fun c length right pl hc => ⟨fun hl => ?_, fun hl wrong => ?_, ?_⟩,
    fun n pl idle hn => ⟨fun hl hr => park_refusedHolding h idle hl hn hr,
      fun hl hr => requestBurst_refusedHolding h idle hl hn hr, fun hl hr => endBurst_refusedHolding h idle hl hn hr⟩⟩
  · exact State.refused_of_length s p .setProfile pl h nofun (by simpa [Code.lengthOk] using hl)
  · exact State.refused_of_length s p .readBursts pl h nofun (by simpa [Code.lengthOk] using hl)
  · exact State.refused_of_checkTable s p .setProfile pl _ h rfl (by simpa [Code.lengthOk] using hl)
      (by simp [State.checkTable, State.checkRights, right])
  · exact (outletCommand_of_mem hc).refused_badLength h hl
  · have command := outletCommand_of_mem hc
    by_cases part : c = .readOutlet → u8At pl 1 ≤ 2
    · refine command.refused_badIndex h hl part (wrong.resolve_right fun high => ?_)
      obtain ⟨read, above⟩ := high
      exact absurd (part read) (Nat.not_le.mpr above)
    · obtain ⟨read, above⟩ := Classical.not_imp.mp part
      refine command.refused_of_checkRights h hl ?_
      rw [read, State.checkRights, if_pos (Nat.lt_of_not_le above)]
  · exact fun hl part n hn hr => (outletCommand_of_mem hc).refused_denied h hl part hn hr

end Sys2Proof.Machine
end

section
set_option Elab.async false
/-! PROOFS. SET LIMITS (O31). -/

namespace Sys2Proof.Machine

open Sys2Proof.Statements

/-! ## Numbers in payloads (R171) -/

theorem be8_eq_iff {v : Nat} (hv : v < 256) (b : Byte) : BitVec.ofNat 8 v = b ↔ v = b.toNat := by
  rw [← BitVec.toNat_inj, BitVec.toNat_ofNat, Nat.mod_eq_of_lt hv]

theorem be16_eq_iff {v : Nat} (hv : v < 65536) (h l : Byte) : be16 v = [h, l] ↔ v = h.toNat * 256 + l.toNat := by
  have high := h.isLt
  have low := l.isLt
  rw [be16, List.cons.injEq, List.cons.injEq, ← BitVec.toNat_inj, ← BitVec.toNat_inj, BitVec.toNat_ofNat, BitVec.toNat_ofNat]
  simp only [and_true]
  omega

theorem lapseAction?_code {b : Byte} {a : LapseAction} (h : lapseAction? b = some a) : lapseCode a = b.toNat := by
  revert h
  revert a b
  decide

theorem lapseAction?_isSome : ∀ b : Byte, (lapseAction? b).isSome = true ↔ b.toNat ≤ 2 := by decide

/-- A payload of fourteen bytes, byte by byte. -/
theorem drop_one_of_length {pl : List Byte} (h : pl.length = 14) :
    pl.drop 1 = [byteAt pl 1, byteAt pl 2, byteAt pl 3, byteAt pl 4, byteAt pl 5, byteAt pl 6, byteAt pl 7, byteAt pl 8,
      byteAt pl 9, byteAt pl 10, byteAt pl 11, byteAt pl 12, byteAt pl 13] := by
  match pl, h with
  | [_, _, _, _, _, _, _, _, _, _, _, _, _, _], _ => rfl

/-- A limits part reads as what SET LIMITS carried exactly where each field is the number carried. -/
theorem limitsPayload_eq_iff {l : Limits} {pl : List Byte} (h : pl.length = 14) (weight : l.weight < 256)
    (floor : l.floor < 65536) (ceiling : l.ceiling < 65536) (fallback : l.fallback < 65536) (tolerance : l.tolerance < 256) :
    State.limitsPayload l = pl.drop 1 ↔
      (∀ k : Profile, (l.tiers[k]).val = u8At pl (1 + k.val)) ∧ l.weight = u8At pl 5 ∧ l.floor = u16At pl 6 ∧
      l.ceiling = u16At pl 8 ∧ lapseCode l.lapseAction = u8At pl 10 ∧ l.fallback = u16At pl 11 ∧
      l.tolerance = u8At pl 13 := by
  have tiers : l.tiers.toList = [l.tiers[0], l.tiers[1], l.tiers[2], l.tiers[3]] :=
    List.ext_getElem (by simp) fun i h₁ h₂ => by
      match i, h₂ with
      | 0, _ | 1, _ | 2, _ | 3, _ => simp
  have tier : ∀ k : Tier, k.val < 256 := fun k => k.isLt.trans (by decide)
  have lapse : lapseCode l.lapseAction < 256 := by cases l.lapseAction <;> decide
  rw [drop_one_of_length h, State.limitsPayload, tiers]
  have pair : ∀ (v : Nat) (a b : Byte) (x y : List Byte), v < 65536 →
      (be16 v ++ x = a :: b :: y ↔ v = a.toNat * 256 + b.toNat ∧ x = y) := fun v a b x y hv => by
    rw [← be16_eq_iff hv, be16]
    simp [and_assoc]
  have single : ∀ (v : Nat) (a : Byte) (x y : List Byte), v < 256 → (be8 v ++ x = a :: y ↔ v = a.toNat ∧ x = y) :=
    fun v a x y hv => by
      rw [← be8_eq_iff hv, be8]
      simp
  have last : be8 l.tolerance = be8 l.tolerance ++ [] := rfl
  rw [last]
  simp only [List.map_cons, List.map_nil, List.append_assoc, List.cons_append, List.nil_append, List.cons.injEq]
  rw [single _ _ _ _ weight, pair _ _ _ _ _ floor, pair _ _ _ _ _ ceiling, single _ _ _ _ lapse, pair _ _ _ _ _ fallback,
    single _ _ _ _ tolerance]
  simp only [be8_eq_iff (tier _), and_true]
  constructor
  · rintro ⟨t0, t1, t2, t3, rest⟩
    refine ⟨fun k => ?_, rest⟩
    fin_cases k
    · exact t0
    · exact t1
    · exact t2
    · exact t3
  · rintro ⟨all, rest⟩
    exact ⟨all 0, all 1, all 2, all 3, rest⟩

/-! ## SET LIMITS (R5, R6) -/

theorem lowered_lowered {g c eff : Nat} (h : eff ≤ c) : lowered (lowered g c) eff = lowered g eff := by
  simp only [State.lowered_eq_min]
  omega

/-- A grant lowered to a ceiling and then to a limit under it is lowered to the limit. -/
theorem loweredChannel_loweredChannel {ch : Channel} {g c eff : Nat} (h : eff ≤ c) :
    loweredChannel (loweredChannel ch g c) (lowered g c) eff = loweredChannel ch g eff := by
  rw [State.lowered_eq_min]
  unfold loweredChannel
  by_cases above : c < g
  · have : min g c = c := by omega
    rw [this, if_pos above, if_pos (show eff < g by omega)]
    by_cases under : eff < c
    · rw [if_pos under]
    · rw [if_neg under, show c = eff by omega]
  · have : min g c = g := by omega
    rw [this, if_neg above]

namespace State

/-- The amount of an outlet's CLEARED burst after the amount of its entry has been changed. -/
theorem modEntry_clearedAmount (s : State) (n : OutletId) (f : Nat → Nat) :
    (s.modEntry n fun e => { e with amount := f e.amount }).clearedAmount n = (s.clearedAmount n).map f := by
  have found : (s.modEntry n fun e => { e with amount := f e.amount }).entryOf n =
      (s.entryOf n).map fun e => if e.outlet = n then { e with amount := f e.amount } else e := by
    rw [entryOf, entryOf, modEntry, List.find?_map]
    congr 1
    refine congrArg (fun test => List.find? test s.bursts) (funext fun e => ?_)
    by_cases own : e.outlet = n <;> simp [own]
  rw [clearedAmount, clearedAmount, found]
  cases entry : s.entryOf n with
  | none => rfl
  | some e =>
    simp only [Option.map_some, entryOf_outlet entry, if_true]
    change (if e.isCleared = true then some (f e.amount) else none) = _
    split <;> rfl

theorem setGrant_tableWork (s : State) (n : OutletId) (g : Nat) : TableWork s (s.setGrant n g) := rfl

theorem modEntry_tableWork (s : State) (n : OutletId) (f : BurstEntry → BurstEntry) : TableWork s (s.modEntry n f) := rfl

/-- The limits of an outlet are written and everything of it lowered to them. -/
theorem writeLimits_spec (s : State) (n : OutletId) (l : Limits) :
    let eff := ((s.clearedAmount n).map fun x => min x l.ceiling).getD (min (s.outlet n).demand l.ceiling)
    (s.writeLimits n l).outlet n = { s.outlet n with
      limits := l, demand := min (s.outlet n).demand l.ceiling, grant := lowered (s.outlet n).grant eff } ∧
    (s.writeLimits n l).channel n = { loweredChannel (s.channel n) (s.outlet n).grant eff with ceiling := l.ceiling } ∧
    (s.writeLimits n l).bursts =
      s.bursts.map (fun e => if e.outlet = n then { e with amount := min e.amount l.ceiling } else e) ∧
    (∀ m, m ≠ n → (s.writeLimits n l).outlet m = s.outlet m ∧ (s.writeLimits n l).channel m = s.channel m) ∧
    (∀ q, (s.writeLimits n l).port q = s.port q) ∧ (s.writeLimits n l).branches = s.branches ∧
    TableWork s (s.writeLimits n l) := by
  intro eff
  let s1 := s.modOutlet n fun o => { o with limits := l, demand := min o.demand l.ceiling }
  let s3 := (s1.modEntry n fun e => { e with amount := min e.amount l.ceiling }).modChannel n
    fun c => { c with ceiling := l.ceiling }
  let s4 := if l.ceiling < (s3.outlet n).grant then s3.setGrant n l.ceiling else s3
  have record : s3.outlet n = { s.outlet n with limits := l, demand := min (s.outlet n).demand l.ceiling } :=
    modOutlet_outlet_self s n fun o => { o with limits := l, demand := min o.demand l.ceiling }
  have copy : s3.channel n = { s.channel n with ceiling := l.ceiling } :=
    modChannel_channel_self (s1.modEntry n fun e => { e with amount := min e.amount l.ceiling }) n
      fun c => { c with ceiling := l.ceiling }
  have amount : s3.clearedAmount n = (s.clearedAmount n).map fun x => min x l.ceiling :=
    modEntry_clearedAmount s n fun x => min x l.ceiling
  have capped : s4.outlet n = { s3.outlet n with grant := lowered (s3.outlet n).grant l.ceiling } ∧
      s4.channel n = loweredChannel (s3.channel n) (s3.outlet n).grant l.ceiling := by
    unfold s4 lowered loweredChannel
    split
    · exact ⟨setGrant_outlet s3 n _, setGrant_channel s3 n _⟩
    · exact ⟨rfl, rfl⟩
  have frame : TableWork s s4 ∧ (∀ m, m ≠ n → s4.outlet m = s.outlet m ∧ s4.channel m = s.channel m) ∧
      (∀ q, s4.port q = s.port q) ∧ s4.branches = s.branches ∧ s4.bursts = s3.bursts := by
    have before : TableWork s s3 ∧ ∀ m, m ≠ n → s3.outlet m = s.outlet m ∧ s3.channel m = s.channel m :=
      ⟨rfl, fun m hm => ⟨modOutlet_outlet_ne s (fun o => { o with limits := l, demand := min o.demand l.ceiling }) hm,
        modChannel_channel_ne _ _ hm⟩⟩
    unfold s4
    split
    · exact ⟨before.1.trans (setGrant_tableWork s3 n _), fun m hm =>
        ⟨(setGrant_outlet_ne s3 n m _ hm).trans (before.2 m hm).1, (setGrant_channel_ne s3 n m _ hm).trans (before.2 m hm).2⟩,
        fun _ => rfl, rfl, rfl⟩
    · exact ⟨before.1, before.2, fun _ => rfl, rfl, rfl⟩
  obtain ⟨outlet, channel⟩ := enforceEffective_lowers s4 n
  obtain ⟨work, others, ports, branches, bursts⟩ := frame
  have effective : s4.effectiveDemand n = eff := by
    have list : s4.clearedAmount n = s3.clearedAmount n := by rw [clearedAmount, clearedAmount, entryOf, entryOf, bursts]
    rw [effectiveDemand, list, amount, capped.1, record]
  have bound : eff ≤ l.ceiling := by
    unfold eff
    cases s.clearedAmount n with
    | none => exact Nat.min_le_right _ _
    | some x => exact Nat.min_le_right _ _
  rw [effective, capped.1, record] at outlet
  rw [effective, capped.1, capped.2, record, loweredChannel_loweredChannel bound, copy] at channel
  refine ⟨outlet.trans ?_, channel.trans ?_, (enforceEffective_get s4 n State.bursts).trans bursts, fun m hm => ⟨?_, ?_⟩,
    fun q => (enforceEffective_get s4 n fun t => t.port q).trans (ports q),
    (enforceEffective_get s4 n State.branches).trans branches, work.trans (enforceEffective_tableWork s4 n)⟩
  · simp only [lowered_lowered bound]
  · unfold loweredChannel
    split <;> rfl
  · exact (enforceEffective_outlet_ne s4 n m hm).trans (others m hm).1
  · exact (enforceEffective_channel_ne s4 n m hm).trans (others m hm).2

/-- The limits that SET LIMITS writes for a pool and a lapse action (R5). -/
theorem parseLimits_eq (pool : Pool) {pl : List Byte} {a : LapseAction} (h : lapseAction? (byteAt pl 10) = some a) :
    parseLimits pool pl = some
      { tiers := tabulate fun i => tierOf (u8At pl (1 + i.val)), weight := max 1 (min (u8At pl 5) 15)
        floor := min (u16At pl 6) (min (u16At pl 8) (poolMax pool)), ceiling := min (u16At pl 8) (poolMax pool)
        lapseAction := a, fallback := min (u16At pl 11) (poolMax pool), tolerance := max 5 (min (u8At pl 13) 50) } := by
  rw [parseLimits, h]
  rfl

end State

/-- SET LIMITS wrote another number than it carried exactly where one was outside its range (R5). -/
theorem limitsClamped_iff (pool : Pool) {pl : List Byte} {a : LapseAction} (hl : pl.length = 14)
    (h : lapseAction? (byteAt pl 10) = some a) {l : Limits} (parsed : State.parseLimits pool pl = some l) :
    State.limitsClamped l pl = true ↔
      (∃ k : Profile, 3 < u8At pl (1 + k.val)) ∨ u8At pl 5 = 0 ∨ 15 < u8At pl 5 ∨
      min (u16At pl 8) (poolMax pool) < u16At pl 6 ∨ poolMax pool < u16At pl 8 ∨ poolMax pool < u16At pl 11 ∨
      u8At pl 13 < 5 ∨ 50 < u8At pl 13 := by
  rw [State.parseLimits_eq pool h, Option.some.injEq] at parsed
  subst parsed
  have top : poolMax pool ≤ 4000 := by cases pool <;> decide
  have byte : ∀ i, u8At pl i < 256 := u8At_lt pl
  rw [State.limitsClamped, decide_eq_true_iff, ne_eq,
    limitsPayload_eq_iff hl (by simp only; omega) (by simp only; omega) (by simp only; omega) (by simp only; omega)
      (by simp only; omega)]
  have lapse : lapseCode a = u8At pl 10 := lapseAction?_code h
  have tiers : (∀ k : Profile, ((tabulate fun i : Fin 4 => State.tierOf (u8At pl (1 + i.val)))[k]).val = u8At pl (1 + k.val)) ↔
      ¬ ∃ k : Profile, 3 < u8At pl (1 + k.val) := by
    rw [not_exists]
    refine forall_congr' fun k => ?_
    simp only [Fin.getElem_fin, tabulate_getElem, State.tierOf]
    omega
  simp only [tiers, lapse, true_and]
  by_cases some : ∃ k : Profile, 3 < u8At pl (1 + k.val)
  · simp [some]
  · simp only [some, not_false_eq_true, true_and, false_or]
    omega

/-- Settles O31 (R5, R6; log 6, log 16): the limits are parsed and clamped, and the outlet lowered to them; the refusals come in the order of the checks. -/
theorem setLimitsWritesAndLowers : Obligations.SetLimitsWritesAndLowers := by
  refine ⟨fun s p n pl a hl reaches away used lapse => ?_, fun s p pl h => ⟨fun hl => ?_, fun hl hn => ?_,
    fun n hl hn => ⟨fun hr => ?_, fun hr busy => ?_, fun hr idle => ⟨fun safe => ?_, fun out wrong => ?_⟩⟩⟩⟩
  · intro top c eff
    obtain ⟨receives, idle, named, right⟩ := reaches
    have check : s.checkTable .setLimits p pl = none :=
      State.checkTable_none (State.checkOutlet_none (right := OutletRights.limits) named right) idle.2.2
    have cap : poolMax (s.outlet n).struct.pool = top := by
      unfold top
      cases (s.outlet n).struct.pool <;> rfl
    obtain ⟨l, parsed⟩ : ∃ l, State.parseLimits (s.outlet n).struct.pool pl = some l := ⟨_, State.parseLimits_eq _ lapse⟩
    have fields := parsed
    rw [State.parseLimits_eq _ lapse, Option.some.injEq, cap] at fields
    have ceiling : l.ceiling = c := by rw [← fields]
    have writes : (s.served p .setLimits pl).runTable .setLimits p pl =
        { state := (s.served p .setLimits pl).writeLimits n l
          result := (done ((s.served p .setLimits pl).writeLimits n l) (State.limitsClamped l pl)).result
          payload := [] } := by
      refine (State.onOutlet_eq _ named _).trans ?_
      simp only [State.doSetLimits, State.served_engine, State.served_outlet, if_neg away, if_neg used, parsed]
      rfl
    have clamped := (State.done_result ((s.served p .setLimits pl).writeLimits n l) (State.limitsClamped l pl)).trans
      (limitsClamped_iff _ hl lapse parsed)
    rw [cap] at clamped
    have result : ∀ t : State, (done t (State.limitsClamped l pl)).result = .ok ∨
        (done t (State.limitsClamped l pl)).result = .clamped := fun t => by
      cases State.limitsClamped l pl
      · exact .inl rfl
      · exact .inr rfl
    have result := result ((s.served p .setLimits pl).writeLimits n l)
    obtain ⟨outlet, channel, bursts, others, ports, branches, work⟩ := (s.served p .setLimits pl).writeLimits_spec n l
    have row := State.exec_table receives idle rfl (by simpa [Code.lengthOk] using hl) check writes
    generalize (done ((s.served p .setLimits pl).writeLimits n l) (State.limitsClamped l pl)).result = r at *
    generalize (s.served p .setLimits pl).writeLimits n l = u at *
    obtain ⟨plant, arbiter⟩ := State.kept_of_tableWork (a := ⟨u, r, []⟩) work (decide ((s.port p).link = .lapsed))
    rw [ceiling] at outlet channel bursts
    have limits : (u.outlet n).limits = l := by rw [outlet]
    refine ⟨_, r, row, ?_, ?_, ?_, fun k => ?_, ?_, ?_, ?_, ?_, channel, bursts, others, plant, branches, arbiter,
      State.portAnswered_served ((ports p).trans (State.served_port_self s p _ _))
        (fun q hq => (ports q).trans (State.served_port_ne s p _ _ hq)) _, result, clamped⟩ <;>
      rw [State.respond_outlet]
    · rw [limits, ceiling]
    · rw [limits, ← fields]
    · rw [limits, ← fields]
    · rw [limits, ← fields]
      simp [State.tierOf]
    · rw [limits, ← fields]
    · rw [limits, ← fields]
    · rw [limits, ← fields]
    · rw [limits, outlet]
      rfl
  · exact outletCommand_setLimits.refused_badLength h hl
  · exact outletCommand_setLimits.refused_badIndex h hl nofun hn
  · exact outletCommand_setLimits.refused_denied h hl nofun hn hr
  · exact outletCommand_setLimits.refused_busy h hl nofun hn hr busy
  · refine outletCommand_setLimits.refusedHolding h idle hl nofun hn hr fun t engine _ _ => ?_
    refine (State.onOutlet_eq t (index?_of_eq hn) _).trans ?_
    rw [State.doSetLimits, engine, if_pos safe]
  · refine outletCommand_setLimits.refusedHolding h idle hl nofun hn hr fun t engine outlet _ => ?_
    refine (State.onOutlet_eq t (index?_of_eq hn) _).trans ?_
    rw [State.doSetLimits, engine, outlet, if_neg out]
    by_cases unused : (s.outlet n).struct.pool = .unused
    · rw [if_pos unused]
    · have undefined : lapseAction? (byteAt pl 10) = none := by
        rw [← Option.not_isSome_iff_eq_none, lapseAction?_isSome]
        exact Nat.not_le.mpr (wrong.resolve_left unused)
      rw [if_neg unused, State.parseLimits, undefined, Option.map_none]

end Sys2Proof.Machine
end

section
set_option Elab.async false
/-! PROOFS. SET OUTLET CONFIG (O32). -/

namespace Sys2Proof.Machine

open Sys2Proof.Statements

/-! ## The codes of a structure (chapter 10; log 15) -/

theorem pool?_isSome : ∀ b : Byte, (pool? b).isSome = true ↔ b.toNat ≤ 2 := by decide

theorem role?_isSome : ∀ b : Byte, (role? b).isSome = true ↔ b.toNat ≤ 2 := by decide

theorem driveByte?_isSome : ∀ b : Byte, (driveByte? b).isSome = true ↔ b.toNat ≤ 15 ∧ b.toNat / 2 % 4 ≠ 3 := by decide

/-- A payload carries a structure exactly where none of its codes is undefined. -/
theorem parseStructure_isSome (pl : List Byte) : (State.parseStructure pl).isSome = true ↔ ¬ CodeUndefined pl := by
  have pool := pool?_isSome (byteAt pl 1)
  have role := role?_isSome (byteAt pl 2)
  have branch := optIndex?_isSome 6 (byteAt pl 3)
  have meter := optIndex?_isSome 8 (byteAt pl 4)
  have drive := driveByte?_isSome (byteAt pl 9)
  change _ ↔ u8At pl 1 ≤ 2 at pool
  change _ ↔ u8At pl 2 ≤ 2 at role
  change _ ↔ u8At pl 3 < 6 ∨ u8At pl 3 = 0xFF at branch
  change _ ↔ u8At pl 4 < 8 ∨ u8At pl 4 = 0xFF at meter
  change _ ↔ u8At pl 9 ≤ 15 ∧ u8At pl 9 / 2 % 4 ≠ 3 at drive
  have defined : ¬ CodeUndefined pl ↔ (pool? (byteAt pl 1)).isSome = true ∧ (role? (byteAt pl 2)).isSome = true ∧
      (optIndex? 6 (byteAt pl 3)).isSome = true ∧ (optIndex? 8 (byteAt pl 4)).isSome = true ∧
      (driveByte? (byteAt pl 9)).isSome = true := by
    rw [pool, role, branch, meter, drive]
    omega
  rw [defined, State.parseStructure]
  cases pool? (byteAt pl 1) with
  | none => simp
  | some a =>
    cases role? (byteAt pl 2) with
    | none => simp
    | some b =>
      cases optIndex? 6 (byteAt pl 3) with
      | none => simp
      | some c =>
        cases optIndex? 8 (byteAt pl 4) with
        | none => simp
        | some d => cases driveByte? (byteAt pl 9) <;> simp

/-! ## The refusals of R3 -/

theorem isRecharge_iff (r : Role) : State.isRecharge r = true ↔ r ≠ .plain := by cases r <;> simp [State.isRecharge]

theorem restarts_iff (old new : OutletStructure) :
    State.restarts old new = true ↔
      old.pool ≠ new.pool ∨ State.isRecharge old.role ≠ State.isRecharge new.role := by
  simp [State.restarts]

theorem roleConflict_iff (st : OutletStructure) : State.roleConflict st = true ↔ PoolRefused st := by
  simp only [State.roleConflict, Bool.or_eq_true, Bool.and_eq_true, decide_eq_true_iff, isRecharge_iff,
    Option.isSome_iff_ne_none, or_assoc]

theorem duplicates_iff (s : State) (n : OutletId) (st : OutletStructure) :
    s.duplicates n st = true ↔ BindingTaken s n st := by
  have binds : ∀ r : OutletStructure, (State.boundStore st ≠ none ∧ State.boundStore r = State.boundStore st) ↔
      (st.role ≠ .plain ∧ r.role = st.role) := fun r => by
    unfold State.boundStore
    cases st.role <;> cases r.role <;> simp
  rw [State.duplicates, List.any_eq_true]
  simp only [List.mem_finRange, true_and, Bool.and_eq_true, Bool.or_eq_true, decide_eq_true_iff,
    Option.isSome_iff_ne_none]
  simp only [binds]

/-- The refusal of a structure, case by case. -/
theorem structureRefusal_eq (s : State) (n : OutletId) (st : OutletStructure) [Decidable (ChangeRefused (s.outlet n) st)]
    [Decidable (PoolRefused st)] [Decidable (BindingTaken s n st)] :
    s.structureRefusal n st =
      if ChangeRefused (s.outlet n) st then some .badState
      else if PoolRefused st then some .role
      else if BindingTaken s n st then some .duplicate
      else none := by
  have under : ((s.outlet n).burstRef && State.restarts (s.outlet n).struct st) = true ↔
      (s.outlet n).burstRef = true ∧ ((s.outlet n).struct.pool ≠ st.pool ∨
        State.isRecharge (s.outlet n).struct.role ≠ State.isRecharge st.role) := by
    rw [Bool.and_eq_true, restarts_iff]
  simp only [State.structureRefusal, under, Bool.and_eq_true, decide_eq_true_iff, roleConflict_iff, duplicates_iff, and_assoc]
  by_cases first : (s.outlet n).burstRef = true ∧ ((s.outlet n).struct.pool ≠ st.pool ∨
      State.isRecharge (s.outlet n).struct.role ≠ State.isRecharge st.role)
  · rw [if_pos first, if_pos (.inl first)]
  · rw [if_neg first]
    simp only [ChangeRefused, first, false_or]

/-! ## The record with its new structure (R2, R4) -/

/-- What a new structure leaves of a record, and what restarts with it. -/
theorem withStructure_spec (o : Outlet) (st : OutletStructure) :
    let new := State.withStructure o st
    let changed := o.struct.pool ≠ st.pool ∨ State.isRecharge o.struct.role ≠ State.isRecharge st.role
    let unmetered := o.struct.meter.isSome = true ∧ st.meter = none
    new.struct = st ∧ new.condition = o.condition ∧ new.continuity = o.continuity ∧ new.burstRef = o.burstRef ∧
    (changed → new.demand = 0 ∧ new.grant = 0 ∧ new.status = .idle ∧
      new.owner = (if State.isRecharge st.role then .engine else .none)) ∧
    (¬ changed → new.demand = o.demand ∧ new.grant = o.grant ∧ new.status = o.status ∧ new.owner = o.owner) ∧
    (changed ∨ unmetered → new.trim = 100 ∧ new.overStreak = 0 ∧ new.underStreak = 0) ∧
    (¬ changed → ¬ unmetered → new.trim = o.trim ∧ new.overStreak = o.overStreak ∧ new.underStreak = o.underStreak) ∧
    new.limits = State.limitsIn st.pool o.limits := by
  intro new changed unmetered
  have lost : (o.struct.meter.isSome && st.meter.isNone) = true ↔ unmetered := by
    rw [Bool.and_eq_true, Option.isNone_iff_eq_none]
  unfold new State.withStructure
  simp only [restarts_iff, lost]
  by_cases c : changed <;> by_cases u : unmetered
  · rw [if_pos c, if_pos u]
    exact ⟨rfl, rfl, rfl, rfl, fun _ => ⟨rfl, rfl, rfl, rfl⟩, fun h => absurd c h, fun _ => ⟨rfl, rfl, rfl⟩,
      fun h => absurd c h, rfl⟩
  · rw [if_pos c, if_neg u]
    exact ⟨rfl, rfl, rfl, rfl, fun _ => ⟨rfl, rfl, rfl, rfl⟩, fun h => absurd c h, fun _ => ⟨rfl, rfl, rfl⟩,
      fun h => absurd c h, rfl⟩
  · rw [if_neg c, if_pos u]
    exact ⟨rfl, rfl, rfl, rfl, fun h => absurd h c, fun _ => ⟨rfl, rfl, rfl, rfl⟩, fun _ => ⟨rfl, rfl, rfl⟩,
      fun _ h => absurd u h, rfl⟩
  · rw [if_neg c, if_neg u]
    exact ⟨rfl, rfl, rfl, rfl, fun h => absurd h c, fun _ => ⟨rfl, rfl, rfl, rfl⟩, fun h => absurd h (not_or.mpr ⟨c, u⟩),
      fun _ _ => ⟨rfl, rfl, rfl⟩, rfl⟩

/-! ## SET OUTLET CONFIG (R2 to R4) -/

theorem result_of_decide (P : Prop) [Decidable P] :
    (if decide P = true then Result.clamped else .ok) = if P then .clamped else .ok := by
  by_cases h : P <;> simp [h]

/-- A command carried out answers CLAMPED exactly where a number was outside its range. -/
theorem done_if (t : State) (P : Prop) [Decidable P] :
    done t (decide P) = { state := t, result := if P then .clamped else .ok, payload := [] } :=
  State.done_eq t (decide_eq_true_iff (p := P))

section

variable {s : State} {p : Port} {n : OutletId} {pl : List Byte}

theorem checkTable_setOutletConfig (idle : TableIdle s) (named : outletArg pl = some n)
    (admin : (s.globals p).admin = true) : s.checkTable .setOutletConfig p pl = none :=
  State.checkTable_none (State.checkOutlet_none (s := s) (p := p) (right := fun _ => (s.globals p).admin) named admin) idle.2.2

/-- SET OUTLET CONFIG of a structure that passes R3. -/
theorem doSetOutletConfig_ok (t : State) {raw : OutletStructure} (standby : t.engine.state = .standby)
    (parsed : State.parseStructure pl = some raw) (sound : t.structureRefusal n raw = none) :
    t.doSetOutletConfig n pl =
      { state := t.writeStructure n (State.clampStructure raw)
        result := if State.clampStructure raw ≠ raw ∨
          State.limitsIn (State.clampStructure raw).pool (t.outlet n).limits ≠ (t.outlet n).limits then .clamped else .ok
        payload := [] } := by
  rw [← State.done_eq _ (clamped := decide (State.clampStructure raw ≠ raw) ||
    decide (State.limitsIn (State.clampStructure raw).pool (t.outlet n).limits ≠ (t.outlet n).limits))
    (by rw [Bool.or_eq_true, decide_eq_true_iff, decide_eq_true_iff])]
  simp only [State.doSetOutletConfig, if_neg (not_not.mpr standby), parsed, sound]

/-- The row of SET OUTLET CONFIG for a structure that passes R3. -/
theorem setOutletConfig_row (receives : Receives s p) (idle : TableIdle s) (hl : pl.length = 15)
    (named : outletArg pl = some n) (admin : (s.globals p).admin = true) (standby : s.engine.state = .standby)
    {raw : OutletStructure} (parsed : State.parseStructure pl = some raw) (sound : s.structureRefusal n raw = none) :
    let st := State.clampStructure raw
    let new := State.withStructure (s.outlet n) st
    ∃ t r, exec (.setOutletConfig p pl) s = .next t ∧ t.outlet n = new ∧
      t.channel n = { s.channel n with copy := st, ceiling := new.limits.ceiling, trim := new.trim, grant := new.grant } ∧
      OthersKept s t n ∧ PlantKept s t ∧ t.bursts = s.bursts ∧ t.branches = s.branches ∧ ArbiterHeld s t p ∧
      PortAnswered s t p s.port 0x12 r [] ∧
      r = (if st ≠ raw ∨ State.limitsIn st.pool (s.outlet n).limits ≠ (s.outlet n).limits then .clamped else .ok) := by
  intro st new
  have writes := (State.onOutlet_eq (s.served p .setOutletConfig pl) named
    fun m => (s.served p .setOutletConfig pl).doSetOutletConfig m pl).trans
    ((doSetOutletConfig_ok (n := n) (s.served p .setOutletConfig pl) standby parsed sound).trans (done_if _ _).symm)
  rw [State.writeStructure, State.served_outlet] at writes
  obtain ⟨outlet, channel, others, plant, bursts, branches, arbiter, answered⟩ := State.record_answered s p n .setOutletConfig pl (fun _ => new)
    (fun c => { c with copy := st, ceiling := new.limits.ceiling, trim := new.trim, grant := new.grant })
    (decide (st ≠ raw ∨ State.limitsIn st.pool (s.outlet n).limits ≠ (s.outlet n).limits))
  rw [result_of_decide] at answered
  exact ⟨_, _, State.exec_table receives idle rfl (by simpa [Code.lengthOk] using hl)
    (checkTable_setOutletConfig idle named admin) writes, outlet, channel, others, plant, bursts, branches,
    arbiter, answered, rfl⟩

end

/-- Settles O32 (R1 to R4; log 6, log 15, log 18): a structure that passes is clamped and written, the refusals come in the order of the checks. -/
theorem setOutletConfigWritesTheStructure : Obligations.SetOutletConfigWritesTheStructure := by
  refine ⟨fun s p n pl raw hl receives idle named admin standby parsed sound => ?_, fun s p pl h => ⟨fun hl => ?_,
    fun hl hn => ?_, fun n hl hn => ⟨fun right => ?_, fun right busy => ?_, fun right idle => ?_⟩⟩⟩
  · intro o st changed unmetered
    obtain ⟨t, r, row, outlet, channel, others, plant, bursts, branches, arbiter, answered, result⟩ :=
      setOutletConfig_row receives idle hl named admin standby parsed sound
    obtain ⟨struct, condition, continuity, burstRef, restarted, kept, retrimmed, trimmed, limits⟩ :=
      withStructure_spec o st
    have clamped : r = (if st ≠ raw ∨ (State.withStructure o st).limits ≠ o.limits then .clamped else .ok) := by
      rw [limits]
      exact result
    refine ⟨t, r, row, ?_⟩
    rw [outlet]
    exact ⟨struct, condition, continuity, burstRef, restarted, kept, retrimmed, trimmed, limits, channel, others, plant,
      bursts, branches, arbiter, answered, clamped⟩
  · exact State.refused_of_length s p .setOutletConfig pl h nofun (by simpa [Code.lengthOk] using hl)
  · exact State.refused_of_checkTable s p .setOutletConfig pl _ h rfl (by simpa [Code.lengthOk] using hl) (by
      simp [State.checkTable, State.checkRights, State.checkOutlet, outletArg, index?_eq_none (n := 24) hn])
  · exact State.refused_of_checkTable s p .setOutletConfig pl _ h rfl (by simpa [Code.lengthOk] using hl) (by
      simp [State.checkTable, State.checkRights, State.checkOutlet, outletArg, index?_of_eq hn, right])
  · exact State.refused_of_checkTable s p .setOutletConfig pl _ h rfl (by simpa [Code.lengthOk] using hl) (by
      simp [State.checkTable, State.checkRights, State.checkOutlet, outletArg, index?_of_eq hn, right, State.busy, busy])
  · classical
    have length : Code.setOutletConfig.lengthOk pl = true := by simpa [Code.lengthOk] using hl
    have named : outletArg pl = some n := index?_of_eq hn
    have check := checkTable_setOutletConfig idle named right
    have refused : ∀ r : Result, (s.served p .setOutletConfig pl).doSetOutletConfig n pl =
        refuse (s.served p .setOutletConfig pl) r → ∃ t, exec (.setOutletConfig p pl) s = .next t ∧
          PortAnswered s t p s.port 0x12 r [] ∧ AllKeptHeld s t p := fun r h' => by
      obtain ⟨t, row, kept, answered⟩ := State.answered_of_table (c := .setOutletConfig) (pl := pl) h idle rfl length check
        ((State.onOutlet_eq _ named _).trans h')
      exact ⟨t, row, answered, kept⟩
    by_cases standby : s.engine.state = .standby
    · by_cases undefined : CodeUndefined pl
      · have none : State.parseStructure pl = none := by
          rw [← Option.not_isSome_iff_eq_none, parseStructure_isSome]
          exact not_not.mpr undefined
        obtain ⟨t, row, answered, kept⟩ := refused .badIndex (by
          simp only [State.doSetOutletConfig, State.served_engine, if_neg (not_not.mpr standby), none])
        exact ⟨t, .badIndex, row, fun h' => absurd standby h', fun _ _ => rfl, fun _ h' => absurd undefined h',
          fun _ h' => absurd undefined h', answered, fun _ _ => kept⟩
      · have isSome := parseStructure_isSome pl |>.mpr undefined
        obtain ⟨raw, parsed⟩ := Option.isSome_iff_exists.mp isSome
        have refusal := structureRefusal_eq s n raw
        have settle : ∀ r : Result, s.structureRefusal n raw = some r → ∃ t, exec (.setOutletConfig p pl) s = .next t ∧
            PortAnswered s t p s.port 0x12 r [] ∧ AllKeptHeld s t p := fun r h' => refused r (by
          simp only [State.doSetOutletConfig, State.served_engine, if_neg (not_not.mpr standby), parsed]
          rw [show (s.served p .setOutletConfig pl).structureRefusal n raw = some r from h'])
        have verdict : ∃ t r, exec (.setOutletConfig p pl) s = .next t ∧
            ((ChangeRefused (s.outlet n) raw → r = .badState) ∧
              (¬ ChangeRefused (s.outlet n) raw → PoolRefused raw → r = .role) ∧
              (¬ ChangeRefused (s.outlet n) raw → ¬ PoolRefused raw → BindingTaken s n raw → r = .duplicate) ∧
              (¬ ChangeRefused (s.outlet n) raw → ¬ PoolRefused raw → ¬ BindingTaken s n raw → r = .ok ∨ r = .clamped)) ∧
            PortAnswered s t p s.port 0x12 r [] ∧ (r ≠ .ok → r ≠ .clamped → AllKeptHeld s t p) := by
          by_cases change : ChangeRefused (s.outlet n) raw
          · obtain ⟨t, row, answered, kept⟩ := settle _ (refusal.trans (if_pos change))
            exact ⟨t, _, row, by simp [change], answered, fun _ _ => kept⟩
          rw [if_neg change] at refusal
          by_cases pooled : PoolRefused raw
          · obtain ⟨t, row, answered, kept⟩ := settle _ (refusal.trans (if_pos pooled))
            exact ⟨t, _, row, by simp [change, pooled], answered, fun _ _ => kept⟩
          rw [if_neg pooled] at refusal
          by_cases taken : BindingTaken s n raw
          · obtain ⟨t, row, answered, kept⟩ := settle _ (refusal.trans (if_pos taken))
            exact ⟨t, _, row, by simp [change, pooled, taken], answered, fun _ _ => kept⟩
          obtain ⟨t, r, row, -, -, -, -, -, -, -, answered, result⟩ :=
            setOutletConfig_row h idle hl named right standby parsed (refusal.trans (if_neg taken))
          have either : r = .ok ∨ r = .clamped := by
            rw [result]
            exact (ite_eq_or_eq ..).symm
          exact ⟨t, r, row, by simp [change, pooled, taken, either], answered,
            fun ok clamped => absurd either (not_or.mpr ⟨ok, clamped⟩)⟩
        obtain ⟨t, r, row, cases, answered, kept⟩ := verdict
        refine ⟨t, r, row, fun h' => absurd standby h', fun _ h' => absurd h' undefined, fun _ _ raw' parsed' => ?_,
          fun _ _ => isSome, answered, kept⟩
        obtain rfl : raw = raw' := Option.some.inj (parsed.symm.trans parsed')
        exact cases
    · obtain ⟨t, row, answered, kept⟩ := refused .badState (by
        rw [State.doSetOutletConfig, State.served_engine, if_pos standby])
      exact ⟨t, .badState, row, fun _ => rfl, fun h' => absurd h' standby, fun h' => absurd h' standby,
        fun h' => absurd h' standby, answered, fun _ _ => kept⟩

end Sys2Proof.Machine
end

section
set_option Elab.async false
/-! PROOFS. READ OUTLET, READ BURSTS and READ RIGHTS (O12). -/

namespace Sys2Proof.Machine

open Sys2Proof.Statements

/-! ## The lengths of the payloads (10 section 10.3) -/

namespace State

theorem structurePayload_length (st : OutletStructure) : (structurePayload st).length = 14 := by
  simp [structurePayload, be8, be16]

theorem limitsPayload_length (l : Limits) : (limitsPayload l).length = 13 := by
  simp [limitsPayload, be8, be16]

theorem runtimePayload_length (s : State) (n : OutletId) : (s.runtimePayload n).length = 19 := by
  cases h : s.entryOf n <;> simp [runtimePayload, h, be8, be16]

theorem burstPayload_length (k : Nat) (e : BurstEntry) : (burstPayload k e).length = 13 := by
  cases h : e.state <;> simp [burstPayload, h, be8, be16]

theorem configPayload_length (c : PortConfig) : (configPayload c).length = 20 := by
  have window : ∀ w, (windowPayload w).length = 4 := fun _ => rfl
  have windows : List.map List.length (c.windows.toList.map windowPayload) = List.replicate 4 4 := by
    rw [List.map_map, List.eq_replicate_iff]
    exact ⟨by simp, fun n hn => by
      obtain ⟨w, -, rfl⟩ := List.mem_map.mp hn
      exact window w⟩
  simp [configPayload, windows, be8, be16, List.length_flatten]

theorem effectivePayload_length (s : State) (q : Port) : (s.effectivePayload q).length = 25 := by
  simp [effectivePayload, be8]

/-! ## READ BURSTS (R101, R174) -/

/-- The positions of READ BURSTS count the list from 1 on, and 0 as a start is taken as 1. -/
theorem mem_burstsFrom (s : State) (start k : Nat) (e : BurstEntry) :
    (k, e) ∈ s.burstsFrom start ↔ 1 ≤ k ∧ start ≤ k ∧ s.bursts[k - 1]? = some e := by
  simp only [burstsFrom, List.mem_filter, List.mem_map, Prod.exists, Prod.mk.injEq, decide_eq_true_iff,
    List.mem_zipIdx_iff_le_and_getElem?_sub]
  constructor
  · rintro ⟨⟨e', k', ⟨positive, there⟩, rfl, rfl⟩, from_⟩
    exact ⟨positive, by omega, there⟩
  · rintro ⟨positive, from_, there⟩
    exact ⟨⟨e, k, ⟨positive, there⟩, rfl, rfl⟩, by omega⟩

end State

/-! ## The three reads -/

section

variable {s : State} {p : Port}

/-- READ OUTLET of a part of an outlet the port reads. -/
theorem readOutlet_answers (h : Receives s p) (idle : TableIdle s) {n : OutletId} (right : (s.rights p n).read = true)
    {part : Byte} (known : part.toNat ≤ 2) {out : List Byte}
    (payload : (s.served p .readOutlet [BitVec.ofNat 8 n.val, part]).doReadOutlet n part.toNat =
      reply (s.served p .readOutlet [BitVec.ofNat 8 n.val, part]) out) :
    ∃ t, exec (.readOutlet p [BitVec.ofNat 8 n.val, part]) s = .next t ∧ AllKeptHeld s t p ∧
      PortAnswered s t p s.port 0x03 .ok out :=
  State.answered_of_table (c := .readOutlet) (pl := [BitVec.ofNat 8 n.val, part]) h idle rfl rfl
    (State.checkTable_none (outletCommand_readOutlet.checkRights_none (fun _ => known) (toNat_byte n (by decide)) right)
      idle.2.2)
    ((State.onOutlet_eq _ (State.outletArg_byte n _) fun m =>
      (s.served p .readOutlet [BitVec.ofNat 8 n.val, part]).doReadOutlet m part.toNat).trans payload)

/-- READ BURSTS from a position on. -/
theorem readBursts_answers (h : Receives s p) (idle : TableIdle s) (b : Byte) :
    ∃ t, exec (.readBursts p [b]) s = .next t ∧ AllKeptHeld s t p ∧
      PortAnswered s t p s.port 0x07 .ok (s.doReadBursts p b.toNat).payload :=
  State.answered_of_table (c := .readBursts) (pl := [b]) h idle rfl rfl (State.checkTable_none rfl idle.2.2) (by
    simp only [State.runTable, State.doReadBursts, u8At_cons_zero, State.served_rights]
    rfl)

theorem State.heard_effectivePayload (s : State) (p q : Port) : (s.heard p).effectivePayload q = s.effectivePayload q := by
  simp only [State.effectivePayload, State.heard_rights, State.heard_globals]

/-- READ RIGHTS of a port and a defined form: the right asked for a foreign port, then the payload. -/
theorem doReadRights_eq (t : State) (p q : Port) {form : Byte} (known : form.toNat ≤ 1) :
    t.doReadRights p [BitVec.ofNat 8 q.val, form] =
      if q ≠ p ∧ (t.globals p).admin = false then refuse t .denied
      else reply t (if form.toNat = 0 then State.configPayload (t.port q).config else t.effectivePayload q) := by
  simp only [State.doReadRights, u8At_cons_zero, u8At_cons_succ, index?_byte q (by decide), if_neg (Nat.not_lt.mpr known),
    Bool.not_eq_true]
  rfl

/-- READ RIGHTS of a port whose rights the sender may see. -/
theorem readRights_answers (h : Receives s p) {q : Port} (own : q = p ∨ (s.globals p).admin = true) {form : Byte}
    (known : form.toNat ≤ 1) :
    ∃ t, exec (.readRights p [BitVec.ofNat 8 q.val, form]) s = .next t ∧ AllKept s t ∧ PortAnswered s t p s.port 0x09 .ok
      (if form.toNat = 0 then State.configPayload (s.port q).config else s.effectivePayload q) :=
  State.answered_of_direct (c := .readRights) (pl := [BitVec.ofNat 8 q.val, form]) h nofun rfl rfl (by
    have allowed : ¬ (q ≠ p ∧ (s.globals p).admin = false) := by
      rcases own with own | own <;> simp [own]
    rw [State.runDirect, doReadRights_eq _ p q known, State.heard_globals, if_neg allowed, State.heard_config,
      State.heard_effectivePayload]
    rfl)

end

/-- Settles O12 (R1, R101, R146, R173, R174): each read answers the payload of its record, READ BURSTS the first two entries the port may read, READ RIGHTS of another port only with ADMIN. -/
theorem outletBurstAndRightsReadsAnswer : Obligations.OutletBurstAndRightsReadsAnswer := by
  intro s p h
  refine ⟨fun n idle right => ⟨?_, ?_, ?_⟩, fun b idle => ?_, fun q own => ⟨?_, ?_⟩, fun q form other admin hf => ?_⟩
  · obtain ⟨t, row, kept, answered⟩ := readOutlet_answers h idle right (part := 0) (by decide) rfl
    exact ⟨t, row, kept, answered, State.structurePayload_length _⟩
  · obtain ⟨t, row, kept, answered⟩ := readOutlet_answers h idle right (part := 1) (by decide) rfl
    exact ⟨t, row, kept, answered, State.limitsPayload_length _⟩
  · obtain ⟨t, row, kept, answered⟩ := readOutlet_answers h idle right (part := 2) (by decide) rfl
    exact ⟨t, row, kept, answered, State.runtimePayload_length _ _⟩
  · exact ⟨s.mem_burstsFrom b.toNat, State.burstPayload_length, readBursts_answers h idle b⟩
  · obtain ⟨t, row, kept, answered⟩ := readRights_answers h own (form := 0) (by decide)
    exact ⟨t, row, kept, answered, State.configPayload_length _⟩
  · obtain ⟨t, row, kept, answered⟩ := readRights_answers h own (form := 1) (by decide)
    exact ⟨t, row, kept, answered, s.effectivePayload_length q⟩
  · refine State.refused_of_direct s p .readRights [BitVec.ofNat 8 q.val, form] _ h nofun rfl rfl ?_
    rw [State.runDirect, doReadRights_eq _ p q hf, State.heard_globals, if_pos ⟨other, admin⟩]

end Sys2Proof.Machine
end

section
set_option Elab.async false
/-! PROOFS. The round timers (O45), quiet lines and the end of a response (O42), and the plant inputs (O50). -/

namespace Sys2Proof.Machine

open Sys2Proof.Statements

/-! ## The round timers (R27 to R29) -/

/-- Settles O45 (R27, R28, R161): an expiry restarts its timer and either asks for the table or counts a skipped round, for water with the pulse windows discarded. -/
theorem roundTimersAskForTheTableOrSkip : Obligations.RoundTimersAskForTheTableOrSkip := by
  refine fun s run => ⟨fun timer => ⟨s.steamTimer, ?_, ?_⟩, fun timer => ⟨s.waterTimer, ?_, ?_⟩⟩
  · exact congrArg Host.Outcome.next (if_pos ⟨run, Option.isSome_iff_ne_none.mpr timer⟩)
  · by_cases skip : s.engine.op = .selfTest ∨ s.arbiter.steamRequest = true
    · have skips : s.steamTimer =
          { s with steam := { s.steam with timer := some 2000, skipped := min (s.steam.skipped + 1) 65535 } } := if_pos skip
      rw [skips]
      exact ⟨⟨rfl, rfl, rfl⟩, ⟨rfl, rfl⟩, rfl, ⟨rfl, rfl, rfl, rfl, rfl⟩, ⟨rfl, rfl, rfl⟩, rfl, rfl, fun _ => ⟨rfl, rfl⟩,
        fun test request => absurd skip (by simp [test, request])⟩
    · have asks : s.steamTimer = { s with
          steam := { s.steam with timer := some 2000 }, arbiter := { s.arbiter with steamRequest := true } } := if_neg skip
      rw [asks]
      exact ⟨⟨rfl, rfl, rfl⟩, ⟨rfl, rfl⟩, rfl, ⟨rfl, rfl, rfl, rfl, rfl⟩, ⟨rfl, rfl, rfl⟩, rfl, rfl,
        fun h => absurd h skip, fun _ _ => ⟨rfl, rfl⟩⟩
  · exact congrArg Host.Outcome.next (if_pos ⟨run, Option.isSome_iff_ne_none.mpr timer⟩)
  · by_cases skip : s.engine.op = .selfTest ∨ s.arbiter.waterRequest = true
    · have skips : s.waterTimer = State.discardWindows
          { s with water := { s.water with timer := some 2000, skipped := min (s.water.skipped + 1) 65535 } } := if_pos skip
      rw [skips]
      exact ⟨⟨rfl, rfl, rfl⟩, ⟨rfl, rfl⟩, rfl, rfl, rfl, rfl, rfl, ⟨rfl, rfl, rfl⟩, rfl, rfl,
        fun _ => ⟨rfl, rfl, fun f => State.mapPulse_pulseChannel _ _ f⟩,
        fun test request => absurd skip (by simp [test, request])⟩
    · have asks : s.waterTimer = { s with
          water := { s.water with timer := some 2000 }, arbiter := { s.arbiter with waterRequest := true } } := if_neg skip
      rw [asks]
      exact ⟨⟨rfl, rfl, rfl⟩, ⟨rfl, rfl⟩, rfl, rfl, rfl, rfl, rfl, ⟨rfl, rfl, rfl⟩, rfl, rfl, fun h => absurd h skip,
        fun _ _ => ⟨rfl, rfl, rfl⟩⟩

/-! ## Quiet lines and the end of a response (R137, R139) -/

/-- A change of one port unit leaves everything else. -/
theorem State.modPort_allKept (s : State) (p : Port) (f : PortUnit → PortUnit) :
    AllKept s (s.modPort p f) ∧ OtherPortsKept s (s.modPort p f) p ∧ (s.modPort p f).port p = f (s.port p) :=
  ⟨State.allKept_of_parts, fun _ h => State.modPort_port_ne s f h, State.modPort_port_self s p f⟩

/-- The end of a response: the unit is ready for the next frame and a hold of the table by the port is over. -/
theorem State.sentResponse_eq (s : State) (p : Port) {r : Response} {sent : Bool}
    (h : (s.port p).outstanding = some (.answered r sent)) :
    s.sentResponse p = (s.modPort p fun u => { u with outstanding := none, receiver := .idle, quiet := 0 }).modArbiter
      fun a => { a with holder := if a.holder = some (.port p) then none else a.holder } := by
  by_cases held : s.arbiter.holder = some (.port p)
  · simp [State.sentResponse, h, held, State.modArbiter]
  · simp only [State.sentResponse, h, State.modPort_arbiter, State.modArbiter, held, if_false]
    rfl

/-- Settles O42 (R137, R139; log 6). -/
theorem quietLinesAndTheEndOfAResponse : Obligations.QuietLinesAndTheEndOfAResponse := by
  refine fun s p => ⟨fun bs frame => ?_, fun discard => ?_, fun r sent answered => ?_⟩
  · have row : exec (.interByteTimeout p) s =
        .next (s.modPort p fun u => { u with receiver := .idle, flags := u.flags.post .frameError }) := by
      change Host.Outcome.next (match (s.port p).receiver with
        | .inFrame _ => s.frameError p .idle
        | .idle | .discard => s) = _
      rw [frame, State.frameError, State.postTo, State.modPort_modPort]
    exact ⟨_, row, s.modPort_allKept p _⟩
  · exact ⟨_, congrArg Host.Outcome.next (if_pos discard), s.modPort_allKept p _⟩
  · refine ⟨_, congrArg Host.Outcome.next (s.sentResponse_eq p answered), ⟨rfl, rfl, rfl⟩, ⟨rfl, rfl⟩, ⟨rfl, rfl⟩, ⟨rfl, rfl, rfl, rfl, rfl⟩,
      ⟨rfl, rfl, rfl⟩, rfl, fun q h => ?_, ?_, rfl⟩
    · rw [State.modArbiter_port_kept, State.modPort_port_ne s _ h]
    · rw [State.modArbiter_port_kept, State.modPort_port_self]

/-! ## The plant inputs (R64 to R67) -/

namespace State

theorem modInput_input (s : State) (i : PlantInput) (f : InputPin → InputPin) : (s.modInput i f).input i = f (s.input i) := by
  cases i <;> rfl

theorem modInput_input_ne (s : State) {i j : PlantInput} (f : InputPin → InputPin) (h : j ≠ i) :
    (s.modInput i f).input j = s.input j := by
  cases i <;> cases j <;> first | rfl | exact absurd rfl h

theorem modInput_eq (s : State) (i : PlantInput) (f : InputPin → InputPin) :
    s.modInput i f = { s with inputs := (s.modInput i f).inputs } := by
  cases i <;> rfl

/-- A change of one input with a condition on the others and on the rest. -/
theorem modInput_onlyInput (s : State) (i : PlantInput) (f : InputPin → InputPin) : OnlyInput s (s.modInput i f) i :=
  ⟨modInput_eq s i f, fun _ h => modInput_input_ne s f h⟩

/-- A change of a trip input disarms its boiler where it is an assertion, posts CAPACITY_CHANGE, and leaves the rest. -/
theorem tripChanged_spec (s : State) (b : BoilerId) :
    (∀ q, (s.tripChanged b).port q = withEvent (s.port q) .capacityChange) ∧
    (∀ k, (s.tripChanged b).boiler k =
      if k = b ∧ s.tripAsserted b = true then { s.boiler k with armed := false } else s.boiler k) ∧
    s.tripChanged b = { s with
      steam := { s.steam with boilers := (s.tripChanged b).steam.boilers }, ports := (s.tripChanged b).ports } := by
  by_cases asserted : s.tripAsserted b = true
  · have disarms : s.tripChanged b = (s.modBoiler b fun r => { r with armed := false }).postAll .capacityChange := by
      rw [tripChanged, if_pos asserted]
    rw [disarms]
    refine ⟨fun q => postAll_port _ _ q, fun k => ?_, rfl⟩
    rw [postAll_boiler_kept, modBoiler_boiler]
    simp only [asserted, and_true]
  · have posts : s.tripChanged b = s.postAll .capacityChange := by
      rw [tripChanged, if_neg asserted]
    rw [posts]
    refine ⟨fun q => postAll_port _ _ q, fun k => ?_, rfl⟩
    rw [postAll_boiler_kept, if_neg fun h => asserted h.2]

/-- A debounced input has changed: a trip works on its boiler, LOWPR on the pool record, and every port has its event. -/
theorem inputChanged_spec (s : State) (i : PlantInput) :
    let t := s.inputChanged i
    (∀ q, t.port q = withEvent (s.port q) (if i = .lockout then .lockoutChange else .capacityChange)) ∧
    (∀ b : BoilerId, t.boiler b =
      if i = (if b = 0 then .trip0 else .trip1) ∧ (s.input i).asserted = true
      then { s.boiler b with armed := false } else s.boiler b) ∧
    t = { s with
      steam := { s.steam with
        boilers := t.steam.boilers, lowpr := if i = .lowpr then s.inputs.lowpr.asserted else s.steam.lowpr }
      ports := t.ports } := by
  cases i with
  | trip0 =>
    obtain ⟨ports, boilers, rest⟩ := s.tripChanged_spec 0
    refine ⟨ports, fun b => (boilers b).trans (if_congr ?_ rfl rfl), rest⟩
    match b with
    | 0 => simp [tripAsserted, input]
    | 1 => simp [tripAsserted, input]
  | trip1 =>
    obtain ⟨ports, boilers, rest⟩ := s.tripChanged_spec 1
    refine ⟨ports, fun b => (boilers b).trans (if_congr ?_ rfl rfl), rest⟩
    match b with
    | 0 => simp [tripAsserted, input]
    | 1 => simp [tripAsserted, input]
  | lowpr => exact ⟨fun q => postAll_port _ _ q, fun b => by match b with | 0 => rfl | 1 => rfl, rfl⟩
  | lockout => exact ⟨fun q => postAll_port _ _ q, fun b => by match b with | 0 => rfl | 1 => rfl, rfl⟩

end State

/-- Settles O50 (R54, R55, R64 to R67). -/
theorem plantInputsAreDebounced : Obligations.PlantInputsAreDebounced := by
  refine fun s i => ⟨fun low steady => ?_, fun low left differing => ?_, fun low left seen establishing => ?_,
    fun left differing => ?_, fun left seen establishing => ?_⟩
  · refine ⟨_, rfl, s.modInput_onlyInput i _, ?_⟩
    rw [State.modInput_input, InputPin.level, steady]
  · refine ⟨_, rfl, s.modInput_onlyInput i _, ?_⟩
    rw [State.modInput_input, InputPin.level, differing]
  · refine ⟨_, rfl, s.modInput_onlyInput i _, ?_⟩
    rw [State.modInput_input, InputPin.level, establishing]
  · have row : exec (.debounceExpiry i) s = .next ((s.modInput i InputPin.change).inputChanged i) := by
      change Host.Outcome.next (match (s.input i).debounce with
        | .differing _ => (s.modInput i InputPin.change).inputChanged i
        | .establishing _ _ | .steady => s) = _
      rw [differing]
    obtain ⟨ports, boilers, rest⟩ := (s.modInput i InputPin.change).inputChanged_spec i
    rw [State.modInput_input, InputPin.change] at boilers
    generalize (s.modInput i InputPin.change).inputChanged i = t at *
    have inputs : t.inputs = (s.modInput i InputPin.change).inputs := (congrArg State.inputs rest :)
    have input : ∀ j, t.input j = (s.modInput i InputPin.change).input j := fun j => by
      cases j <;> simp only [State.input, inputs]
    have frame : t = { s with
        steam := { s.steam with
          boilers := t.steam.boilers
          lowpr := if i = .lowpr then !(s.input .lowpr).asserted else s.steam.lowpr }
        inputs := t.inputs, ports := t.ports } := by
      rw [inputs]
      exact rest.trans (by cases i <;> rfl)
    refine ⟨t, row, ?_, fun j h => ?_, fun q => ?_, fun b => (boilers b).trans ?_, (congrArg State.steam frame :),
      ⟨(congrArg State.outlets frame :), (congrArg State.profile frame :), (congrArg State.bursts frame :)⟩,
      ⟨(congrArg State.channels frame :), (congrArg State.branches frame :)⟩, (congrArg State.water frame :),
      ⟨(congrArg State.stores frame :), (congrArg State.reference frame :), (congrArg State.ratio frame :),
        (congrArg State.pulse frame :), (congrArg State.scan frame :)⟩, (congrArg State.store frame :), (congrArg State.pending frame :),
      (congrArg State.engine frame :), (congrArg State.arbiter frame :)⟩
    · rw [input, State.modInput_input, InputPin.change]
    · rw [input, State.modInput_input_ne s _ h]
    · rw [ports]
      cases i <;> rfl
    · simp only [Bool.not_eq_true']
      cases i <;> rfl
  · have row : exec (.inputEstablished i) s = .next ((s.modInput i fun x => x.establish seen).inputEstablished i) := by
      change Host.Outcome.next (match (s.input i).debounce with
        | .establishing _ seen => (s.modInput i fun x => x.establish seen).inputEstablished i
        | .differing _ | .steady => s) = _
      rw [establishing]
    refine ⟨_, row, ?_⟩
    have kept : ∀ (t : State) (j : PlantInput), (t.inputEstablished i).input j = t.input j := fun t j => by
      cases i <;> cases j <;> rfl
    refine ⟨?_, ?_, fun j h => ?_, ?_, ?_, ?_⟩
    · rw [kept, State.modInput_input]; rfl
    · rw [kept, State.modInput_input]; rfl
    · rw [kept, State.modInput_input_ne s _ h]
    all_goals cases i <;> trivial

end Sys2Proof.Machine
end

section
set_option Elab.async false
/-! PROOFS. A step with an empty queue: the event that is due, or one millisecond (O2). -/

namespace Sys2Proof.Machine

open Sys2Proof.Statements

namespace State

/-! ## One millisecond (log 1, log 6) -/

theorem elapseAlways_channel (s : State) (n : OutletId) : s.elapseAlways.channel n = (s.channel n).elapse := by
  simp [elapseAlways, channel]

theorem elapseAlways_branch (s : State) (b : BranchId) :
    s.elapseAlways.branch b = { s.branch b with timer := tickTimer (s.branch b).timer } := by
  simp [elapseAlways, branch]

theorem elapseAlways_port (s : State) (p : Port) : s.elapseAlways.port p = (s.port p).elapse (s.silenceRuns p) := by
  simp [elapseAlways, port]

theorem elapseAlways_input (s : State) (i : PlantInput) : s.elapseAlways.input i = (s.input i).elapse := by
  cases i <;> rfl

/-- The round timers and the burst times run in RUN alone. -/
theorem elapseRun_eq (s : State) :
    s.elapseRun = { s with
      steam := { s.steam with timer := if s.engine.state = .run then tickTimer s.steam.timer else s.steam.timer }
      water := { s.water with timer := if s.engine.state = .run then tickTimer s.water.timer else s.water.timer }
      bursts := if s.engine.state = .run then s.bursts.map BurstEntry.elapse else s.bursts } := by
  by_cases run : s.engine.state = .run
  · simp only [elapseRun, run, if_true]
  · simp only [elapseRun, run, if_false]

theorem elapseOperation_eq (s : State) :
    s.elapseOperation = { s with engine := { s.engine with
      opLeft := s.engine.opLeft -
        if s.arbiter.holder = some .selfTest ∨ s.arbiter.holder = some .store then 1 else 0 } } := by
  by_cases held : s.arbiter.holder = some .selfTest ∨ s.arbiter.holder = some .store
  · simp only [elapseOperation, held, if_true, modEngine]
  · simp only [elapseOperation, held, if_false, Nat.sub_zero]

/-- A port's hold of the table ends at a release; nobody else's does. -/
theorem releasePort_eq (s : State) :
    s.releasePort = { s with arbiter := { s.arbiter with
      holder := if ∃ p, s.arbiter.holder = some (.port p) then none else s.arbiter.holder } } := by
  by_cases held : ∃ p, s.arbiter.holder = some (.port p)
  · obtain ⟨p, holder⟩ := held
    have released : s.atRelease = true := by rw [atRelease, holder]; rfl
    rw [releasePort, if_pos released, if_pos ⟨p, holder⟩]
    rfl
  · rw [if_neg held, releasePort]
    split
    next released =>
      have free : s.arbiter.holder = none := by
        cases holder : s.arbiter.holder with
        | none => rfl
        | some r =>
          rw [atRelease, holder] at released
          cases r with
          | port p => exact absurd ⟨p, holder⟩ held
          | spe | wpe | selfTest | store => cases released
      rw [free, modArbiter]
    next => rfl

theorem elapse_bursts (e : BurstEntry) : e.elapse = { e with state := match e.state with
    | .queued waited => .queued (min (waited + 1) (e.waitLimit * 1000))
    | .cleared left rank => .cleared (left - 1) rank } := by
  unfold BurstEntry.elapse
  cases e.state <;> rfl

theorem elapse_channel (c : Channel) : c.elapse = { c with
    dwellLeft := c.dwellLeft - (if c.phase = .warming then 1 else 0), holdLeft := c.holdLeft.map fun n => n - 1 } := by
  unfold Channel.elapse
  by_cases warming : c.phase = .warming
  · rw [if_pos warming, if_pos warming]
    rfl
  · rw [if_neg warming, if_neg warming]
    rfl

theorem elapse_port (s : State) (p : Port) : (s.port p).elapse (s.silenceRuns p) = { s.port p with
    quiet := min ((s.port p).quiet + 1) 6
    outstanding := match (s.port p).outstanding with
      | some (.answered r false) => some (.answered r true)
      | o => o
    silence := if (s.port p).link = .active ∧ s.engine.state ≠ .service
      then (s.port p).silence.map fun tm => { tm with left := tm.left - 1 } else (s.port p).silence } := by
  have silence : (if s.silenceRuns p = true then (s.port p).silence.map fun t => { t with left := t.left - 1 }
        else (s.port p).silence) =
      if (s.port p).link = .active ∧ s.engine.state ≠ .service
      then (s.port p).silence.map fun tm => { tm with left := tm.left - 1 } else (s.port p).silence := by
    cases timer : (s.port p).silence with
    | none => simp
    | some tm => simp [silenceRuns, timer]
  rw [PortUnit.elapse, silence]
  rfl

end State

/-- Settles O2 (log 1, log 2, log 5, log 6): with nothing queued the first due event happens, and with none due every timer that runs has one millisecond less to go. -/
theorem emptyQueueStepIsTheDueEventOrOneMillisecond : Obligations.EmptyQueueStepIsTheDueEventOrOneMillisecond := by
  intro s empty
  have idles : step s = idle s := by rw [step, empty]
  refine ⟨fun i l due => ?_, fun due => ?_⟩
  · rw [idles, idle, due]
  · have elapses : step s = .next s.elapse := by rw [idles, idle, due]
    have shape : s.elapse = s.elapseAlways.elapseRun.elapseOperation.releasePort := rfl
    rw [State.releasePort_eq, State.elapseOperation_eq, State.elapseRun_eq] at shape
    generalize s.elapse = t at *
    subst shape
    refine ⟨_, elapses, ⟨rfl, rfl, rfl⟩, fun run => ⟨?_, ?_, ?_⟩, fun away => ⟨?_, ?_, ?_⟩, fun n => ?_, fun b => ?_, rfl, rfl,
      fun i => s.elapseAlways_input i, fun q => ?_, rfl, rfl, rfl, rfl, rfl, rfl, rfl⟩
    · simp only [State.elapseAlways, run, if_true]
      rfl
    · simp only [State.elapseAlways, run, if_true]
      rfl
    · simp only [State.elapseAlways, run, if_true]
      exact List.map_congr_left fun e _ => State.elapse_bursts e
    · simp only [State.elapseAlways, away, if_false]
    · simp only [State.elapseAlways, away, if_false]
    · simp only [State.elapseAlways, away, if_false]
    · exact (s.elapseAlways_channel n).trans (State.elapse_channel _)
    · exact s.elapseAlways_branch b
    · exact (s.elapseAlways_port q).trans (s.elapse_port q)

end Sys2Proof.Machine
end

section
set_option Elab.async false
/-! PROOFS. The boundary of a channel's period (O54) and the drive timers and ticks (O55). -/

namespace Sys2Proof.Machine

open Sys2Proof.Statements

/-! ## Starts (R120, R122, R124) -/

theorem outputOf_pos {d : Nat} (h : 0 < d) : outputOf d = .on := if_neg (Nat.pos_iff_ne_zero.mp h)

/-- A start with a duty above 0, in the words of the statements. -/
theorem startedChannel_eq (c : Channel) {d : Nat} (h : 0 < d) :
    State.startedChannel d c = started { c with inUse := c.copy, position := 0 } d := by
  unfold State.startedChannel started
  by_cases forced : c.override = none
  · simp only [forced, Option.isSome_none, Bool.false_eq_true, if_false, ne_eq, not_true_eq_false, outputOf_pos h]
    rfl
  · simp only [Option.isSome_iff_ne_none, ne_eq, forced, not_false_eq_true, if_true, outputOf_pos h]

namespace State

/-- A channel that starts restarts its branch's settle timer. -/
theorem startNow_spec (s : State) (n : OutletId) (h : 0 < formedDuty s n) :
    (s.startNow n).channel n = started { s.channel n with inUse := (s.channel n).copy, position := 0 } (formedDuty s n) ∧
    (∀ m, m ≠ n → (s.startNow n).channel m = s.channel m) ∧
    BranchRestarted s (s.startNow n) (s.channel n).copy.branch := by
  refine ⟨?_, fun m hm => ?_, fun k => ?_⟩
  · rw [startNow, restartSettle_channel, modChannel_channel_self, dutyNow_eq_formedDuty, startedChannel_eq _ h]
  · rw [startNow, restartSettle_channel, modChannel_channel_ne s _ hm]
  · rw [startNow, restartSettle_branch, modChannel_branch_kept]

theorem mustQueue_iff (s : State) (b : BranchId) :
    s.mustQueue b = true ↔ (s.branch b).timer ≠ none ∨ (s.branch b).queue ≠ [] := by
  rw [mustQueue, Bool.or_eq_true, Option.isSome_iff_ne_none, Bool.not_eq_true', ← Bool.not_eq_true, List.isEmpty_iff]

/-! ## The boundary of each phase (R117 to R122, R125, R131) -/

/-- A channel whose next period is another one off. -/
def quietChannel (c : Channel) : Channel := { c with inUse := c.copy, position := 0, applied := 0, output := .off }

theorem boundaryOff_quiet (s : State) (n : OutletId)
    (h : ¬ ((s.channel n).condition = .active ∧ (s.channel n).pendingAbsence = false ∧ 0 < formedDuty s n)) :
    s.boundaryOff n = s.modChannel n quietChannel := by
  simp only [boundaryOff, dutyNow_eq_formedDuty, Bool.not_eq_true]
  rw [if_neg h]
  rfl

theorem boundaryOff_queued (s : State) (n : OutletId) {b : BranchId} (branch : (s.channel n).copy.branch = some b)
    (h : (s.channel n).condition = .active ∧ (s.channel n).pendingAbsence = false ∧ 0 < formedDuty s n)
    (wait : s.mustQueue b = true) :
    s.boundaryOff n = (s.modChannel n fun c => { quietChannel c with phase := .settleWait }).modBranch b
      fun r => { r with queue := r.queue ++ [n] } := by
  simp only [boundaryOff, dutyNow_eq_formedDuty, Bool.not_eq_true, branch]
  rw [if_pos h, if_pos wait]
  rfl

theorem boundaryOff_starts (s : State) (n : OutletId)
    (h : (s.channel n).condition = .active ∧ (s.channel n).pendingAbsence = false ∧ 0 < formedDuty s n)
    (free : ∀ b, (s.channel n).copy.branch = some b → ¬ s.mustQueue b = true) : s.boundaryOff n = s.startNow n := by
  simp only [boundaryOff, dutyNow_eq_formedDuty, Bool.not_eq_true]
  rw [if_pos h]
  cases branch : (s.channel n).copy.branch with
  | none => rfl
  | some b => exact if_neg (free b branch)

/-- A channel that runs on with a duty keeps its branch; without one it closes. -/
theorem boundaryRunning_closes (s : State) (n : OutletId) (h : formedDuty s n = 0) :
    s.boundaryRunning n = (s.modChannel n fun c => { quietChannel c with phase := .off, dwellLeft := 0 }).restartSettle
      (s.channel n).copy.branch := by
  simp only [boundaryRunning, dutyNow_eq_formedDuty]
  rw [if_pos h]
  rfl

theorem boundaryRunning_held (s : State) (n : OutletId) (h : 0 < formedDuty s n) (forced : (s.channel n).override ≠ none) :
    s.boundaryRunning n = s.modChannel n fun c =>
      { c with inUse := c.copy, position := 0, phase := .held, applied := formedDuty s n, output := .on, dwellLeft := 0 } := by
  simp only [boundaryRunning, dutyNow_eq_formedDuty, outputOf_pos h]
  rw [if_neg (Nat.pos_iff_ne_zero.mp h), if_pos (Option.isSome_iff_ne_none.mpr forced)]

theorem boundaryRunning_warming (s : State) (n : OutletId) (h : 0 < formedDuty s n) (free : (s.channel n).override = none)
    (phase : (s.channel n).phase = .warming) :
    s.boundaryRunning n = s.modChannel n fun c =>
      { c with inUse := c.copy, position := 0, applied := warmed c.copy (formedDuty s n)
               output := if warmed c.copy (formedDuty s n) = 0 then .off else .on } := by
  simp only [boundaryRunning, dutyNow_eq_formedDuty, free]
  rw [if_neg (Nat.pos_iff_ne_zero.mp h), if_neg nofun, if_pos phase]
  rfl

theorem boundaryRunning_cycling (s : State) (n : OutletId) (h : 0 < formedDuty s n) (free : (s.channel n).override = none)
    (phase : (s.channel n).phase ≠ .warming) :
    s.boundaryRunning n = s.modChannel n fun c =>
      { c with inUse := c.copy, position := 0, phase := .cycling, applied := formedDuty s n, output := .on } := by
  simp only [boundaryRunning, dutyNow_eq_formedDuty, free, outputOf_pos h]
  rw [if_neg (Nat.pos_iff_ne_zero.mp h), if_neg nofun, if_neg phase]

/-- The drive parts that a boundary of one channel leaves: every other channel. -/
theorem boundaryRunning_channel_ne (s : State) {n m : OutletId} (hm : m ≠ n) :
    (s.boundaryRunning n).channel m = s.channel m := by
  rcases Nat.eq_zero_or_pos (formedDuty s n) with none | some
  · rw [boundaryRunning_closes s n none, restartSettle_channel, modChannel_channel_ne s _ hm]
  · by_cases forced : (s.channel n).override = .none
    · by_cases phase : (s.channel n).phase = .warming
      · rw [boundaryRunning_warming s n some forced phase, modChannel_channel_ne s _ hm]
      · rw [boundaryRunning_cycling s n some forced phase, modChannel_channel_ne s _ hm]
    · rw [boundaryRunning_held s n some forced, modChannel_channel_ne s _ hm]

theorem boundaryOff_channel_ne (s : State) {n m : OutletId} (hm : m ≠ n) : (s.boundaryOff n).channel m = s.channel m := by
  by_cases start : (s.channel n).condition = .active ∧ (s.channel n).pendingAbsence = false ∧ 0 < formedDuty s n
  · by_cases wait : ∃ b, (s.channel n).copy.branch = some b ∧ s.mustQueue b = true
    · obtain ⟨b, branch, wait⟩ := wait
      rw [boundaryOff_queued s n branch start wait, modBranch_channel_kept, modChannel_channel_ne s _ hm]
    · rw [boundaryOff_starts s n start fun b branch must => wait ⟨b, branch, must⟩]
      exact (s.startNow_spec n start.2.2).2.1 m hm
  · rw [boundaryOff_quiet s n start, modChannel_channel_ne s _ hm]

theorem boundaryWaiting_quiet (s : State) (n : OutletId) (h : 0 < formedDuty s n) :
    s.boundaryWaiting n = s.modChannel n quietChannel := by
  simp only [boundaryWaiting, dutyNow_eq_formedDuty]
  exact if_neg (Nat.pos_iff_ne_zero.mp h)

theorem boundaryWaiting_leaves (s : State) (n : OutletId) (h : formedDuty s n = 0) :
    s.boundaryWaiting n = (s.modChannel n fun c => { quietChannel c with phase := .off }).leaveQueues n := by
  simp only [boundaryWaiting, dutyNow_eq_formedDuty]
  exact if_pos h

theorem boundaryWaiting_channel_ne (s : State) {n m : OutletId} (hm : m ≠ n) :
    (s.boundaryWaiting n).channel m = s.channel m := by
  rcases Nat.eq_zero_or_pos (formedDuty s n) with none | some
  · rw [boundaryWaiting_leaves s n none, leaveQueues, mapBranches_channel_kept, modChannel_channel_ne s _ hm]
  · rw [boundaryWaiting_quiet s n some, modChannel_channel_ne s _ hm]

/-- A boundary in the safe pattern shows the pattern line of the structure copy; from on to off is a close. -/
theorem boundaryPattern_spec (s : State) (n : OutletId) :
    let c := s.channel n
    let d := patternOf c (s.engine.state = .safe)
    let t := s.boundaryPattern n
    t.channel n = { c with inUse := c.copy, position := 0, applied := d, output := if d = 0 then .off else .on } ∧
    (if c.applied ≠ 0 ∧ d = 0 then BranchRestarted s t c.copy.branch else t.branches = s.branches) ∧
    ∀ m, m ≠ n → t.channel m = s.channel m := by
  intro c d t
  by_cases closes : c.applied ≠ 0 ∧ d = 0
  · have shown : t = (s.modChannel n fun c =>
        { c with inUse := c.copy, position := 0, applied := d, output := outputOf d }).restartSettle c.copy.branch := by
      simp only [t, boundaryPattern, patternDuty_eq_patternLine]
      exact if_pos closes
    rw [if_pos closes, shown]
    refine ⟨?_, fun k => ?_, fun m hm => ?_⟩
    · rw [restartSettle_channel, modChannel_channel_self]
      rfl
    · rw [restartSettle_branch, modChannel_branch_kept]
    · rw [restartSettle_channel, modChannel_channel_ne s _ hm]
  · have shown : t = s.modChannel n fun c =>
        { c with inUse := c.copy, position := 0, applied := d, output := outputOf d } := by
      simp only [t, boundaryPattern, patternDuty_eq_patternLine]
      exact if_neg closes
    rw [if_neg closes, shown]
    exact ⟨modChannel_channel_self .., rfl, fun m hm => modChannel_channel_ne s _ hm⟩

theorem boundary_running (s : State) (n : OutletId)
    (h : (s.channel n).phase = .warming ∨ (s.channel n).phase = .cycling ∨ (s.channel n).phase = .held) :
    s.boundary n = s.boundaryRunning n := by
  rcases h with h | h | h <;> rw [boundary, h]

theorem boundary_channel_ne (s : State) {n m : OutletId} (hm : m ≠ n) : (s.boundary n).channel m = s.channel m := by
  cases phase : (s.channel n).phase <;> simp only [boundary, phase]
  case off => exact boundaryOff_channel_ne s hm
  case settleWait => exact boundaryWaiting_channel_ne s hm
  case warming | cycling | held => exact boundaryRunning_channel_ne s hm
  case test => exact modChannel_channel_ne s _ hm
  case safePattern => exact (s.boundaryPattern_spec n).2.2 m hm

end State

/-- Settles O54 (R117 to R122, R125, R129, R131, R135; log 36, log 46): what each phase makes of its boundary. -/
theorem periodBoundaryFormsTheDuty : Obligations.PeriodBoundaryFormsTheDuty := by
  intro s n started c d begun quiet startable mustWait
  have row : exec (.periodBoundary n) s = .next (s.boundary n) := congrArg Host.Outcome.next (if_neg (by simp [started]))
  have drive : State.DriveOnly s (s.boundary n) := State.boundary_driveOnly s n
  refine ⟨_, row, fun off idle => ?_, fun off start b branch wait => ?_, fun off start free => ?_, fun waiting some => ?_,
    fun waiting none => ?_, fun running none => ?_, fun running some forced => ?_, fun running some free => ?_,
    fun warming some free => ?_, fun test => ?_, fun pattern => ?_, fun m hm => s.boundary_channel_ne hm, ?_, ?_, ?_, ?_, ?_,
    ?_, ?_⟩
  · have quiets : s.boundary n = s.modChannel n State.quietChannel := by
      rw [State.boundary, show (s.channel n).phase = .off from off]
      exact s.boundaryOff_quiet n idle
    rw [quiets]
    exact ⟨State.modChannel_channel_self .., rfl⟩
  · have queues : s.boundary n = (s.modChannel n fun c => { State.quietChannel c with phase := .settleWait }).modBranch b
        fun r => { r with queue := r.queue ++ [n] } := by
      rw [State.boundary, show (s.channel n).phase = .off from off]
      exact s.boundaryOff_queued n branch start ((s.mustQueue_iff b).mpr wait)
    rw [queues]
    exact ⟨by rw [State.modBranch_channel_kept, State.modChannel_channel_self]; rfl, State.modBranch_branch_self ..,
      fun k hk => State.modBranch_branch_ne _ _ hk⟩
  · have starts : s.boundary n = s.startNow n := by
      rw [State.boundary, show (s.channel n).phase = .off from off]
      exact s.boundaryOff_starts n start fun b branch must => free b branch ((s.mustQueue_iff b).mp must)
    rw [starts]
    obtain ⟨channel, -, branches⟩ := s.startNow_spec n start.2.2
    exact ⟨channel, branches⟩
  · have quiets : s.boundary n = s.modChannel n State.quietChannel := by
      rw [State.boundary, show (s.channel n).phase = .settleWait from waiting]
      exact s.boundaryWaiting_quiet n some
    rw [quiets]
    exact ⟨State.modChannel_channel_self .., rfl⟩
  · have leaves : s.boundary n = (s.modChannel n fun c => { State.quietChannel c with phase := .off }).leaveQueues n := by
      rw [State.boundary, show (s.channel n).phase = .settleWait from waiting]
      exact s.boundaryWaiting_leaves n none
    rw [leaves]
    exact ⟨by rw [State.leaveQueues, State.mapBranches_channel_kept, State.modChannel_channel_self]; rfl,
      fun b => State.mapBranches_branch _ _ b⟩
  · rw [s.boundary_running n running, s.boundaryRunning_closes n none]
    exact ⟨by rw [State.restartSettle_channel, State.modChannel_channel_self]; rfl,
      fun k => by rw [State.restartSettle_branch, State.modChannel_branch_kept]⟩
  · rw [s.boundary_running n running, s.boundaryRunning_held n some forced]
    exact ⟨State.modChannel_channel_self .., rfl⟩
  · have cold : (s.channel n).phase ≠ .warming := by
      rcases running with h | h <;> simp [show (s.channel n).phase = _ from h]
    rw [s.boundary_running n (.inr running), s.boundaryRunning_cycling n some free cold]
    exact ⟨State.modChannel_channel_self .., rfl⟩
  · rw [s.boundary_running n (.inl warming), s.boundaryRunning_warming n some free warming]
    exact ⟨State.modChannel_channel_self .., rfl⟩
  · have turns : s.boundary n = s.modChannel n fun c => { c with inUse := c.copy, position := 0 } := by
      rw [State.boundary, show (s.channel n).phase = .test from test]
    rw [turns]
    exact ⟨State.modChannel_channel_self .., rfl⟩
  · have shows_ : s.boundary n = s.boundaryPattern n := by
      rw [State.boundary, show (s.channel n).phase = .safePattern from pattern]
    rw [shows_]
    obtain ⟨channel, branches, -⟩ := s.boundaryPattern_spec n
    exact ⟨channel, branches⟩
  · exact ⟨drive.get State.outlets, drive.get State.profile, drive.get State.bursts⟩
  · exact ⟨drive.get State.steam, drive.get State.water⟩
  · exact ⟨drive.get State.stores, drive.get State.reference, drive.get State.ratio, drive.get State.pulse,
      drive.get State.scan⟩
  · exact ⟨drive.get State.inputs, drive.get State.store, drive.get State.pending⟩
  · exact drive.get State.engine
  · exact drive.get State.arbiter
  · exact drive.get State.ports

end Sys2Proof.Machine
end

section
set_option Elab.async false
/-! PROOFS. The drive timers and ticks (O55): the dwell, the start queue at a settle timer's expiry, and the 10 ms tick. -/

namespace Sys2Proof.Machine

open Sys2Proof.Statements

/-! ## The start queue (R124, R125; log 27) -/

/-- A channel as the head of the start queue leaves it: OFF with a duty of 0, started otherwise. -/
def settled (s : State) (m : OutletId) : Channel :=
  if formedDuty s m = 0 then { s.channel m with phase := .off, applied := 0, output := .off }
  else started { s.channel m with inUse := (s.channel m).copy, position := 0 } (formedDuty s m)

theorem settled_copy (s : State) (m : OutletId) : (settled s m).copy = (s.channel m).copy := by
  unfold settled started
  split
  · rfl
  · split
    · rfl
    · split <;> rfl

theorem restarted_restarted (r : Branch) : restarted (restarted r) = restarted r := by
  by_cases interval : r.interval = 0 <;> simp [restarted, interval, Function.comp_def]

theorem restarted_queue (r : Branch) (q : List OutletId) : { restarted r with queue := q } = restarted { r with queue := q } :=
  rfl

/-- The duty of a channel does not look at what a start or a sending off writes. -/
theorem formedDuty_congr {s t : State} {m : OutletId} (arbiter : t.arbiter = s.arbiter)
    (override : (t.channel m).override = (s.channel m).override) (ceiling : (t.channel m).ceiling = (s.channel m).ceiling)
    (grant : (t.channel m).grant = (s.channel m).grant) (trim : (t.channel m).trim = (s.channel m).trim)
    (copy : (t.channel m).copy = (s.channel m).copy) : formedDuty t m = formedDuty s m := by
  simp only [formedDuty, arbiter, override, ceiling, grant, trim, copy]

/-- A start writes the same over a channel that has just started. -/
theorem started_started (c : Channel) (d : Nat) :
    started { started { c with inUse := c.copy, position := 0 } d with
      inUse := (started { c with inUse := c.copy, position := 0 } d).copy, position := 0 } d =
    started { c with inUse := c.copy, position := 0 } d := by
  by_cases forced : c.override = none
  · by_cases cold : c.copy.coldTime < c.closedTime ∧ 0 < c.copy.dwell <;> simp [started, forced, cold]
  · simp [started, forced]

/-- A start keeps what the duty is formed from. -/
theorem started_kept (c : Channel) (d : Nat) :
    (started c d).override = c.override ∧ (started c d).ceiling = c.ceiling ∧ (started c d).grant = c.grant ∧
    (started c d).trim = c.trim ∧ (started c d).copy = c.copy := by
  unfold started
  split
  · exact ⟨rfl, rfl, rfl, rfl, rfl⟩
  · split <;> exact ⟨rfl, rfl, rfl, rfl, rfl⟩

/-- A channel that has left the queue would leave it in the same way again. -/
theorem settled_settled {s t : State} {m : OutletId} (arbiter : t.arbiter = s.arbiter)
    (h : t.channel m = s.channel m ∨ t.channel m = settled s m) :
    formedDuty t m = formedDuty s m ∧ settled t m = settled s m := by
  rcases h with h | h
  · have duty : formedDuty t m = formedDuty s m := by apply formedDuty_congr arbiter <;> rw [h]
    exact ⟨duty, by rw [settled, duty, h, settled]⟩
  · by_cases none : formedDuty s m = 0
    · rw [settled, if_pos none] at h
      have duty : formedDuty t m = formedDuty s m := by apply formedDuty_congr arbiter <;> rw [h]
      exact ⟨duty, by rw [settled, duty, if_pos none, h, settled, if_pos none]⟩
    · rw [settled, if_neg none] at h
      have duty : formedDuty t m = formedDuty s m := by
        obtain ⟨override, ceiling, grant, trim, copy⟩ := started_kept
          { s.channel m with inUse := (s.channel m).copy, position := 0 } (formedDuty s m)
        apply formedDuty_congr arbiter <;> rw [h] <;> assumption
      exact ⟨duty, by rw [settled, duty, if_neg none, h, started_started, settled, if_neg none]⟩

namespace State

/-- The head of a start queue leaves it: it is sent off or starts. -/
def leaveQueue (s : State) (b : BranchId) (n : OutletId) (rest : List OutletId) : State :=
  let s1 := s.modBranch b fun r => { r with queue := rest }
  if formedDuty s n = 0 then s1.modChannel n fun c => { c with phase := .off, applied := 0, output := .off }
  else s1.startNow n

theorem takeQueue_cons (s : State) (b : BranchId) (n : OutletId) (rest : List OutletId) :
    s.takeQueue b (n :: rest) =
      if formedDuty s n = 0 ∨ (s.branch b).interval = 0 then (s.leaveQueue b n rest).takeQueue b rest
      else s.leaveQueue b n rest := by
  by_cases none : formedDuty s n = 0
  · simp only [takeQueue, dutyNow_eq_formedDuty, leaveQueue, none, true_or, if_true]
  · by_cases interval : (s.branch b).interval = 0 <;>
      simp only [takeQueue, dutyNow_eq_formedDuty, leaveQueue, none, interval, or_true, or_self, if_true, if_false]

/-- The records after the head has left: its own channel, and the branches with the settle timer that a start restarts. -/
theorem leaveQueue_spec (s : State) (b : BranchId) (n : OutletId) (rest : List OutletId) :
    let t := s.leaveQueue b n rest
    t.channel n = settled s n ∧ (∀ m, m ≠ n → t.channel m = s.channel m) ∧ t.arbiter = s.arbiter ∧
    ∀ k, t.branch k =
      (let r := if k = b then { s.branch k with queue := rest } else s.branch k
       if formedDuty s n ≠ 0 ∧ (s.channel n).copy.branch = some k then restarted r else r) := by
  intro t
  have queue : ∀ k, (s.modBranch b fun r => { r with queue := rest }).branch k =
      if k = b then { s.branch k with queue := rest } else s.branch k := fun k => by
    rw [modBranch_branch]
    by_cases own : k = b
    · rw [if_pos own, if_pos own, own]
    · rw [if_neg own, if_neg own]
  by_cases none : formedDuty s n = 0
  · have sends : t = (s.modBranch b fun r => { r with queue := rest }).modChannel n
        fun c => { c with phase := .off, applied := 0, output := .off } := if_pos none
    rw [sends, settled, if_pos none]
    refine ⟨modChannel_channel_self .., fun m hm => modChannel_channel_ne _ _ hm, rfl, fun k => ?_⟩
    rw [modChannel_branch_kept, queue]
    simp only [none, ne_eq, not_true_eq_false, false_and, if_false]
  · have starts : t = (s.modBranch b fun r => { r with queue := rest }).startNow n := if_neg none
    rw [starts, settled, if_neg none]
    obtain ⟨channel, others, branches⟩ := (s.modBranch b fun r => { r with queue := rest }).startNow_spec n
      (Nat.pos_of_ne_zero none)
    refine ⟨channel, others, (startNow_driveOnly _ n).get State.arbiter, fun k => ?_⟩
    rw [branches k, queue]
    simp only [none, ne_eq, not_false_eq_true, true_and]
    rfl

/-- The duties and the outcome of the queue after its head has left are those of before. -/
theorem leaveQueue_settled (s : State) (b : BranchId) (n : OutletId) (rest : List OutletId) (m : OutletId) :
    formedDuty (s.leaveQueue b n rest) m = formedDuty s m ∧ settled (s.leaveQueue b n rest) m = settled s m := by
  obtain ⟨channel, others, arbiter, -⟩ := s.leaveQueue_spec b n rest
  refine settled_settled arbiter ?_
  by_cases own : m = n
  · exact .inr (own ▸ channel)
  · exact .inl (others m own)

theorem leaveQueue_interval (s : State) (b : BranchId) (n : OutletId) (rest : List OutletId) (k : BranchId) :
    ((s.leaveQueue b n rest).branch k).interval = (s.branch k).interval := by
  rw [(s.leaveQueue_spec b n rest).2.2.2 k]
  dsimp only
  split <;> split <;> rfl

/-- The channels that are not in the queue stay. -/
theorem takeQueue_channel_of_not_mem (b : BranchId) (q : List OutletId) : ∀ (s : State) {m : OutletId}, m ∉ q →
    (s.takeQueue b q).channel m = s.channel m := by
  induction q with
  | nil => exact fun s m _ => rfl
  | cons n rest ih =>
    intro s m away
    obtain ⟨own, behind⟩ := not_or.mp (List.mem_cons.not.mp away)
    have leaves := (s.leaveQueue_spec b n rest).2.1 m own
    rw [takeQueue_cons]
    split
    · exact (ih _ behind).trans leaves
    · exact leaves

/-- A channel that has settled stays so however often the queue still names it. -/
theorem takeQueue_channel_settled (b : BranchId) (q : List OutletId) : ∀ (s t : State) {m : OutletId},
    t.arbiter = s.arbiter → t.channel m = settled s m → (t.takeQueue b q).channel m = settled s m := by
  induction q with
  | nil => exact fun s t m _ h => h
  | cons n rest ih =>
    intro s t m arbiter h
    obtain ⟨channel, others, kept, -⟩ := t.leaveQueue_spec b n rest
    have leaves : (t.leaveQueue b n rest).channel m = settled s m := by
      by_cases own : m = n
      · subst own
        exact channel.trans (settled_settled arbiter (.inr h)).2
      · exact (others m own).trans h
    rw [takeQueue_cons]
    split
    · exact ih s _ (kept.trans arbiter) leaves
    · exact leaves

/-- The heads with a duty of 0 leave the queue, OFF. -/
theorem takeQueue_channel_sentOff (b : BranchId) (q : List OutletId) : ∀ s : State,
    ∀ m ∈ q.takeWhile (fun m => decide (formedDuty s m = 0)), (s.takeQueue b q).channel m = settled s m := by
  induction q with
  | nil => exact fun s m h => absurd h List.not_mem_nil
  | cons n rest ih =>
    intro s m h
    by_cases none : formedDuty s n = 0
    · rw [List.takeWhile_cons_of_pos (by simpa using none)] at h
      rw [takeQueue_cons, if_pos (.inl none)]
      obtain ⟨channel, -, arbiter, -⟩ := s.leaveQueue_spec b n rest
      by_cases own : m = n
      · subst own
        exact takeQueue_channel_settled b rest s _ arbiter channel
      · have later := ih (s.leaveQueue b n rest) m
        simp only [s.leaveQueue_settled b n rest] at later
        exact later ((List.mem_cons.mp h).resolve_left own)
    · rw [List.takeWhile_cons_of_neg (by simpa using none)] at h
      exact absurd h List.not_mem_nil

/-- A queue of heads with a duty of 0 empties. -/
theorem takeQueue_branch_of_all (b : BranchId) (q : List OutletId) : ∀ s : State, (s.branch b).queue = q →
    q.dropWhile (fun m => decide (formedDuty s m = 0)) = [] → ∀ k, (s.takeQueue b q).branch k =
      if k = b then { s.branch k with queue := [] } else s.branch k := by
  induction q with
  | nil =>
    intro s queue _ k
    by_cases own : k = b
    · subst own
      rw [if_pos rfl, takeQueue, ← queue]
    · rw [if_neg own]
      rfl
  | cons n rest ih =>
    intro s queue all k
    have none : formedDuty s n = 0 := by
      by_contra some
      rw [List.dropWhile_cons_of_neg (by simpa using some)] at all
      cases all
    rw [List.dropWhile_cons_of_pos (by simpa using none)] at all
    obtain ⟨-, -, -, branches⟩ := s.leaveQueue_spec b n rest
    simp only [none, ne_eq, not_true_eq_false, false_and, if_false] at branches
    have later := ih (s.leaveQueue b n rest) (by rw [branches b, if_pos rfl]) (by
      simpa only [s.leaveQueue_settled b n rest] using all) k
    rw [takeQueue_cons, if_pos (.inl none), later, branches k]
    by_cases own : k = b
    · simp only [own, if_true]
    · simp only [own, if_false]

/-- With an interval the first head with a duty starts, and those behind it wait on. -/
theorem takeQueue_of_interval (b : BranchId) (q : List OutletId) : ∀ s : State, (s.branch b).interval ≠ 0 →
    ∀ m rest, q.dropWhile (fun m => decide (formedDuty s m = 0)) = m :: rest →
      (s.takeQueue b q).channel m = settled s m ∧
      (∀ k ∈ rest, k ≠ m → k ∉ q.takeWhile (fun m => decide (formedDuty s m = 0)) →
        (s.takeQueue b q).channel k = s.channel k) ∧
      ∀ k, (s.takeQueue b q).branch k =
        (let r := if k = b then { s.branch k with queue := rest } else s.branch k
         if (s.channel m).copy.branch = some k then restarted r else r) := by
  induction q with
  | nil => intro s _ m rest h; cases h
  | cons n q ih =>
    intro s interval m rest h
    obtain ⟨channel, others, arbiter, branches⟩ := s.leaveQueue_spec b n q
    by_cases none : formedDuty s n = 0
    · rw [List.dropWhile_cons_of_pos (by simpa using none)] at h
      simp only [none, ne_eq, not_true_eq_false, false_and, if_false] at branches
      have waits : ¬ formedDuty s m = 0 := by
        have := List.head?_dropWhile_not (fun m => decide (formedDuty s m = 0)) q
        rw [h] at this
        simpa using this
      have own : m ≠ n := fun e => waits (e ▸ none)
      have later := ih (s.leaveQueue b n q) (by rwa [s.leaveQueue_interval b n q b]) m rest
      simp only [s.leaveQueue_settled b n q] at later
      obtain ⟨start, behind, branch⟩ := later h
      rw [takeQueue_cons, if_pos (.inl none)]
      refine ⟨start, fun k hk ne away => ?_, fun k => ?_⟩
      · rw [List.takeWhile_cons_of_pos (by simpa using none), List.mem_cons, not_or] at away
        exact (behind k hk ne away.2).trans (others k away.1)
      · rw [branch k, others m own, branches k]
        by_cases named : k = b
        · simp only [named, if_true]
        · simp only [named, if_false]
    · rw [List.dropWhile_cons_of_neg (by simpa using none), List.cons.injEq] at h
      obtain ⟨rfl, rfl⟩ := h
      rw [takeQueue_cons, if_neg (not_or.mpr ⟨none, interval⟩)]
      refine ⟨channel, fun k _ ne _ => others k ne, fun k => ?_⟩
      rw [branches k]
      simp only [none, ne_eq, not_false_eq_true, true_and]

/-- Without an interval every head leaves, and each start restarts its branch's timer. -/
theorem takeQueue_of_no_interval (b : BranchId) (q : List OutletId) : ∀ s : State, (s.branch b).interval = 0 →
    (s.branch b).queue = q →
    (∀ m ∈ q, (s.takeQueue b q).channel m = settled s m) ∧
    ∀ k, (s.takeQueue b q).branch k =
      (let r := if k = b then { s.branch k with queue := [] } else s.branch k
       if ∃ m ∈ q, formedDuty s m ≠ 0 ∧ (s.channel m).copy.branch = some k then restarted r else r) := by
  induction q with
  | nil =>
    intro s _ queue
    refine ⟨fun m h => absurd h List.not_mem_nil, fun k => ?_⟩
    rw [takeQueue, if_neg (fun h => by obtain ⟨m, h, -⟩ := h; exact absurd h List.not_mem_nil)]
    by_cases own : k = b
    · subst own
      rw [if_pos rfl, ← queue]
    · rw [if_neg own]
  | cons n q ih =>
    intro s interval queue
    obtain ⟨channel, others, arbiter, branches⟩ := s.leaveQueue_spec b n q
    have copy : ∀ m, ((s.leaveQueue b n q).channel m).copy = (s.channel m).copy := fun m => by
      by_cases own : m = n
      · rw [own, channel, settled_copy]
      · rw [others m own]
    have waiting : ((s.leaveQueue b n q).branch b).queue = q := by
      rw [branches b]
      dsimp only
      split
      · rw [if_pos rfl]
        rfl
      · rw [if_pos rfl]
    obtain ⟨members, later⟩ := ih (s.leaveQueue b n q) (by rwa [s.leaveQueue_interval b n q b]) waiting
    simp only [s.leaveQueue_settled b n q, copy] at members later
    rw [takeQueue_cons, if_pos (.inr interval)]
    refine ⟨fun m hm => ?_, fun k => ?_⟩
    · rcases List.mem_cons.mp hm with rfl | behind
      · exact takeQueue_channel_settled b q s _ arbiter channel
      · exact members m behind
    · rw [later k, branches k]
      dsimp only
      have starts : (∃ m ∈ n :: q, formedDuty s m ≠ 0 ∧ (s.channel m).copy.branch = some k) ↔
          (formedDuty s n ≠ 0 ∧ (s.channel n).copy.branch = some k) ∨
          ∃ m ∈ q, formedDuty s m ≠ 0 ∧ (s.channel m).copy.branch = some k := List.exists_mem_cons_iff _ _ _
      by_cases first : formedDuty s n ≠ 0 ∧ (s.channel n).copy.branch = some k
      · rw [if_pos first, if_pos (starts.mpr (.inl first))]
        by_cases own : k = b
        · simp only [own, if_true, restarted_queue, restarted_restarted, ite_self]
        · simp only [own, if_false, restarted_restarted, ite_self]
      · rw [if_neg first, if_congr (starts.trans (or_iff_right first)) rfl rfl]
        by_cases own : k = b
        · simp only [own, if_true]
        · simp only [own, if_false]

end State

/-! ## The tick (R117, R120, R126, R129) -/

/-- Whether an output is on apart from test pulses. -/
def drives (c : Channel) : Bool := decide (c.output = .on ∧ c.phase ≠ .test)

/-- The closed time and the feedback watch of a tick, before the test pulses and the position. -/
def watched (fb : Bool) (c : Channel) : Channel :=
  let c1 := State.tickClosed c (drives c)
  if drives c = true ∧ c.condition = .active then State.tickWatch c1 fb else c1

theorem tickClosed_eq (c : Channel) (on : Bool) : State.tickClosed c on =
    { c with closedTime := (State.tickClosed c on).closedTime, closedTicks := (State.tickClosed c on).closedTicks } := by
  unfold State.tickClosed
  split
  · rfl
  · split <;> rfl

theorem tickWatch_eq (c : Channel) (fb : Bool) : State.tickWatch c fb =
    { c with watchCount := (State.tickWatch c fb).watchCount, watchLatch := (State.tickWatch c fb).watchLatch } := by
  unfold State.tickWatch
  split
  · split <;> rfl
  · split <;> rfl

theorem watched_eq (fb : Bool) (c : Channel) : watched fb c =
    { c with
      closedTime := (State.tickClosed c (drives c)).closedTime, closedTicks := (State.tickClosed c (drives c)).closedTicks
      watchCount := (watched fb c).watchCount, watchLatch := (watched fb c).watchLatch } := by
  unfold watched
  dsimp only
  split
  · rw [tickWatch_eq, tickClosed_eq]
  · rw [tickClosed_eq]

/-- A tick, field by field. -/
theorem tickChannel_eq (fb : Bool) (c : Channel) : State.tickChannel fb c =
    { c with
      closedTime := (State.tickClosed c (drives c)).closedTime, closedTicks := (State.tickClosed c (drives c)).closedTicks
      watchCount := (watched fb c).watchCount, watchLatch := (watched fb c).watchLatch
      position := min (c.position + 1) c.inUse.period
      testTick := if c.phase = .test then (c.testTick + 1) % 50 else c.testTick
      finding := if c.phase = .test ∧ c.testTick = 0 then some fb else c.finding
      output :=
        if c.phase = .test then if (c.testTick + 1) % 50 = 0 then .on else .off
        else if c.applied ≤ min (c.position + 1) c.inUse.period ∧ c.applied < c.inUse.period then .off else c.output } := by
  have ticks : State.tickChannel fb c =
      State.tickPosition (if c.phase = .test then State.tickTest (watched fb c) fb else watched fb c) := rfl
  rw [ticks, watched_eq]
  by_cases test : c.phase = .test
  · simp [test, State.tickTest, State.tickPosition]
  · simp [test, State.tickPosition]

theorem tickClosed_on (c : Channel) : (State.tickClosed c true).closedTime = 0 ∧ (State.tickClosed c true).closedTicks = 0 :=
  ⟨rfl, rfl⟩

/-- Without an on output the closed time counts on, in hundredths of a second. -/
theorem tickClosed_off (c : Channel) (ticks : c.closedTicks < 100) (time : c.closedTime < 65535) :
    (State.tickClosed c false).closedTime * 100 + (State.tickClosed c false).closedTicks =
      c.closedTime * 100 + c.closedTicks + 1 := by
  unfold State.tickClosed
  rw [if_neg Bool.false_ne_true]
  split
  · dsimp only
    omega
  · dsimp only
    omega

theorem watched_idle (fb : Bool) (c : Channel) (h : drives c = false ∨ c.condition ≠ .active) :
    (watched fb c).watchCount = c.watchCount ∧ (watched fb c).watchLatch = c.watchLatch := by
  have off : ¬ (drives c = true ∧ c.condition = .active) := fun on => by
    rcases h with h | h
    · rw [on.1] at h
      cases h
    · exact h on.2
  rw [watched, if_neg off, tickClosed_eq]
  exact ⟨rfl, rfl⟩

/-- While an ACTIVE output is on, feedback clears the watch; without it the count goes on unless the loss is latched. -/
theorem watched_on (fb : Bool) (c : Channel) (on : drives c = true) (active : c.condition = .active) :
    (watched fb c).watchLatch = (c.watchLatch && !fb) ∧
    (watched fb c).watchCount = if fb then 0 else if c.watchLatch then c.watchCount else min (c.watchCount + 1) 100 := by
  rw [watched, if_pos ⟨on, active⟩, tickClosed_eq, State.tickWatch]
  cases fb <;> by_cases latch : c.watchLatch = true <;> simp [latch]

/-! ## The events of a drive channel -/

theorem State.modChannel_onlyChannel (s : State) (n : OutletId) (f : Channel → Channel) :
    OnlyChannel s (s.modChannel n f) n := by
  simp [OnlyChannel, State.modChannel, State.channel]

/-- Settles O55 (R117, R120, R122, R124 to R126, R129; log 22, log 27). -/
theorem driveTimersAndTicks : Obligations.DriveTimersAndTicks := by
  refine fun s n b fb => ⟨fun warming => ?_, fun timer => ?_, fun started => ?_⟩
  · exact ⟨_, congrArg Host.Outcome.next (if_pos warming), s.modChannel_onlyChannel n _, State.modChannel_channel_self ..⟩
  · have row : exec (.settleTimerExpiry b) s = .next (s.settleExpiry b) :=
      congrArg Host.Outcome.next (if_pos (Option.isSome_iff_ne_none.mpr timer))
    have drive := State.settleExpiry_driveOnly s b
    have sentOff : ∀ m, formedDuty s m = 0 → settled s m = { s.channel m with phase := .off, applied := 0, output := .off } :=
      fun m none => if_pos none
    have begun : ∀ m, formedDuty s m ≠ 0 → settled s m =
        started { s.channel m with inUse := (s.channel m).copy, position := 0 } (formedDuty s m) := fun m some => if_neg some
    refine ⟨_, row, ⟨drive.get State.outlets, drive.get State.profile, drive.get State.bursts⟩,
      ⟨drive.get State.steam, drive.get State.water⟩,
      ⟨drive.get State.stores, drive.get State.reference, drive.get State.ratio, drive.get State.pulse,
        drive.get State.scan⟩, ⟨drive.get State.inputs, drive.get State.store, drive.get State.pending⟩,
      drive.get State.engine, drive.get State.arbiter, drive.get State.ports,
      fun m away => State.takeQueue_channel_of_not_mem b _ _ away, ?_⟩
    intro q idle off begins
    obtain ⟨u, expires, queue, interval, branch, settles⟩ : ∃ u : State, s.settleExpiry b = u.takeQueue b q ∧
        (u.branch b).queue = q ∧ (u.branch b).interval = (s.branch b).interval ∧
        (∀ k, u.branch k = if k = b then { s.branch k with timer := none } else s.branch k) ∧
        ∀ m, formedDuty u m = formedDuty s m ∧ settled u m = settled s m ∧ u.channel m = s.channel m := by
      refine ⟨s.modBranch b fun r => { r with timer := none }, rfl, ?_, ?_, fun k => ?_, fun m => ⟨rfl, rfl, rfl⟩⟩
      · rw [State.modBranch_branch_self]
      · rw [State.modBranch_branch_self]
      · rw [State.modBranch_branch]
        by_cases own : k = b
        · rw [if_pos own, if_pos own, own]
        · rw [if_neg own, if_neg own]
    rw [expires]
    have emptied : ∀ k (l : List OutletId), (if k = b then { u.branch k with queue := l } else u.branch k) =
        if k = b then { s.branch k with timer := none, queue := l } else s.branch k := fun k l => by
      rw [branch k]
      by_cases own : k = b
      · simp only [own, if_true]
      · simp only [own, if_false]
    have sent := u.takeQueue_channel_sentOff b q
    have all := u.takeQueue_branch_of_all b q queue
    have first := u.takeQueue_of_interval b q
    have each := u.takeQueue_of_no_interval b q
    simp only [settles, interval, emptied] at sent all first each
    refine ⟨fun m hm => (sent m hm).trans (sentOff m ?_), all, fun runs m rest h => ?_, fun stopped => ?_⟩
    · simpa using List.mem_takeWhile_imp hm
    · obtain ⟨start, behind, branches⟩ := first runs m rest h
      have waits : ¬ formedDuty s m = 0 := by
        have head := List.head?_dropWhile_not (fun m => decide (formedDuty s m = 0)) q
        rw [h] at head
        simpa using head
      refine ⟨start.trans (begun m waits), behind, fun k => (branches k).trans ?_⟩
      by_cases own : k = b
      · simp only [own, if_true, idle]
      · simp only [own, if_false, idle]
    · obtain ⟨members, branches⟩ := each stopped queue
      refine ⟨fun m hm => (members m hm).trans ?_, branches⟩
      by_cases none : formedDuty s m = 0
      · rw [if_pos none, sentOff m none]
      · rw [if_neg none, begun m none]
  · refine ⟨_, congrArg Host.Outcome.next (if_neg (by simp [started])), s.modChannel_onlyChannel n _, ?_⟩
    intro c on d
    have ticks : d = State.tickChannel fb c := State.modChannel_channel_self ..
    rw [tickChannel_eq] at ticks
    have drive : drives c = on := rfl
    rw [drive] at ticks
    clear_value d
    subst ticks
    refine ⟨rfl, rfl, rfl, rfl, rfl, rfl, rfl, fun away => ⟨if_neg away, if_neg fun h => away h.1⟩,
      fun test => ⟨if_pos test, ?_, ?_⟩, fun h => ?_, fun h => ?_, watched_idle fb c, fun h active fed => ?_,
      fun h active lost => ?_⟩
    · simp only [show c.phase = .test from test, if_true]
    · simp only [show c.phase = .test from test, true_and]
    · rw [h]
      exact tickClosed_on c
    · rw [h]
      exact fun ticks time => tickClosed_off c ticks time
    · obtain ⟨latch, count⟩ := watched_on fb c h active
      rw [fed] at latch count
      exact ⟨by simpa [fed] using latch, by simpa [fed] using count⟩
    · obtain ⟨latch, count⟩ := watched_on fb c h active
      rw [lost] at latch count
      exact ⟨by simpa [lost] using latch, by simpa [lost] using count⟩

end Sys2Proof.Machine
end

section
set_option Elab.async false
/-! PROOFS. The timers of the burst list and the removals they raise (O57). -/

namespace Sys2Proof.Machine

open Sys2Proof.Statements

namespace State

/-! ## The removal of an entry (R107) -/

theorem TableWork.plantKept {s t : State} (h : TableWork s t) : PlantKept s t ∧ ArbiterKept s t := by
  unfold TableWork at h
  rw [h]
  exact ⟨⟨⟨rfl, rfl⟩, ⟨rfl, rfl, rfl, rfl, rfl⟩, ⟨rfl, rfl, rfl⟩, rfl, rfl⟩, rfl⟩

theorem entryRemoved_removeEntry {s : State} {n : OutletId} {e : BurstEntry} (notice : BurstEntry → Event)
    (h : s.entryOf n = some e) : EntryRemoved s (s.removeEntry n notice) n e (notice e) := by
  obtain ⟨outlet, channel⟩ := removeEntry_some notice h
  refine ⟨(removeEntry_bursts s n notice e h).trans (withoutEntry_eq_dropEntry _ _).symm, outlet, channel, fun q => ?_⟩
  rw [removeEntry_port, entryEvent, h]
  by_cases own : q = e.requester
  · subst own
    rw [if_pos rfl]
    exact if_pos rfl
  · rw [if_neg own]
    exact if_neg (Ne.symm own)

/-! ## An entry changed in its place -/

/-- A change of an entry that keeps whose it is and its place in the clearance order. -/
structure EntryTouch (n : OutletId) (f : BurstEntry → BurstEntry) : Prop where
  outlet : ∀ x, (f x).outlet = x.outlet
  requester : ∀ x, (f x).requester = x.requester
  cleared : ∀ x, (f x).isCleared = x.isCleared
  rank : ∀ x, (f x).rank = x.rank

section

variable {n : OutletId} {f : BurstEntry → BurstEntry}

theorem EntryTouch.list_outlet (touch : EntryTouch n f) (x : BurstEntry) :
    (if x.outlet = n then f x else x).outlet = x.outlet := by
  split
  · exact touch.outlet x
  · rfl

theorem modEntry_outlets_map (touch : EntryTouch n f) (s : State) :
    (s.modEntry n f).bursts.map BurstEntry.outlet = s.bursts.map BurstEntry.outlet := by
  rw [modEntry, List.map_map]
  exact List.map_congr_left fun x _ => touch.list_outlet x

theorem modEntry_entryOf (touch : EntryTouch n f) (s : State) {e : BurstEntry} (h : s.entryOf n = some e) :
    (s.modEntry n f).entryOf n = some (f e) := by
  have same : ((fun x : BurstEntry => decide (x.outlet = n)) ∘ fun x => if x.outlet = n then f x else x) =
      fun x => decide (x.outlet = n) := by
    funext x
    simp only [Function.comp_apply, touch.list_outlet x]
  rw [entryOf, modEntry, List.find?_map, same]
  change Option.map _ (s.entryOf n) = _
  rw [h, Option.map_some, if_pos (entryOf_outlet h)]

/-- Without the entry the list is the one that it would be without the change. -/
theorem withoutEntry_modEntry (touch : EntryTouch n f) (s : State) {e : BurstEntry} (h : e.outlet = n) :
    withoutEntry (s.modEntry n f).bursts (f e) = withoutEntry s.bursts e := by
  have rest : ((s.modEntry n f).bursts.filter fun x => decide (x.outlet ≠ (f e).outlet)) =
      s.bursts.filter fun x => decide (x.outlet ≠ e.outlet) := by
    have same : ((fun x : BurstEntry => decide (x.outlet ≠ (f e).outlet)) ∘ fun x => if x.outlet = n then f x else x) =
        fun x => decide (x.outlet ≠ e.outlet) := by
      funext x
      simp only [Function.comp_apply, touch.list_outlet x, touch.outlet e]
    rw [modEntry, List.filter_map, same]
    refine (List.map_congr_left fun x hx => ?_).trans (List.map_id _)
    have other : x.outlet ≠ n := by simpa [h] using (List.mem_filter.mp hx).2
    exact if_neg other
  rw [withoutEntry_eq_dropEntry, withoutEntry_eq_dropEntry, dropEntry, dropEntry, rest, touch.cleared, touch.rank]

/-- The removal of a touched entry is that of the entry as it was. -/
theorem entryRemoved_of_modEntry (touch : EntryTouch n f) {s t : State} {e : BurstEntry} {notice : Event}
    (h : e.outlet = n) (removed : EntryRemoved (s.modEntry n f) t n (f e) notice) : EntryRemoved s t n e notice := by
  obtain ⟨bursts, outlet, channel, ports⟩ := removed
  rw [touch.cleared] at outlet channel
  rw [touch.requester] at ports
  exact ⟨bursts.trans (withoutEntry_modEntry touch s h), outlet, channel, ports⟩

theorem modEntry_nextRemoval (touch : EntryTouch n f) (s : State) : (s.modEntry n f).nextRemoval = s.nextRemoval := by
  have same : ((fun x : BurstEntry => (s.arbiter.removals.map Prod.fst).contains x.outlet) ∘
      fun x => if x.outlet = n then f x else x) = fun x => (s.arbiter.removals.map Prod.fst).contains x.outlet := by
    funext x
    simp only [Function.comp_apply, touch.list_outlet x]
  simp only [nextRemoval, modEntry_arbiter]
  rw [modEntry, List.find?_map, same]
  cases s.bursts.find? fun x => (s.arbiter.removals.map Prod.fst).contains x.outlet with
  | none => rfl
  | some x => simp only [Option.map_some, touch.list_outlet x]

theorem modEntry_tableFree (touch : EntryTouch n f) (s : State) : (s.modEntry n f).tableFree = s.tableFree := by
  simp only [tableFree, nextWrite, modEntry_nextRemoval touch s]
  rfl

end

/-- The removal of a burst entry touches nothing but its outlet, the list and the requester's flags. -/
theorem removeEntry_frameKept (s : State) (n : OutletId) (notice : BurstEntry → Event) :
    OthersKept s (s.removeEntry n notice) n ∧ PlantKept s (s.removeEntry n notice) ∧
    (s.removeEntry n notice).branches = s.branches ∧ ArbiterKept s (s.removeEntry n notice) :=
  have work := (removeEntry_tableWork s n notice).plantKept
  ⟨fun m hm => removeEntry_others s n m notice hm, work.1, removeEntry_get s n notice State.branches, work.2⟩

/-! ## A timer that runs out (R108, R109) -/

/-- The time of a CLEARED entry stands at 0. -/
def outOfTime (e : BurstEntry) : BurstEntry :=
  match e.state with
  | .cleared _ r => { e with state := .cleared 0 r }
  | .queued _ => e

/-- The wait of a QUEUED entry stands at its limit. -/
def outOfWait (e : BurstEntry) : BurstEntry :=
  match e.state with
  | .queued _ => { e with state := .queued (e.waitLimit * 1000) }
  | .cleared _ _ => e

theorem entryTouch_outOfTime (n : OutletId) : EntryTouch n outOfTime := by
  constructor <;> intro x <;> unfold outOfTime <;> cases h : x.state <;> simp [BurstEntry.isCleared, BurstEntry.rank, h]

theorem entryTouch_outOfWait (n : OutletId) : EntryTouch n outOfWait := by
  constructor <;> intro x <;> unfold outOfWait <;> cases h : x.state <;> simp [BurstEntry.isCleared, BurstEntry.rank, h]

/-- A removal raised for a touched entry: carried out with the table free, among the pending ones otherwise. -/
theorem raiseRemoval_modEntry {n : OutletId} {f : BurstEntry → BurstEntry} (touch : EntryTouch n f) {s : State}
    {e : BurstEntry} (entry : s.entryOf n = some e) {k : RemovalKind} {notice : BurstEntry → Event}
    (applies : ∀ u : State, u.entryOf n = some (f e) → u.applyRemoval n k = u.removeEntry n notice) :
    let t := (s.modEntry n f).raiseRemoval n k
    OthersKept s t n ∧ PlantKept s t ∧ t.branches = s.branches ∧
    (s.tableFree = true → EntryRemoved s t n e (notice (f e)) ∧ ArbiterKept s t) ∧
    (s.tableFree = false → t.outlets = s.outlets ∧ t.channels = s.channels ∧ t.ports = s.ports ∧
      (n, k) ∈ t.arbiter.removals ∧ t.bursts.map BurstEntry.outlet = s.bursts.map BurstEntry.outlet) := by
  intro t
  have there := modEntry_entryOf touch s entry
  have plant : PlantKept s (s.modEntry n f) := ⟨⟨rfl, rfl⟩, ⟨rfl, rfl, rfl, rfl, rfl⟩, ⟨rfl, rfl, rfl⟩, rfl, rfl⟩
  cases free : s.tableFree with
  | true =>
    have removes : t = (s.modEntry n f).removeEntry n notice :=
      (if_pos ((modEntry_tableFree touch s).trans free)).trans (applies _ there)
    obtain ⟨others, kept, branches, arbiter⟩ := (s.modEntry n f).removeEntry_frameKept n notice
    rw [removes]
    exact ⟨others, kept, branches, fun _ => ⟨entryRemoved_of_modEntry touch (entryOf_outlet entry)
      (entryRemoved_removeEntry notice there), arbiter⟩, nofun⟩
  | false =>
    have held : ¬ (s.modEntry n f).tableFree = true := by rw [modEntry_tableFree touch s, free]; decide
    have raises : t = if s.arbiter.removals.contains (n, k) then s.modEntry n f
        else (s.modEntry n f).modArbiter fun a => { a with removals := a.removals ++ [(n, k)] } := if_neg held
    have outlets := modEntry_outlets_map touch s
    rw [raises]
    split
    next known =>
      exact ⟨fun _ _ => ⟨rfl, rfl⟩, plant, rfl, nofun, fun _ => ⟨rfl, rfl, rfl, List.contains_iff_mem.mp known, outlets⟩⟩
    next =>
      exact ⟨fun _ _ => ⟨rfl, rfl⟩, plant, rfl, nofun, fun _ =>
        ⟨rfl, rfl, rfl, List.mem_append_right _ (List.mem_singleton_self _), outlets⟩⟩

theorem applyRemoval_duration {s : State} {n : OutletId} {e : BurstEntry} (entry : s.entryOf n = some e)
    (cleared : e.isCleared = true) : s.applyRemoval n .duration = s.removeEntry n fun e => .burstEnded e.outlet := by
  simp only [applyRemoval, entry, cleared, if_true]

theorem applyRemoval_waitLimit {s : State} {n : OutletId} {e : BurstEntry} (entry : s.entryOf n = some e)
    (queued : e.isCleared = false) :
    s.applyRemoval n .waitLimit = s.removeEntry n fun e => .burstRefused e.outlet .timeout := by
  simp only [applyRemoval, entry, queued, Bool.false_eq_true, if_false]

/-! ## A removal that waited (R107 to R109) -/

/-- A write that may be applied has the table free for it. -/
theorem mayApply_release {s : State} {w : PendingWrite} (h : s.mayApply w = true) :
    s.releasePort = { s with arbiter := { s.arbiter with holder := none } } := by
  have released : s.atRelease = true := by
    rw [mayApply, Bool.and_eq_true, Bool.and_eq_true] at h
    exact h.1.1
  rw [releasePort, if_pos released]
  rfl

/-- The table released and the first pending removal gone from the arbiter. -/
def released (s : State) (rest : List (OutletId × RemovalKind)) : State :=
  { s with arbiter := { s.arbiter with holder := none, removals := rest } }

/-- The first pending removal leaves the arbiter and is applied. -/
theorem writeRemoval_head {s : State} {n : OutletId} {k : RemovalKind} {rest : List (OutletId × RemovalKind)}
    (may : s.mayApply (.removal n) = true) (head : s.arbiter.removals = (n, k) :: rest) :
    exec (.applyBurstRemoval n) s = .next ((s.released rest).applyRemoval n k) := by
  refine congrArg Host.Outcome.next ((if_pos may).trans ?_)
  rw [mayApply_release may, writeRemoval]
  simp [head, modArbiter, released]

end State

/-- Settles O57 (R106 to R109; log 8): a timer that runs out removes its entry at once, or when the table is free and only if the entry is still in the state the timer ran in. -/
theorem burstTimersRemoveEntries : Obligations.BurstTimersRemoveEntries := by
  refine ⟨fun s n e kept entry => ⟨fun run cleared => ?_, fun run queued => ?_, fun k rest may head => ?_⟩,
    fun s n k rest absent may head => ?_⟩
  · have row : exec (.burstDurationExpiry n) s = .next ((s.modEntry n State.outOfTime).raiseRemoval n .duration) := by
      simp only [exec, execBurstDurationExpiry, entry, run, cleared, and_self, if_true]
      rfl
    have touch := State.entryTouch_outOfTime n
    have facts := State.raiseRemoval_modEntry touch entry (k := .duration) (notice := fun e => .burstEnded e.outlet)
      fun u there => State.applyRemoval_duration there ((touch.cleared e).trans cleared)
    rw [touch.outlet, State.entryOf_outlet entry] at facts
    exact ⟨_, row, facts⟩
  · have row : exec (.burstWaitExpiry n) s = .next ((s.modEntry n State.outOfWait).raiseRemoval n .waitLimit) := by
      simp only [exec, execBurstWaitExpiry, entry, run, queued, Bool.false_eq_true, not_false_eq_true, and_self, if_true]
      rfl
    have touch := State.entryTouch_outOfWait n
    have facts := State.raiseRemoval_modEntry touch entry (k := .waitLimit)
      (notice := fun e => .burstRefused e.outlet .timeout)
      fun u there => State.applyRemoval_waitLimit there ((touch.cleared e).trans queued)
    rw [touch.outlet, State.entryOf_outlet entry] at facts
    exact ⟨_, row, facts⟩
  · have row := State.writeRemoval_head may head
    have gone : (s.released rest).entryOf n = some e := entry
    have applied : ∀ notice, (s.released rest).applyRemoval n k =
        (s.released rest).removeEntry n notice →
        ∃ t, exec (.applyBurstRemoval n) s = .next t ∧ OthersKept s t n ∧ PlantKept s t ∧ t.branches = s.branches ∧
          t.arbiter = { s.arbiter with holder := none, removals := rest } ∧ EntryRemoved s t n e (notice e) :=
      fun notice h => by
        obtain ⟨others, plant, branches, arbiter⟩ := (s.released rest).removeEntry_frameKept n notice
        exact ⟨_, row.trans (congrArg Host.Outcome.next h), others, plant, branches, arbiter,
          State.entryRemoved_removeEntry notice gone⟩
    have dropped : (s.released rest).applyRemoval n k =
        s.released rest →
        ∃ t, exec (.applyBurstRemoval n) s = .next t ∧ OthersKept s t n ∧ PlantKept s t ∧ t.branches = s.branches ∧
          t.arbiter = { s.arbiter with holder := none, removals := rest } ∧
          (RecordsKept s t ∧ t.channels = s.channels ∧ t.ports = s.ports) :=
      fun h => ⟨_, row.trans (congrArg Host.Outcome.next h), fun _ _ => ⟨rfl, rfl⟩,
        ⟨⟨rfl, rfl⟩, ⟨rfl, rfl, rfl, rfl, rfl⟩, ⟨rfl, rfl, rfl⟩, rfl, rfl⟩, rfl, rfl, ⟨rfl, rfl, rfl⟩, rfl, rfl⟩
    have here := State.entryOf_outlet entry
    cases k with
    | duration =>
      cases cleared : e.isCleared with
      | true =>
        obtain ⟨t, row, others, plant, branches, arbiter, removed⟩ := applied _ (State.applyRemoval_duration gone cleared)
        rw [here] at removed
        exact ⟨t, row, others, plant, branches, arbiter, fun _ _ => removed, nofun, nofun, nofun⟩
      | false =>
        obtain ⟨t, row, others, plant, branches, arbiter, kept⟩ := dropped (by
          simp only [State.applyRemoval, gone, cleared, Bool.false_eq_true, if_false])
        exact ⟨t, row, others, plant, branches, arbiter, nofun, nofun, fun _ _ => kept, nofun⟩
    | waitLimit =>
      cases cleared : e.isCleared with
      | false =>
        obtain ⟨t, row, others, plant, branches, arbiter, removed⟩ := applied _ (State.applyRemoval_waitLimit gone cleared)
        rw [here] at removed
        exact ⟨t, row, others, plant, branches, arbiter, nofun, fun _ _ => removed, nofun, nofun⟩
      | true =>
        obtain ⟨t, row, others, plant, branches, arbiter, kept⟩ := dropped (by
          simp only [State.applyRemoval, gone, cleared, if_true])
        exact ⟨t, row, others, plant, branches, arbiter, nofun, nofun, nofun, fun _ _ => kept⟩
  · have row := State.writeRemoval_head may head
    have gone : (s.released rest).entryOf n = none := absent
    have dropped : (s.released rest).applyRemoval n k = s.released rest := by
      simp only [State.applyRemoval, gone]
    exact ⟨_, row.trans (congrArg Host.Outcome.next dropped), ⟨rfl, rfl, rfl⟩, ⟨rfl, rfl⟩, ⟨rfl, rfl⟩,
      ⟨rfl, rfl, rfl, rfl, rfl⟩, ⟨rfl, rfl, rfl⟩, rfl, rfl, rfl⟩

end Sys2Proof.Machine
end

section
set_option Elab.async false
/-! PROOFS. A confirmed loss of feedback, the expiry of a sense, and the writes they raise (O56). -/

namespace Sys2Proof.Machine

open Sys2Proof.Statements

namespace State

/-! ## The ABSENT write (R15) -/

/-- An ABSENT write on an ACTIVE outlet: the record, the entry and the events, and the channel without a pending absence. -/
theorem writeAbsent_active (s : State) (n : OutletId) (active : (s.outlet n).condition = .active) :
    let t := s.writeAbsent n
    AbsentWritten s t n ∧
    t.channel n = Channel.setCondition { s.channel n with pendingAbsence := false, grant := 0 } .absent ∧
    OthersKept s t n ∧ t.branches = s.branches ∧ TableWork s t := by
  intro t
  let s3 := ((s.modChannel n fun c => { c with pendingAbsence := false }).modOutlet n
    fun o => { o with condition := .absent, grant := 0, status := .idle }).modChannel n
    fun c => Channel.setCondition { c with grant := 0 } .absent
  have writes : t = (s3.removeEntry n (revoked .absent)).postOutlet n (.outletAbsent n) := if_pos active
  have record : s3.outlet n = { s.outlet n with condition := .absent, grant := 0, status := .idle } := by
    simp only [s3, modChannel_outlet_kept, modOutlet_outlet_self]
  have copy : s3.channel n = Channel.setCondition { s.channel n with pendingAbsence := false, grant := 0 } .absent := by
    simp only [s3, modChannel_channel_self, modOutlet_channel_kept]
  obtain ⟨outlet, channel⟩ := removeEntry_ungranted s3 n (revoked .absent) (by rw [record])
  rw [writes]
  refine ⟨⟨?_, removeEntry_withoutOutlet s3 n _, fun q => ?_⟩, ?_, fun m hm => ⟨?_, ?_⟩, ?_, ?_⟩
  · rw [postOutlet_outlet_kept, outlet, record]
    rfl
  · have rights : (s3.removeEntry n (revoked .absent)).rights q n = s.rights q n := by
      refine rights_congr ?_ (removeEntry_get s3 n _ State.inputs) ?_
      · rw [removeEntry_port, entryEvent]
        cases s3.entryOf n with
        | none => rfl
        | some e =>
          simp only
          split <;> rfl
      · rw [outlet, record]
    rw [postOutlet_port, readEvent, rights, removeEntry_port]
    rfl
  · rw [postOutlet_channel_kept, channel, copy]
  · rw [postOutlet_outlet_kept, (removeEntry_others s3 n m _ hm).1]
    simp only [s3, modChannel_outlet_kept, modOutlet_outlet_ne _ _ hm]
  · rw [postOutlet_channel_kept, (removeEntry_others s3 n m _ hm).2]
    simp only [s3, modChannel_channel_ne _ _ hm, modOutlet_channel_kept]
  · exact removeEntry_get s3 n _ State.branches
  · exact (removeEntry_tableWork s3 n _).trans rfl

theorem writeAbsent_dropped (s : State) (n : OutletId) (away : (s.outlet n).condition ≠ .active) :
    s.writeAbsent n = s.modChannel n fun c => { c with pendingAbsence := false } := if_neg away

/-! ## The sense-expiry write (R18) -/

/-- A sense-expiry write on a SENSING outlet: the sense ends with UNKNOWN, and the write no longer waits. -/
theorem writeSenseEnd_sensing (s : State) (n : OutletId) {k : Prior} (sensing : (s.outlet n).condition = .sensing k) :
    let t := s.writeSenseEnd n
    SenseExpired s t n k ∧
    t.channel n = Channel.setCondition { s.channel n with pendingSenseEnd := false } (priorOf (.sensing k)) ∧
    OthersKept s t n ∧ TableWork s t ∧ t.branches = s.branches ∧ t.bursts = s.bursts := by
  intro t
  have writes : t = (s.modChannel n fun c => { c with pendingSenseEnd := false }).endSense n .unknown :=
    if_pos (by rw [sensing]; rfl)
  obtain ⟨outlet, channel, others, ports⟩ :=
    (s.modChannel n fun c => { c with pendingSenseEnd := false }).endSense_spec n .unknown
  rw [modChannel_outlet_kept, sensing] at outlet channel
  rw [modChannel_channel_self] at channel
  rw [writes]
  refine ⟨⟨outlet, ?_, ports⟩, channel, fun m hm => ⟨(others m hm).1, ?_⟩, rfl, rfl, rfl⟩
  · rw [channel]
    rfl
  · rw [(others m hm).2, modChannel_channel_ne s _ hm]

theorem writeSenseEnd_dropped (s : State) (n : OutletId) (away : ∀ k, (s.outlet n).condition ≠ .sensing k) :
    s.writeSenseEnd n = s.modChannel n fun c => { c with pendingSenseEnd := false } := by
  refine if_neg fun sensing => ?_
  cases condition : (s.outlet n).condition with
  | sensing k => exact away k condition
  | active | parked | absent => simp [condition, isSensing] at sensing

/-! ## Whether the table is free -/

/-- The freedom of the table looks at the drive channels' pending writes alone of all they hold. -/
theorem tableFree_of_driveOnly {s t : State} (h : DriveOnly s t)
    (pending : ∀ n, (t.channel n).pendingAbsence = (s.channel n).pendingAbsence ∧
      (t.channel n).pendingSenseEnd = (s.channel n).pendingSenseEnd) : t.tableFree = s.tableFree := by
  have drive : t.nextDriveWrite = s.nextDriveWrite := by
    simp only [nextDriveWrite, pending]
  have arbiter : t.arbiter = s.arbiter := h.get State.arbiter
  simp only [tableFree, nextWrite, drive, arbiter, h.get State.nextRemoval, h.get State.nextLapse]
  rfl

theorem tableFree_turnOffNow (s : State) (n : OutletId) : (s.turnOffNow n).tableFree = s.tableFree := by
  obtain ⟨own, others, -⟩ := s.turnOffNow_spec n
  refine tableFree_of_driveOnly (turnOffNow_driveOnly s n) fun m => ?_
  by_cases here : m = n
  · rw [here, own]
    exact ⟨rfl, rfl⟩
  · rw [others m here]
    exact ⟨rfl, rfl⟩

theorem tableFree_endTest (s : State) (n : OutletId) : (s.endTest n).tableFree = s.tableFree := by
  refine tableFree_of_driveOnly (modChannel_driveOnly s n _) fun m => ?_
  by_cases here : m = n
  · rw [here, endTest, modChannel_channel_self]
    exact ⟨rfl, rfl⟩
  · rw [endTest, modChannel_channel_ne s _ here]
    exact ⟨rfl, rfl⟩

/-! ## The two events that raise them (R127, R130) -/

/-- The output of a channel that lost its feedback is off; the ABSENT write is applied with the table free, and waits otherwise. -/
theorem forcedOff_spec (s : State) (n : OutletId) :
    let t := (s.turnOffNow n).raiseAbsent n
    OthersKept s t n ∧ PlantKept s t ∧ ArbiterKept s t ∧ (∀ b, t.branch b = branchAfterOff s n b) ∧
    (s.tableFree = false → RecordsKept s t ∧ t.ports = s.ports ∧
      t.channel n = { turnedOff (s.channel n) s.inPattern with pendingAbsence := true }) ∧
    (s.tableFree = true → (s.outlet n).condition = .active → AbsentWritten s t n ∧
      t.channel n = { turnedOff (s.channel n) s.inPattern with
        pendingAbsence := false, condition := .absent, grant := 0 }) := by
  intro t
  obtain ⟨own, others, branches⟩ := s.turnOffNow_spec n
  have drive := turnOffNow_driveOnly s n
  have shape : t = if (s.turnOffNow n).tableFree then
      ((s.turnOffNow n).modChannel n fun c => { c with pendingAbsence := true }).writeAbsent n
    else (s.turnOffNow n).modChannel n fun c => { c with pendingAbsence := true } := rfl
  rw [tableFree_turnOffNow] at shape
  cases free : s.tableFree with
  | false =>
    rw [free, if_neg Bool.false_ne_true] at shape
    obtain ⟨plant, arbiter⟩ := (drive.trans (modChannel_driveOnly _ n fun c => { c with pendingAbsence := true })).tableWork.plantKept
    rw [shape]
    refine ⟨fun m hm => ⟨drive.get fun u => u.outlet m, ?_⟩, plant, arbiter, branches, fun _ => ⟨⟨drive.get State.outlets,
      drive.get State.profile, drive.get State.bursts⟩, drive.get State.ports, ?_⟩, nofun⟩
    · rw [modChannel_channel_ne _ _ hm, others m hm]
    · rw [modChannel_channel_self, own]
  | true =>
    rw [free, if_pos rfl] at shape
    have raised := drive.trans (modChannel_driveOnly _ n fun c => { c with pendingAbsence := true })
    have record : ((s.turnOffNow n).modChannel n fun c => { c with pendingAbsence := true }).outlet n = s.outlet n :=
      raised.get fun u => u.outlet n
    have copy : ((s.turnOffNow n).modChannel n fun c => { c with pendingAbsence := true }).channel n =
        { turnedOff (s.channel n) s.inPattern with pendingAbsence := true } := by
      rw [modChannel_channel_self, own]
    have rest : OthersKept s ((s.turnOffNow n).modChannel n fun c => { c with pendingAbsence := true }) n := fun m hm =>
      ⟨raised.get fun u => u.outlet m, by rw [modChannel_channel_ne _ _ hm, others m hm]⟩
    have restarts : ∀ b, ((s.turnOffNow n).modChannel n fun c => { c with pendingAbsence := true }).branch b =
        branchAfterOff s n b := branches
    generalize (s.turnOffNow n).modChannel n (fun c => { c with pendingAbsence := true }) = v at *
    by_cases active : (v.outlet n).condition = .active
    · obtain ⟨written, channel, keeps, same, work⟩ := v.writeAbsent_active n active
      rw [← shape] at written channel keeps same work
      obtain ⟨plant, arbiter⟩ := (raised.tableWork.trans work).plantKept
      refine ⟨fun m hm => ⟨(keeps m hm).1.trans (rest m hm).1, (keeps m hm).2.trans (rest m hm).2⟩, plant, arbiter,
        fun b => ?_, nofun, fun _ _ => ⟨?_, ?_⟩⟩
      · rw [branch, same]
        exact restarts b
      · exact (raised.get fun u => AbsentWritten u t n).mp written
      · rw [channel, copy]
        rfl
    · have drops := shape.trans (v.writeAbsent_dropped n active)
      have dropped := raised.trans (modChannel_driveOnly v n fun c => { c with pendingAbsence := false })
      obtain ⟨plant, arbiter⟩ := dropped.tableWork.plantKept
      rw [drops]
      refine ⟨fun m hm => ⟨(rest m hm).1, (modChannel_channel_ne v _ hm).trans (rest m hm).2⟩, plant, arbiter, restarts,
        nofun, fun _ h => absurd (record ▸ h) active⟩

/-- The test pulses of a channel stop; the sense ends with the table free, and its write waits otherwise. -/
theorem senseTimedOut_spec (s : State) (n : OutletId) :
    let t := (s.endTest n).raiseSenseEnd n
    OthersKept s t n ∧ PlantKept s t ∧ t.branches = s.branches ∧ t.bursts = s.bursts ∧ ArbiterKept s t ∧
    (t.channel n).phase = (if s.inPattern then .safePattern else .off) ∧ (t.channel n).output = .off ∧
    (t.channel n).applied = 0 ∧ (t.channel n).holdLeft = none ∧
    (s.tableFree = false → RecordsKept s t ∧ t.ports = s.ports ∧ (t.channel n).pendingSenseEnd = true) ∧
    (s.tableFree = true → (t.channel n).pendingSenseEnd = false ∧ ∀ k, (s.outlet n).condition = .sensing k →
      SenseExpired s t n k) := by
  intro t
  have shape : t = if (s.endTest n).tableFree then
      ((s.endTest n).modChannel n fun c => { c with pendingSenseEnd := true }).writeSenseEnd n
    else (s.endTest n).modChannel n fun c => { c with pendingSenseEnd := true } := rfl
  rw [tableFree_endTest] at shape
  have raised : DriveOnly s ((s.endTest n).modChannel n fun c => { c with pendingSenseEnd := true }) := rfl
  have copy : ((s.endTest n).modChannel n fun c => { c with pendingSenseEnd := true }).channel n = { s.channel n with
      phase := if s.inPattern then .safePattern else .off, output := .off, applied := 0, holdLeft := none
      pendingSenseEnd := true } := by
    rw [modChannel_channel_self, endTest, modChannel_channel_self]
  have rest : OthersKept s ((s.endTest n).modChannel n fun c => { c with pendingSenseEnd := true }) n := fun m hm =>
    ⟨rfl, by rw [modChannel_channel_ne _ _ hm, endTest, modChannel_channel_ne s _ hm]⟩
  have branches : ((s.endTest n).modChannel n fun c => { c with pendingSenseEnd := true }).branches = s.branches := rfl
  generalize (s.endTest n).modChannel n (fun c => { c with pendingSenseEnd := true }) = v at *
  obtain ⟨plant, arbiter⟩ := raised.tableWork.plantKept
  cases free : s.tableFree with
  | false =>
    rw [free, if_neg Bool.false_ne_true] at shape
    rw [shape, copy]
    exact ⟨rest, plant, branches, raised.get State.bursts, arbiter, rfl, rfl, rfl, rfl, fun _ =>
      ⟨⟨raised.get State.outlets, raised.get State.profile, raised.get State.bursts⟩, raised.get State.ports, rfl⟩, nofun⟩
  | true =>
    rw [free, if_pos rfl] at shape
    have record : v.outlet n = s.outlet n := raised.get fun u => u.outlet n
    by_cases sensing : ∃ k, (v.outlet n).condition = .sensing k
    · obtain ⟨k, sensing⟩ := sensing
      obtain ⟨expired, channel, keeps, work, same, bursts⟩ := v.writeSenseEnd_sensing n sensing
      rw [← shape] at expired channel keeps work same bursts
      obtain ⟨plant, arbiter⟩ := (raised.tableWork.trans work).plantKept
      rw [copy] at channel
      rw [channel]
      refine ⟨fun m hm => ⟨(keeps m hm).1.trans (rest m hm).1, (keeps m hm).2.trans (rest m hm).2⟩, plant,
        same.trans branches, bursts.trans (raised.get State.bursts), arbiter, rfl, rfl, rfl, rfl, nofun, fun _ =>
        ⟨rfl, fun k' sensing' => ?_⟩⟩
      obtain rfl : k = k' := Condition.sensing.inj (sensing.symm.trans (record ▸ sensing'))
      exact (raised.get fun u => SenseExpired u t n k).mp expired
    · have away : ∀ k, (v.outlet n).condition ≠ .sensing k := fun k h => sensing ⟨k, h⟩
      have drops := shape.trans (v.writeSenseEnd_dropped n away)
      rw [drops, modChannel_channel_self, copy]
      exact ⟨fun m hm => ⟨(rest m hm).1, (modChannel_channel_ne v _ hm).trans (rest m hm).2⟩, plant, branches,
        raised.get State.bursts, arbiter, rfl, rfl, rfl, rfl, nofun, fun _ =>
        ⟨rfl, fun k h => absurd (record ▸ h) (away k)⟩⟩

end State

/-- Settles O56 (R15, R18, R22, R119, R126 to R130; log 4, log 20, log 32). -/
theorem feedbackLossAndSenseExpiry : Obligations.FeedbackLossAndSenseExpiry := by
  refine fun s n kept => ⟨fun watches action => ?_, fun off quiet => ?_, fun watches action => ?_, fun may => ?_,
    fun test => ?_, fun may => ?_⟩
  · have row : exec (.feedbackLossConfirmed n) s =
        .next ((s.postOutlet n (.outletAbsent n)).modChannel n fun c => { c with watchLatch := true }) := by
      simp only [exec, execFeedbackLossConfirmed, watches, if_true, State.loseFeedback, action]
    exact ⟨_, row, ⟨rfl, rfl, rfl⟩, rfl, State.modChannel_channel_self .., fun m hm => State.modChannel_channel_ne _ _ hm,
      fun q => State.postOutlet_port s n _ q, ⟨rfl, rfl⟩, ⟨rfl, rfl, rfl, rfl, rfl⟩, ⟨rfl, rfl, rfl⟩, rfl, rfl⟩
  · have blind : (s.channel n).watches = false := by simp [Channel.watches, off, quiet]
    exact congrArg Host.Outcome.next (if_neg (by rw [blind]; decide))
  · have row : exec (.feedbackLossConfirmed n) s = .next ((s.turnOffNow n).raiseAbsent n) := by
      simp only [exec, execFeedbackLossConfirmed, watches, if_true, State.loseFeedback, action]
    exact ⟨_, row, s.forcedOff_spec n⟩
  · have row : exec (.applyAbsentWrite n) s = .next
        (State.writeAbsent { s with arbiter := { s.arbiter with holder := none } } n) :=
      congrArg Host.Outcome.next ((if_pos may).trans (congrArg (State.writeAbsent · n) (State.mayApply_release may)))
    by_cases active : (s.outlet n).condition = .active
    · obtain ⟨written, channel, others, branches, work⟩ :=
        State.writeAbsent_active { s with arbiter := { s.arbiter with holder := none } } n active
      obtain ⟨plant, arbiter⟩ := work.plantKept
      exact ⟨_, row, others, plant, branches, arbiter, by rw [channel]; rfl,
        fun _ => ⟨written, by rw [channel]; rfl, by rw [channel]; rfl⟩, fun h => absurd active h⟩
    · rw [State.writeAbsent_dropped { s with arbiter := { s.arbiter with holder := none } } n active] at row
      exact ⟨_, row, fun m hm => ⟨rfl, State.modChannel_channel_ne _ _ hm⟩,
        ⟨⟨rfl, rfl⟩, ⟨rfl, rfl, rfl, rfl, rfl⟩, ⟨rfl, rfl, rfl⟩, rfl, rfl⟩, rfl, rfl,
        by rw [State.modChannel_channel_self], fun h => absurd h active,
        fun _ => ⟨⟨rfl, rfl, rfl⟩, rfl, State.modChannel_channel_self ..⟩⟩
  · exact ⟨_, congrArg Host.Outcome.next (if_pos test), s.senseTimedOut_spec n⟩
  · have row : exec (.applySenseExpiryWrite n) s = .next
        (State.writeSenseEnd { s with arbiter := { s.arbiter with holder := none } } n) :=
      congrArg Host.Outcome.next ((if_pos may).trans (congrArg (State.writeSenseEnd · n) (State.mayApply_release may)))
    by_cases sensing : ∃ k, (s.outlet n).condition = .sensing k
    · obtain ⟨k, sensing⟩ := sensing
      obtain ⟨expired, channel, others, work, branches, bursts⟩ :=
        State.writeSenseEnd_sensing { s with arbiter := { s.arbiter with holder := none } } n sensing
      obtain ⟨plant, arbiter⟩ := work.plantKept
      refine ⟨_, row, others, plant, branches, bursts, arbiter, by rw [channel]; rfl, by rw [channel]; rfl,
        fun k' sensing' => ?_, fun h => absurd sensing (h k)⟩
      obtain rfl : k = k' := Condition.sensing.inj (sensing.symm.trans sensing')
      exact expired
    · have away : ∀ k, (s.outlet n).condition ≠ .sensing k := fun k h => sensing ⟨k, h⟩
      rw [State.writeSenseEnd_dropped { s with arbiter := { s.arbiter with holder := none } } n away] at row
      exact ⟨_, row, fun m hm => ⟨rfl, State.modChannel_channel_ne _ _ hm⟩,
        ⟨⟨rfl, rfl⟩, ⟨rfl, rfl, rfl, rfl, rfl⟩, ⟨rfl, rfl, rfl⟩, rfl, rfl⟩, rfl, rfl, rfl,
        by rw [State.modChannel_channel_self], by rw [State.modChannel_channel_self]; rfl,
        fun k h => absurd h (away k), fun _ => ⟨⟨rfl, rfl, rfl⟩, rfl⟩⟩

end Sys2Proof.Machine
end

section
set_option Elab.async false
/-! PROOFS. A ratio conversion is judged (O52). -/

namespace Sys2Proof.Machine

open Sys2Proof.Statements

/-! ## The next conversion (R84) -/

theorem enabled_eq_false_iff (s : State) (m : RatioId) : s.enabled m = false ↔ (s.ratioChannel m).state = .disabled := by
  rw [State.enabled, decide_eq_false_iff_not, not_not]

theorem enabled_iff (s : State) (m : RatioId) : s.enabled m = true ↔ (s.ratioChannel m).state ≠ .disabled :=
  decide_eq_true_iff

theorem slotFrom_eq_ratio_iff (s : State) (i : Nat) (m : RatioId) :
    s.slotFrom i = .ratio m ↔ (List.finRange 6).find? (fun m => decide (i ≤ m.val) && s.enabled m) = some m := by
  unfold State.slotFrom
  cases (List.finRange 6).find? fun m => decide (i ≤ m.val) && s.enabled m <;> simp

theorem slotFrom_eq_reference_iff (s : State) (i : Nat) :
    s.slotFrom i = .reference ↔ (List.finRange 6).find? (fun m => decide (i ≤ m.val) && s.enabled m) = none := by
  unfold State.slotFrom
  cases (List.finRange 6).find? fun m => decide (i ≤ m.val) && s.enabled m <;> simp

/-- A scan whose slot is the first enabled channel from an index on goes on from there. -/
theorem scanGoesOn_slotFrom {s t : State} {i : Nat} (ratio : t.ratio = s.ratio)
    (scan : t.scan = { slot := s.slotFrom i, gateLeft := 100 }) : ScanGoesOn t i := by
  have channel : ∀ m, t.ratioChannel m = s.ratioChannel m := fun m => by rw [State.ratioChannel, ratio, State.ratioChannel]
  unfold ScanGoesOn
  simp only [scan, channel, slotFrom_eq_reference_iff, slotFrom_eq_ratio_iff, ← Fin.find?_eq_find?_finRange,
    Fin.find?_eq_some_iff, Fin.find?_eq_none_iff, Bool.and_eq_true, Bool.and_eq_false_iff, decide_eq_true_iff,
    decide_eq_false_iff_not, enabled_iff, enabled_eq_false_iff, true_and]
  refine ⟨forall_congr' fun m => by tauto, fun m => ?_⟩
  refine Iff.trans and_assoc (and_congr_right fun _ => and_congr_right fun _ => ⟨fun h k from_ less => ?_, fun h k less => ?_⟩)
  · exact (h k less).resolve_left (not_not.mpr from_)
  · by_cases from_ : i ≤ k.val
    · exact .inr (h k from_ less)
    · exact .inl from_

/-! ## Judging a conversion (R87 to R89, R91) -/

/-- A strike for a cause, in the words of the statements. -/
theorem struckFor_strike (c : RatioChannel) (k : Cause) : StruckFor c { c.strike with lastCause := k } k := by
  unfold RatioChannel.strike
  refine ⟨fun h => ?_, fun h few => ?_, fun h many => ?_, fun h => ?_⟩
  · simp only [h]
  · simp only [h, if_neg (show ¬ 3 ≤ c.strikes + 1 by omega)]
  · simp only [h, if_pos (show 3 ≤ c.strikes + 1 by omega)]
  · simp only [h]

/-- What a finding that is no invalid one of a held reference makes of a channel. -/
theorem applyFinding_struck (holding : Bool) (c : RatioChannel) (k : Cause) (h : ¬ (holding = true ∧ k = .ref)) :
    StruckFor c (State.applyFinding holding c (.invalid k)) k := by
  rw [State.applyFinding, if_neg h]
  exact struckFor_strike c k

theorem judge_short (ref : RefState) (trim : Int) : judge ref trim none = .invalid .short := rfl

theorem judge_opened (ref : RefState) (trim : Int) {w : Word} (h : w.toNat < 100) :
    judge ref trim (some w) = .invalid .opened := if_pos h

theorem judge_ref {ref : RefState} (trim : Int) {w : Word} (h : 100 ≤ w.toNat) (faulty : ∀ cr, ref ≠ .valid cr) :
    judge ref trim (some w) = .invalid .ref := by
  refine (if_neg (Nat.not_lt.mpr h)).trans ?_
  cases ref with
  | valid cr => exact absurd rfl (faulty cr)
  | refFault | pending => rfl

theorem judge_valid (cr : Nat) (trim : Int) {w : Word} (h : 100 ≤ w.toNat) :
    judge (.valid cr) trim (some w) =
      if 1000 * cr / w.toNat < 900 ∨ 1600 < 1000 * cr / w.toNat then .invalid .range
      else .good ((((1000 * cr / w.toNat : Nat) : Int) - 1000) * 1000 / 385 + trim) :=
  if_neg (Nat.not_lt.mpr h)

/-- SENSOR_FAULT is posted exactly where a SUSPECT channel becomes FAULT. -/
theorem findingPosts_iff (holding : Bool) (c : RatioChannel) (f : Finding) :
    State.findingPosts holding c f = true ↔ c.state = .suspect ∧ (State.applyFinding holding c f).state = .fault := by
  cases f with
  | good t => simp [State.findingPosts, State.applyFinding, RatioChannel.recover]
  | invalid k =>
    by_cases held : holding = true ∧ k = .ref
    · obtain ⟨rfl, rfl⟩ := held
      simp +contextual [State.findingPosts, State.applyFinding]
    · have strikes : State.findingPosts holding c (.invalid k) = c.strikesOut := by
        have open_ : (holding && decide (k = .ref)) = false := by
          rw [← Bool.not_eq_true, Bool.and_eq_true, decide_eq_true_iff]
          exact held
        rw [State.findingPosts, open_]
        rfl
      rw [strikes, State.applyFinding, if_neg held, RatioChannel.strikesOut, Bool.and_eq_true, decide_eq_true_iff,
        decide_eq_true_iff]
      refine and_congr_right fun suspect => ?_
      simp only [RatioChannel.strike, suspect]
      split <;> simp_all

/-! ## The conversion -/

/-- The channel written and its fault posted, before the stores form their readings. -/
def State.judged (s : State) (m : RatioId) (count : Option Word) (f : Finding) : State :=
  let s1 := s.modRatio m fun c => { State.applyFinding s.reference.hold.isSome c f with lastCount := lastCountOf count }
  if State.findingPosts s.reference.hold.isSome (s.ratioChannel m) f then s1.postAll .sensorFault else s1

theorem State.judged_spec (s : State) (m : RatioId) (count : Option Word) (f : Finding) :
    let t := s.judged m count f
    t.ratioChannel m =
      { State.applyFinding s.reference.hold.isSome (s.ratioChannel m) f with lastCount := lastCountOf count } ∧
    (∀ k, k ≠ m → t.ratioChannel k = s.ratioChannel k) ∧
    (∀ q, t.port q = if (s.ratioChannel m).state = .suspect ∧
      (State.applyFinding s.reference.hold.isSome (s.ratioChannel m) f).state = .fault
      then withEvent (s.port q) .sensorFault else s.port q) ∧
    t = { s with ratio := t.ratio, ports := t.ports } := by
  intro t
  by_cases posts : State.findingPosts s.reference.hold.isSome (s.ratioChannel m) f = true
  · have shape : t = (s.modRatio m fun c => { State.applyFinding s.reference.hold.isSome c f with
        lastCount := lastCountOf count }).postAll .sensorFault := if_pos posts
    rw [shape]
    refine ⟨?_, fun k hk => ?_, fun q => ?_, rfl⟩
    · rw [State.postAll_ratioChannel_kept, State.modRatio_ratioChannel_self]
    · rw [State.postAll_ratioChannel_kept, State.modRatio_ratioChannel_ne _ _ hk]
    rw [if_pos ((findingPosts_iff _ _ _).mp posts)]
    exact State.postAll_port _ _ q
  · have shape : t = s.modRatio m fun c => { State.applyFinding s.reference.hold.isSome c f with
        lastCount := lastCountOf count } := if_neg posts
    rw [shape]
    refine ⟨State.modRatio_ratioChannel_self .., fun k hk => State.modRatio_ratioChannel_ne _ _ hk, fun q => ?_, rfl⟩
    rw [if_neg fun h => posts ((findingPosts_iff _ _ _).mpr h)]
    rfl

/-- Settles O52 (R71, R72, R84, R87 to R89, R91): the finding is the first that applies, and the stores that name the channel form their readings anew. -/
theorem ratioConversionIsJudged : Obligations.RatioConversionIsJudged := by
  intro s m count started slot enabled c
  let f := judge s.reference.state c.trim count
  have row : exec (.ratioConversion m count) s = .next (s.convertRatio m count) :=
    congrArg Host.Outcome.next (if_pos ⟨by simp [started], slot⟩)
  have shape : s.convertRatio m count = ((s.judged m count f).reformFor m).advanceScan := rfl
  obtain ⟨channel, others, ports, frame⟩ := s.judged_spec m count f
  rw [shape] at row
  have advances : ((s.judged m count f).reformFor m).advanceScan =
      { (s.judged m count f).reformFor m with
        scan := { slot := ((s.judged m count f).reformFor m).slotFrom (m.val + 1), gateLeft := 100 } } := by
    have here : ((s.judged m count f).reformFor m).scan.slot = .ratio m := by
      rw [State.reformFor, State.mapStores_scan, frame]
      exact slot
    simp only [State.advanceScan, here]
  generalize s.judged m count f = u at *
  rw [advances] at row
  refine ⟨_, State.applyFinding s.reference.hold.isSome c f, row, ?_, ?_, ?_, ?_, ?_, others, ports, fun i => ?_,
    scanGoesOn_slotFrom (s := u.reformFor m) rfl rfl, ?_, ?_, ?_, ?_, ?_, ?_, ?_, ?_⟩
  · cases count <;> exact channel
  · rintro rfl
    exact applyFinding_struck _ c _ (by simp)
  · rintro w rfl few
    rw [show f = .invalid .opened from judge_opened _ _ few]
    exact applyFinding_struck _ c _ (by simp)
  · rintro w rfl many faulty
    rw [show f = .invalid .ref from judge_ref _ many faulty]
    refine ⟨fun none => applyFinding_struck _ c _ (by simp [none]), fun held => ?_⟩
    exact if_pos ⟨Option.isSome_iff_ne_none.mpr held, rfl⟩
  · intro w cr counted many valid ratio
    have judged : f = if ratio < 900 ∨ 1600 < ratio then .invalid .range
        else .good (((ratio : Int) - 1000) * 1000 / 385 + c.trim) := by
      unfold f
      rw [counted, valid]
      exact judge_valid cr c.trim many
    refine ⟨fun range => ?_, fun low high => ?_⟩
    · rw [judged, if_pos range]
      exact applyFinding_struck _ c _ (by simp)
    · rw [judged, if_neg (by omega)]
      rfl
  · have names : State.namesChannel (u.storeRec i).settings m = true ↔
        (s.storeRec i).settings.primary = some m ∨ (s.storeRec i).settings.secondary = some m := by
      rw [State.namesChannel, Bool.or_eq_true, decide_eq_true_iff, decide_eq_true_iff, frame]
      rfl
    have store : u.storeRec i = s.storeRec i := by rw [frame]; rfl
    refine (State.mapStores_storeRec u _ i).trans ((if_congr names rfl rfl).trans ?_)
    rw [← store]
    rfl
  · exact (congrArg State.reference frame :)
  · exact (congrArg State.pulse frame :)
  · exact ⟨(congrArg State.outlets frame :), (congrArg State.profile frame :), (congrArg State.bursts frame :)⟩
  · exact ⟨(congrArg State.channels frame :), (congrArg State.branches frame :)⟩
  · exact ⟨(congrArg State.steam frame :), (congrArg State.water frame :)⟩
  · exact ⟨(congrArg State.inputs frame :), (congrArg State.store frame :), (congrArg State.pending frame :)⟩
  · exact (congrArg State.engine frame :)
  · exact (congrArg State.arbiter frame :)

end Sys2Proof.Machine
end

section
set_option Elab.async false
/-! PROOFS. Bytes and frames at a port (O40). -/

namespace Sys2Proof.Machine

open Sys2Proof.Statements

/-! ## The row of a frame (R140) -/

/-- A byte that names a command is its code. -/
theorem byte_of_ofByte : ∀ {b : Byte} {c : Code}, Code.ofByte b = some c → c.byte = b := by
  have all : ∀ b : Byte, ∀ c ∈ Code.ofByte b, c.byte = b := by decide
  exact fun {b c} h => all b c h

/-- The row of a frame is the good frame of its code, whatever that is. -/
theorem exec_frameRow (s : State) (p : Port) (code : Byte) (pl : List Byte) :
    exec (frameRow p code pl) s = .next (s.goodFrame p code pl) := by
  unfold frameRow
  cases named : Code.ofByte code with
  | none => rfl
  | some c =>
    have frame := s.exec_commandRow p c pl
    rw [State.frameOf, byte_of_ofByte named] at frame
    exact frame

namespace State

theorem goodFrame_overrun (s : State) (p : Port) (code : Byte) (pl : List Byte) (started : s.engine.starting = false)
    (silent : s.transmitting p = false) (busy : (s.port p).outstanding ≠ none) :
    s.goodFrame p code pl = s.modPort p fun u =>
      { u with receiver := .idle, flags := u.flags.post .overrun, silence := SilenceTimer.load u.config.silence } := by
  obtain ⟨o, outstanding⟩ := Option.ne_none_iff_exists'.mp busy
  simp only [goodFrame, started, silent, Bool.or_false, Bool.false_eq_true, if_false, outstanding, overrun, postTo,
    reloadSilence, modPort_modPort]

theorem goodFrame_held (s : State) (p : Port) (code : Byte) (pl : List Byte) (started : s.engine.starting = false)
    (free : (s.port p).outstanding = none) (lapsing : (s.port p).link = .lapsing) :
    s.goodFrame p code pl = s.modPort p fun u =>
      { u with receiver := .idle, outstanding := some (.held code pl) } := by
  have silent : s.transmitting p = false := by rw [transmitting, free]
  simp only [goodFrame, started, silent, Bool.or_false, Bool.false_eq_true, if_false, free, lapsing, modPort_modPort]

/-! ## The receiver (R137, R138) -/

section

variable {s : State} {p : Port}

theorem takeByte_idle (started : s.engine.starting = false) (silent : s.transmitting p = false)
    (idle : (s.port p).receiver = .idle) (b : Byte) (stop : Bool) :
    s.takeByte p b stop = if b = 0xA5 ∧ stop = true
      then s.modPort p fun u => { u with quiet := 0, receiver := .inFrame [] }
      else s.modPort p fun u => { u with quiet := 0 } := by
  simp only [takeByte, started, silent, Bool.or_false, Bool.false_eq_true, if_false, idle, modPort_modPort]

theorem takeByte_discard (started : s.engine.starting = false) (silent : s.transmitting p = false)
    (discard : (s.port p).receiver = .discard) (b : Byte) (stop : Bool) :
    s.takeByte p b stop = s.modPort p fun u => { u with quiet := 0 } := by
  simp only [takeByte, started, silent, Bool.or_false, Bool.false_eq_true, if_false, discard]

theorem takeByte_inFrame_noStop (started : s.engine.starting = false) (silent : s.transmitting p = false) {bs : List Byte}
    (frame : (s.port p).receiver = .inFrame bs) (b : Byte) :
    s.takeByte p b false =
      s.modPort p fun u => { u with quiet := 0, flags := u.flags.post .frameError, receiver := .discard } := by
  simp only [takeByte, started, silent, Bool.or_false, Bool.false_eq_true, if_false, frame, frameError, postTo,
    modPort_modPort]

theorem takeByte_inFrame (started : s.engine.starting = false) (silent : s.transmitting p = false) {bs : List Byte}
    (frame : (s.port p).receiver = .inFrame bs) (b : Byte) :
    s.takeByte p b true = (s.modPort p fun u => { u with quiet := 0 }).frameByte p bs b := by
  simp only [takeByte, started, silent, Bool.or_false, Bool.false_eq_true, if_false, frame, if_true]

end

/-- The length byte of a frame: above 32 it is discarded. -/
theorem frameByte_length (s : State) (p : Port) (b : Byte) :
    s.frameByte p [] b = if 32 < b.toNat
      then s.modPort p fun u => { u with flags := u.flags.post .frameError, receiver := .discard }
      else s.modPort p fun u => { u with receiver := .inFrame [b] } := by
  simp only [frameByte, if_true, frameError, postTo, modPort_modPort, List.nil_append]

/-- A byte that leaves the frame short is collected. -/
theorem frameByte_collects (s : State) (p : Port) (len : Byte) (bs : List Byte) (b : Byte)
    (short : bs.length + 1 < len.toNat + 3) :
    s.frameByte p (len :: bs) b = s.modPort p fun u => { u with receiver := .inFrame (len :: bs ++ [b]) } := by
  have incomplete : ¬ (len :: bs ++ [b]).length = frameLength (len :: bs ++ [b]) := by
    simp only [frameLength, List.cons_append, u8At_cons_zero, List.length_cons, List.length_append, List.length_nil]
    omega
  simp only [frameByte, if_neg (List.cons_ne_nil len bs), if_neg incomplete]

/-- The last byte of a frame has it judged by its CRC. -/
theorem frameByte_completes (s : State) (p : Port) (len code : Byte) (pl : List Byte) (c b : Byte)
    (length : pl.length = len.toNat) :
    s.frameByte p (len :: code :: pl ++ [c]) b =
      if (crc (len :: code :: pl)).toNat = c.toNat * 256 + b.toNat
      then (s.modPort p fun u => { u with receiver := .idle }).goodFrame p code pl
      else s.modPort p fun u => { u with receiver := .idle, flags := u.flags.post .frameError } := by
  have complete : (len :: code :: pl ++ [c] ++ [b]).length = frameLength (len :: code :: pl ++ [c] ++ [b]) := by
    simp only [frameLength, List.cons_append, u8At_cons_zero, List.length_cons, List.length_append, List.length_nil]
    omega
  have body : (len :: code :: pl ++ [c] ++ [b]).take (len.toNat + 2) = len :: code :: pl := by
    rw [List.append_assoc, List.take_left' (by simp [length])]
  have check : u16At (len :: code :: pl ++ [c] ++ [b]) (len.toNat + 2) = c.toNat * 256 + b.toNat := by
    have after : ∀ i, byteAt (len :: code :: pl ++ [c] ++ [b]) (len.toNat + 2 + i) = byteAt [c, b] i := fun i => by
      have whole : (len :: code :: pl).length = len.toNat + 2 := by simp [length]
      rw [List.append_assoc, byteAt, ← whole, List.getD_append_right _ _ _ _ (Nat.le_add_right ..), Nat.add_sub_cancel_left]
      rfl
    have high := after 0
    have low := after 1
    simp only [Nat.add_zero] at high
    simp only [u16At, u8At, high, low]
    rfl
  have first : u8At (len :: code :: pl ++ [c] ++ [b]) 0 = len.toNat := rfl
  have second : byteAt (len :: code :: pl ++ [c] ++ [b]) 1 = code := rfl
  simp only [frameByte, if_neg (show len :: code :: pl ++ [c] ≠ [] from List.cons_ne_nil _ _), if_pos complete, judgeFrame,
    first, second, body, check, List.drop_succ_cons, List.drop_zero, frameError, postTo, modPort_modPort]

end State

/-- Settles O40 (R137 to R140, R148; log 37): the receiver byte by byte, and what becomes of a good frame that is not taken now. -/
theorem framesAreReceivedAndTaken : Obligations.FramesAreReceivedAndTaken := by
  intro s p started
  refine ⟨fun code pl receives unnamed => ?_, fun busy silent => ⟨?_, fun code pl => ?_⟩, fun code pl free lapsing => ?_,
    fun b silent => ?_⟩
  · have foreign : code ≠ Code.tableReset.byte := by
      rintro rfl
      rw [State.ofByte_byte] at unnamed
      cases unnamed
    have row : exec (.unknownCommand p code pl) s =
        .next ((s.heard p).answer p code (decide ((s.port p).link = .lapsed)) .unknown []) := by
      refine congrArg Host.Outcome.next ((s.goodFrame_receives p code pl receives foreign).trans ?_)
      rw [s.takeFrame_receives p code pl receives, unnamed]
    exact ⟨_, row, s.answer_heard_allKept .., State.portAnswered_respond s (refuse (s.heard p) .unknown) p code s.port
      (s.heard_port p) fun q => s.heard_port_ne p q⟩
  · have row : exec (.overrun p) s = .next (s.modPort p fun u =>
        { u with flags := u.flags.post .overrun, silence := SilenceTimer.load u.config.silence }) := by
      have outstanding : (s.port p).outstanding.isNone = false := by
        rw [← Bool.not_eq_true, Option.isNone_iff_eq_none]
        exact busy
      simp only [exec, execOverrun, started, silent, outstanding, Bool.or_self, Bool.false_eq_true, if_false, State.overrun,
        State.postTo, State.reloadSilence, State.modPort_modPort]
    exact ⟨_, row, s.modPort_allKept p _⟩
  · exact ⟨_, (exec_frameRow s p code pl).trans (congrArg Host.Outcome.next (s.goodFrame_overrun p code pl started silent busy)),
      s.modPort_allKept p _⟩
  · exact ⟨_, (exec_frameRow s p code pl).trans (congrArg Host.Outcome.next (s.goodFrame_held p code pl started free lapsing)),
      s.modPort_allKept p _⟩
  intro u failed
  refine ⟨fun idle => ⟨?_, fun stop other => ?_⟩, fun discard stop => ?_, fun bs frame => ?_, fun frame => ?_,
    fun len bs frame short => ?_, fun len code pl c frame length => ?_⟩
  · exact ⟨_, congrArg Host.Outcome.next ((State.takeByte_idle started silent idle _ _).trans (if_pos ⟨rfl, rfl⟩)),
      s.modPort_allKept p _⟩
  · have ignored : ¬ (b = 0xA5 ∧ stop = true) := by
      rintro ⟨rfl, rfl⟩
      rcases other with other | other
      · exact other rfl
      · cases other
    exact ⟨_, congrArg Host.Outcome.next ((State.takeByte_idle started silent idle _ _).trans (if_neg ignored)),
      s.modPort_allKept p _⟩
  · exact ⟨_, congrArg Host.Outcome.next (State.takeByte_discard started silent discard b stop), s.modPort_allKept p _⟩
  · exact ⟨_, congrArg Host.Outcome.next (State.takeByte_inFrame_noStop started silent frame b), s.modPort_allKept p _⟩
  · have taken := (State.takeByte_inFrame started silent frame b).trans (State.frameByte_length _ p b)
    by_cases long : 32 < b.toNat
    · rw [if_pos long, State.modPort_modPort] at taken
      rw [if_pos long]
      exact ⟨_, congrArg Host.Outcome.next taken, s.modPort_allKept p _⟩
    · rw [if_neg long, State.modPort_modPort] at taken
      rw [if_neg long]
      exact ⟨_, congrArg Host.Outcome.next taken, s.modPort_allKept p _⟩
  · have taken := (State.takeByte_inFrame started silent frame b).trans (State.frameByte_collects _ p len bs b short)
    rw [State.modPort_modPort] at taken
    exact ⟨_, congrArg Host.Outcome.next taken, s.modPort_allKept p _⟩
  · have taken := (State.takeByte_inFrame started silent frame b).trans
      (State.frameByte_completes _ p len code pl c b length)
    refine ⟨fun good => ?_, fun bad => ?_⟩
    · rw [if_pos good, State.modPort_modPort] at taken
      exact (congrArg Host.Outcome.next taken).trans (exec_frameRow _ p code pl).symm
    · rw [if_neg bad, State.modPort_modPort] at taken
      exact ⟨_, congrArg Host.Outcome.next taken, s.modPort_allKept p _⟩

end Sys2Proof.Machine
end

section
set_option Elab.async false
/-! PROOFS. Who is handed the table, and what a table command leaves of the arbiter: the layer under O44. -/

namespace Sys2Proof.Machine

open Sys2Proof.Statements

/-! ## The rotation (R20) -/

/-- How many requesters come before one in the rotation after a last holder. -/
def turnAfter (last r : Requester) : Nat := (r.place + 6 - last.place) % 7

theorem mem_requesters (r : Requester) : r ∈ requesters := by
  cases r with
  | port p => fin_cases p <;> decide
  | spe | wpe | selfTest | store => decide

/-- The rotation looks at the requesters in the order of their turns. -/
theorem rotation_pairwise (last : Requester) : (rotation last).Pairwise fun a b => turnAfter last a < turnAfter last b := by
  have all : ∀ last ∈ requesters, (rotation last).Pairwise fun a b => turnAfter last a < turnAfter last b := by decide
  exact all last (mem_requesters last)

/-- The first element that passes a test, in a list ordered by a key, is the one whose key is the least of all that pass. -/
theorem find?_eq_some_of_pairwise {α : Type*} (key : α → Nat) (f : α → Bool) : ∀ {l : List α},
    l.Pairwise (fun a b => key a < key b) → ∀ {x : α}, x ∈ l → f x = true → (∀ y ∈ l, key y < key x → f y = false) →
    l.find? f = some x
  | [], _, x, h, _, _ => absurd h List.not_mem_nil
  | a :: l, ordered, x, h, passes, least => by
    obtain ⟨before, rest⟩ := List.pairwise_cons.mp ordered
    rcases List.mem_cons.mp h with rfl | behind
    · exact List.find?_cons_of_pos passes
    · have fails : ¬ f a = true := by
        rw [least a List.mem_cons_self (before x behind)]
        decide
      rw [List.find?_cons_of_neg fails]
      exact find?_eq_some_of_pairwise key f rest behind passes fun y hy less => least y (List.mem_cons_of_mem a hy) less

namespace State

/-- The next requester is the one that waits and that no other waiting one precedes. -/
theorem nextRequester_eq_some {s : State} {r : Requester} (waits : s.waits r = true)
    (first : ∀ r', turn s r' < turn s r → s.waits r' = false) : s.nextRequester = some r :=
  find?_eq_some_of_pairwise (turnAfter s.arbiter.lastHolder) s.waits (rotation_pairwise _) (mem_rotation _ r) waits
    fun r' _ less => first r' less

/-- A requester that another waiting one precedes is not the next. -/
theorem nextRequester_ne_of_preceded {s : State} {r r' : Requester} (waits : s.waits r' = true) (less : turn s r' < turn s r) :
    s.nextRequester ≠ some r := by
  intro next
  obtain ⟨-, i, hi, there, before⟩ := List.find?_eq_some_iff_getElem.mp next
  obtain ⟨j, hj, here⟩ := List.mem_iff_getElem.mp (mem_rotation s.arbiter.lastHolder r')
  have ordered := List.pairwise_iff_getElem.mp (rotation_pairwise s.arbiter.lastHolder)
  have earlier : j < i := by
    by_contra late
    rcases Nat.lt_or_eq_of_le (Nat.not_lt.mp late) with later | same
    · have := ordered i j hi hj later
      rw [there, here] at this
      exact absurd less (Nat.not_lt.mpr (Nat.le_of_lt this))
    · subst same
      rw [there] at here
      subst here
      exact absurd less (Nat.lt_irrefl _)
  have quiet := before j earlier
  rw [here, waits] at quiet
  cases quiet

/-! ## What a table command leaves of the arbiter -/

theorem onOutlet_arbiter (s : State) (pl : List Byte) (f : OutletId → Answer)
    (h : ∀ n, (f n).state.arbiter = s.arbiter) : (s.onOutlet pl f).state.arbiter = s.arbiter := by
  unfold onOutlet
  split
  · rfl
  · exact h _

theorem doSetDemand_arbiter (s : State) (p : Port) (n : OutletId) (v : Nat) :
    (s.doSetDemand p n v).state.arbiter = s.arbiter := by
  unfold doSetDemand
  dsimp only
  split
  · rfl
  · split
    · rfl
    · exact enforceEffective_get _ n State.arbiter

theorem doSetLimits_arbiter (s : State) (n : OutletId) (pl : List Byte) : (s.doSetLimits n pl).state.arbiter = s.arbiter := by
  unfold doSetLimits
  split
  · rfl
  · split
    · rfl
    · split
      · rfl
      · next l _ => exact (s.writeLimits_spec n l).2.2.2.2.2.2.plantKept.2

theorem doSetOutletConfig_arbiter (s : State) (n : OutletId) (pl : List Byte) :
    (s.doSetOutletConfig n pl).state.arbiter = s.arbiter := by
  unfold doSetOutletConfig
  split
  · rfl
  · split
    · rfl
    · split <;> rfl

theorem doPark_arbiter (s : State) (n : OutletId) : (s.doPark n).state.arbiter = s.arbiter := by
  unfold doPark
  split
  · rfl
  · split
    · rfl
    · obtain ⟨-, -, -, -, -, -, work⟩ := s.parked_spec n
      exact work.plantKept.2

theorem returnActive_arbiter (s : State) (n : OutletId) (k : Condition) : (s.returnActive n k).state.arbiter = s.arbiter := by
  unfold returnActive
  split
  · rfl
  · split <;> rfl

theorem doSenseStart_arbiter (s : State) (n : OutletId) : (s.doSenseStart n).state.arbiter = s.arbiter := by
  unfold doSenseStart
  split
  · rfl
  · split
    · rfl
    · split <;> rfl

theorem doSenseEnd_arbiter (s : State) (n : OutletId) : (s.doSenseEnd n).state.arbiter = s.arbiter := by
  unfold doSenseEnd
  split
  · rfl
  · split
    · rfl
    · exact (endSense_get (s.stopPulses n) n _ State.arbiter).trans ((s.stopPulses_driveOnly n).get State.arbiter)

theorem doRequestBurst_arbiter (s : State) (p : Port) (n : OutletId) (a d w : Nat) :
    (s.doRequestBurst p n a d w).state.arbiter = s.arbiter := by
  unfold doRequestBurst
  dsimp only
  split
  · rfl
  · split
    · rfl
    · split
      · rfl
      · split
        · rfl
        · split <;> rfl

theorem doEndBurst_arbiter (s : State) (p : Port) (n : OutletId) : (s.doEndBurst p n).state.arbiter = s.arbiter := by
  unfold doEndBurst
  split
  · rfl
  · split
    · rfl
    · split
      · rfl
      · exact removeEntry_get s n _ State.arbiter

theorem doSetProfile_arbiter (s : State) (v : Nat) : (s.doSetProfile v).state.arbiter = s.arbiter := by
  unfold doSetProfile
  split <;> rfl

/-- Carrying out a table command leaves the arbiter alone. -/
theorem runTable_arbiter (s : State) (c : Code) (p : Port) (pl : List Byte) :
    (s.runTable c p pl).state.arbiter = s.arbiter := by
  cases c with
  | readOutlet => exact s.onOutlet_arbiter pl _ fun _ => rfl
  | setDemand => exact s.onOutlet_arbiter pl _ fun n => s.doSetDemand_arbiter p n _
  | setLimits => exact s.onOutlet_arbiter pl _ fun n => s.doSetLimits_arbiter n pl
  | setOutletConfig => exact s.onOutlet_arbiter pl _ fun n => s.doSetOutletConfig_arbiter n pl
  | parkOutlet => exact s.onOutlet_arbiter pl _ fun n => s.doPark_arbiter n
  | unparkOutlet => exact s.onOutlet_arbiter pl _ fun n => s.returnActive_arbiter n _
  | clearAbsent => exact s.onOutlet_arbiter pl _ fun n => s.returnActive_arbiter n _
  | senseStart => exact s.onOutlet_arbiter pl _ fun n => s.doSenseStart_arbiter n
  | senseEnd => exact s.onOutlet_arbiter pl _ fun n => s.doSenseEnd_arbiter n
  | requestBurst => exact s.onOutlet_arbiter pl _ fun n => s.doRequestBurst_arbiter p n _ _ _
  | endBurst => exact s.onOutlet_arbiter pl _ fun n => s.doEndBurst_arbiter p n
  | setProfile => exact s.doSetProfile_arbiter _
  | _ => rfl

/-! ## A table command that has asked for the table (R21, R140) -/

theorem waitingState_port (s : State) (p : Port) (code : Byte) (pl : List Byte) :
    (s.waitingState p code pl).port p = { heardUnit (s.port p) with
      outstanding := some (.waiting code pl (decide ((s.port p).link = .lapsed))) } := by
  rw [waitingState, modPort_port_self, heard_port]

theorem waitingState_port_ne (s : State) {p q : Port} (code : Byte) (pl : List Byte) (h : q ≠ p) :
    (s.waitingState p code pl).port q = s.port q := by
  rw [waitingState, modPort_port_ne _ _ h, heard_port_ne s p q h]

/-- A port that receives has no lapse pending, before and after a frame of it is taken. -/
theorem tableFree_waitingState {s : State} {p : Port} (h : Receives s p) (code : Byte) (pl : List Byte) :
    (s.waitingState p code pl).tableFree = s.tableFree := by
  have links : ∀ q, decide (((s.waitingState p code pl).port q).link = .lapsing) = decide ((s.port q).link = .lapsing) :=
    fun q => by
      by_cases own : q = p
      · rw [own, waitingState_port]
        simp [heardUnit, h.2.2]
      · rw [waitingState_port_ne s code pl own]
  have lapse : (s.waitingState p code pl).nextLapse = s.nextLapse := by
    simp only [nextLapse, links]
  simp only [tableFree, nextWrite, lapse]
  rfl

theorem waits_waitingState (s : State) (p : Port) (code : Byte) (pl : List Byte) (r : Requester) :
    (s.waitingState p code pl).waits r = if r = .port p then true else s.waits r := by
  cases r with
  | port q =>
    by_cases own : q = p
    · subst own
      rw [if_pos rfl, waits, portWaits, waitingState_port]
    · rw [if_neg (fun e => own (Requester.port.inj e)), waits, portWaits, waitingState_port_ne s code pl own]
      rfl
  | spe | wpe | selfTest | store => rfl

end State

end Sys2Proof.Machine
end

section
set_option Elab.async false
/-! PROOFS. The table is asked for and handed over (O44). -/

namespace Sys2Proof.Machine

open Sys2Proof.Statements

/-! ## Asking for the table (R20, R21, R140) -/

/-- The checks before the table, as the frame makes them. -/
theorem checks_of_passesChecks {s : State} {p : Port} {c : Code} {pl : List Byte} (h : PassesChecks s p c pl) :
    c.isTable = true ∧ c.lengthOk pl = true ∧ s.checkRights c p pl = none := by
  have outlet : ∀ right : OutletRights → Bool, (∃ n, outletArg pl = some n ∧ right (s.rights p n) = true) →
      s.checkOutlet p pl right = none := fun right ⟨n, named, held⟩ => State.checkOutlet_none named held
  cases c with
  | readOutlet =>
    obtain ⟨length, part, right⟩ := h
    exact ⟨rfl, by simpa [Code.lengthOk] using length, (if_neg (Nat.not_lt.mpr part)).trans (outlet _ right)⟩
  | readBursts => exact ⟨rfl, by simpa [Code.lengthOk, PassesChecks] using h, rfl⟩
  | setProfile =>
    obtain ⟨length, right⟩ := h
    exact ⟨rfl, by simpa [Code.lengthOk] using length, if_pos right⟩
  | setDemand | setLimits | parkOutlet | unparkOutlet | clearAbsent | senseStart | senseEnd | requestBurst | endBurst =>
    obtain ⟨length, right⟩ := h
    exact ⟨rfl, by simpa [Code.lengthOk] using length, outlet _ right⟩
  | setOutletConfig =>
    obtain ⟨length, right⟩ := h
    exact ⟨rfl, by simpa [Code.lengthOk] using length, outlet (fun _ => (s.globals p).admin) right⟩
  | _ => exact h.elim

namespace State

section

variable {s : State} {p : Port} {c : Code} {pl : List Byte}

/-- A table command that passes its checks waits, or is carried out at once where it comes first. -/
theorem frameOf_asks (h : Receives s p) (table : c.isTable = true) (length : c.lengthOk pl = true)
    (checked : s.checkTable c p pl = none) :
    s.frameOf p c pl = if s.tableFree = true ∧ (s.waitingState p c.byte pl).nextRequester = some (.port p)
      then (s.waitingState p c.byte pl).serve p else s.waitingState p c.byte pl := by
  have foreign : c.byte ≠ Code.tableReset.byte := fun e => by
    have same := congrArg Code.ofByte e
    rw [ofByte_byte, ofByte_byte, Option.some.injEq] at same
    subst same
    cases table
  have heard : (s.heard p).checkTable c p pl = none := (s.heard_checkTable p c p pl).trans checked
  have asks : s.frameOf p c pl = if ((s.waitingState p c.byte pl).tableFree &&
      decide ((s.waitingState p c.byte pl).nextRequester = some (.port p))) = true
      then (s.waitingState p c.byte pl).serve p else s.waitingState p c.byte pl := by
    simp only [frameOf, goodFrame_receives s p _ pl h foreign, takeFrame_receives s p _ pl h, ofByte_byte, length,
      takeCommand, table, heard, if_true]
    rfl
  rw [asks, tableFree_waitingState h]
  exact if_congr (by rw [Bool.and_eq_true, decide_eq_true_iff]) rfl rfl

/-- The waiting state, in the words of the statements. -/
theorem waitingState_eq (s : State) (p : Port) (c : Code) (pl : List Byte) :
    s.waitingState p c.byte pl = s.modPort p fun u => waitingUnit u c pl := by
  simp only [waitingState, heard, modPort]
  simp only [port, heardUnit, waitingUnit, Fin.getElem_fin, Vector.getElem_set_self, Vector.set_set]
  rfl

theorem waits_port_of_receives (h : Receives s p) : s.waits (.port p) = false := by
  rw [waits, portWaits, h.2.1]

/-- The port comes next after its command was taken exactly where no requester that waits precedes it. -/
theorem nextRequester_waitingState :
    (s.waitingState p c.byte pl).nextRequester = some (.port p) ↔ ¬ Preceded s (.port p) := by
  have waits := s.waits_waitingState p c.byte pl
  constructor
  · rintro next ⟨r', -, waiting, less⟩
    have other : r' ≠ .port p := by
      rintro rfl
      exact absurd less (Nat.lt_irrefl _)
    exact nextRequester_ne_of_preceded (s := s.waitingState p c.byte pl) (r' := r') (by rw [waits, if_neg other, waiting]) less next
  · intro first
    refine nextRequester_eq_some (by rw [waits, if_pos rfl]) fun r' less => ?_
    have other : r' ≠ .port p := by
      rintro rfl
      exact absurd less (Nat.lt_irrefl _)
    rw [waits, if_neg other, ← Bool.not_eq_true]
    exact fun waiting => first ⟨r', mem_requesters r', waiting, less⟩

end

/-! ## Carrying out the command of a port that waits -/

/-- A port that is handed the table has its command carried out and answered. -/
theorem servedFrom_serve {s : State} {p : Port} {c : Code} {pl : List Byte} {revived : Bool}
    (waiting : (s.port p).outstanding = some (.waiting c.byte pl revived)) : ServedFrom s (s.serve p) p c pl revived := by
  have serves : s.serve p = respond ((s.hold (.port p)).runTable c p pl) p c.byte revived := by
    simp only [serve, waiting, ofByte_byte]
  rw [serves]
  refine ⟨rfl, fun q hq => answer_port_ne _ _ _ _ _ _ _ hq, ?_⟩
  rw [respond, statusWord_answer]
  exact answer_port _ _ _ _ _ _

/-! ## Waiting table commands answered BUSY (R21) -/

/-- The status word of a port looks at the engine, the round parity, two plant inputs and the port's flags, mask and link. -/
theorem statusWord_congr {s t : State} {q : Port} (revived : Bool) (engine : t.engine = s.engine)
    (parity : t.parity = s.parity) (inputs : t.inputs = s.inputs)
    (attention : (t.port q).attention = (s.port q).attention) (link : (t.port q).link = (s.port q).link) :
    t.statusWord q revived = s.statusWord q revived := by
  simp only [statusWord, engineStateCode, resetCauseCode, busy, lockout, engine, parity, inputs, attention, link]

theorem answerBusy_frame (p : Port) (s : State) : answerBusy p s = { s with ports := (answerBusy p s).ports } := by
  unfold answerBusy
  split <;> rfl

theorem answerBusy_port_ne (s : State) {p q : Port} (h : q ≠ p) : (answerBusy p s).port q = s.port q := by
  unfold answerBusy
  split
  · exact answer_port_ne _ _ _ _ _ _ _ h
  all_goals rfl

theorem answerBusy_port_waiting {s : State} {p : Port} {code : Byte} {pl : List Byte} {revived : Bool}
    (h : (s.port p).outstanding = some (.waiting code pl revived)) :
    (answerBusy p s).port p = { s.port p with outstanding := some (.answered
      { code := code, result := .busy, status := s.statusWord p revived, payload := [] } false) } := by
  simp only [answerBusy, h]
  exact answer_port _ _ _ _ _ _

theorem answerBusy_port_other {s : State} {p : Port}
    (h : ∀ code pl revived, (s.port p).outstanding ≠ some (.waiting code pl revived)) : answerBusy p s = s := by
  unfold answerBusy
  split
  next code pl revived waiting => exact absurd waiting (h code pl revived)
  all_goals rfl

/-- The answer a port is given does not look at the other ports. -/
theorem answerBusy_port_congr {s t : State} {p : Port} (rest : t = { s with ports := t.ports }) (own : t.port p = s.port p) :
    (answerBusy p t).port p = (answerBusy p s).port p := by
  by_cases waiting : ∃ code pl revived, (s.port p).outstanding = some (.waiting code pl revived)
  · obtain ⟨code, pl, revived, waiting⟩ := waiting
    have status : t.statusWord p revived = s.statusWord p revived :=
      statusWord_congr revived (congrArg State.engine rest :) (congrArg State.parity rest :) (congrArg State.inputs rest :)
        (by rw [own]) (by rw [own])
    rw [answerBusy_port_waiting waiting, answerBusy_port_waiting (own ▸ waiting), own, status]
  · have quiet : ∀ code pl revived, (s.port p).outstanding ≠ some (.waiting code pl revived) :=
      fun code pl revived h => waiting ⟨code, pl, revived, h⟩
    rw [answerBusy_port_other quiet, answerBusy_port_other (s := t) (own ▸ quiet), own]

theorem foldl_answerBusy : ∀ (l : List Port) (s : State), l.Nodup →
    (l.foldl (fun t p => answerBusy p t) s = { s with ports := (l.foldl (fun t p => answerBusy p t) s).ports }) ∧
    ∀ q, (l.foldl (fun t p => answerBusy p t) s).port q = if q ∈ l then (answerBusy q s).port q else s.port q
  | [], s, _ => ⟨rfl, fun q => (if_neg List.not_mem_nil).symm⟩
  | p :: l, s, once => by
    obtain ⟨away, rest⟩ := List.nodup_cons.mp once
    obtain ⟨frame, ports⟩ := foldl_answerBusy l (answerBusy p s) rest
    have first := answerBusy_frame p s
    rw [List.foldl_cons]
    refine ⟨?_, fun q => (ports q).trans ?_⟩
    · rw [first] at frame
      exact first ▸ frame
    · by_cases own : q = p
      · subst own
        rw [if_neg away, if_pos List.mem_cons_self]
      · rw [answerBusy_port_congr first (answerBusy_port_ne s own), answerBusy_port_ne s own]
        exact if_congr (by rw [List.mem_cons, or_iff_right own]) rfl rfl

/-- Every waiting command is answered BUSY, and nothing but the port units changes. -/
theorem forPorts_answerBusy (s : State) :
    s.forPorts answerBusy = { s with ports := (s.forPorts answerBusy).ports } ∧
    ∀ q, (s.forPorts answerBusy).port q = (answerBusy q s).port q := by
  obtain ⟨frame, ports⟩ := foldl_answerBusy (List.finRange 3) s (List.nodup_finRange 3)
  exact ⟨frame, fun q => (ports q).trans (if_pos (List.mem_finRange q))⟩

/-- The waiting commands stand answered BUSY in every state that keeps the port units and what the status word shows. -/
theorem waitersAnsweredBusy {s u t : State} (before : ∀ q, u.port q = s.port q)
    (ports : ∀ q, t.port q = (answerBusy q u).port q) (engine : t.engine = u.engine) (parity : t.parity = u.parity)
    (inputs : t.inputs = u.inputs) : WaitersAnsweredBusy s t := by
  refine fun q => ⟨fun code pl revived waiting => ?_, fun quiet => ?_⟩
  · have answered := (ports q).trans (answerBusy_port_waiting ((before q).symm ▸ waiting))
    have status : t.statusWord q revived = u.statusWord q revived :=
      statusWord_congr revived engine parity inputs (by rw [answered]; rfl) (by rw [answered])
    rw [answered, status, before]
  · rw [ports, answerBusy_port_other (s := u) ((before q).symm ▸ quiet), before]

/-! ## The hand-over (R20, R161, R166) -/

theorem releasePort_of_atRelease {s : State} (h : s.atRelease = true) :
    s.releasePort = { s with arbiter := { s.arbiter with holder := none } } := if_pos h

/-- A port that is handed the table holds it from then on, whatever its command does. -/
theorem serve_arbiter {s : State} {p : Port} (waits : s.portWaits p = true) :
    (s.serve p).arbiter = { s.arbiter with holder := some (.port p), lastHolder := .port p } ∧
    ∃ code pl revived, (s.port p).outstanding = some (.waiting code pl revived) ∧
      (Code.ofByte code = none → ∃ resp, ((s.serve p).port p).outstanding = some (.answered resp false) ∧ resp.code = code) := by
  obtain ⟨code, pl, revived, waiting⟩ : ∃ code pl revived, (s.port p).outstanding = some (.waiting code pl revived) := by
    cases outstanding : (s.port p).outstanding with
    | none => simp [portWaits, outstanding] at waits
    | some o =>
      cases o with
      | waiting code pl revived => exact ⟨code, pl, revived, rfl⟩
      | held | answered => simp [portWaits, outstanding] at waits
  cases named : Code.ofByte code with
  | none =>
    have serves : s.serve p = (s.hold (.port p)).answer p code revived .unknown [] := by
      simp only [serve, waiting, named]
    rw [serves]
    exact ⟨rfl, code, pl, revived, waiting, fun _ => ⟨_, by rw [answer_port], rfl⟩⟩
  | some c =>
    have serves : s.serve p = respond ((s.hold (.port p)).runTable c p pl) p code revived := by
      simp only [serve, waiting, named]
    refine ⟨?_, code, pl, revived, waiting, fun unnamed => ?_⟩
    · rw [serves, respond_arbiter]
      exact runTable_arbiter _ c p pl
    · rw [named] at unnamed
      cases unnamed

/-- The requests of the rounds are withdrawn, each that stood counted as skipped. -/
theorem skipRequests_eq (s : State) :
    s.skipRequests = { s with
      arbiter := { s.arbiter with steamRequest := false, waterRequest := false }
      steam := if s.arbiter.steamRequest then { s.steam with skipped := min (s.steam.skipped + 1) 65535 } else s.steam
      water := if s.arbiter.waterRequest then { s.water with skipped := min (s.water.skipped + 1) 65535 } else s.water
      pulse := if s.arbiter.waterRequest then s.discardWindows.pulse else s.pulse } := by
  cases steam : s.arbiter.steamRequest <;> cases water : s.arbiter.waterRequest <;>
    simp only [skipRequests, steam, water, if_true, if_false, Bool.false_eq_true] <;> rfl

theorem startSelfTest_spec (s : State) :
    let t := s.startSelfTest
    RecordsKept s t ∧ DriveKept s t ∧ RestKept s t ∧ t.engine = { s.engine with opLeft := 400 } ∧
    t.arbiter = { s.arbiter with
      holder := some .selfTest, lastHolder := .selfTest, steamRequest := false, waterRequest := false } ∧
    t.steam = (if s.arbiter.steamRequest then { s.steam with skipped := min (s.steam.skipped + 1) 65535 } else s.steam) ∧
    t.water = (if s.arbiter.waterRequest then { s.water with skipped := min (s.water.skipped + 1) 65535 } else s.water) ∧
    WaitersAnsweredBusy s t := by
  intro t
  obtain ⟨frame, ports⟩ := ((s.hold .selfTest).modEngine fun e => { e with opLeft := 400 }).forPorts_answerBusy
  have shape : t = (((s.hold .selfTest).modEngine fun e => { e with opLeft := 400 }).forPorts answerBusy).skipRequests := rfl
  rw [skipRequests_eq] at shape
  generalize ((s.hold .selfTest).modEngine fun e => { e with opLeft := 400 }).forPorts answerBusy = v at *
  rw [shape, frame]
  refine ⟨⟨rfl, rfl, rfl⟩, ⟨rfl, rfl⟩, ⟨rfl, rfl, rfl⟩, rfl, rfl, rfl, rfl, ?_⟩
  refine waitersAnsweredBusy (u := (s.hold .selfTest).modEngine fun e => { e with opLeft := 400 }) (fun _ => rfl) ports
    rfl ?_ rfl
  cases request : s.arbiter.steamRequest <;> simp [parity, request, hold, modEngine, modArbiter]

theorem startSave_spec (s : State) :
    let t := s.startSave
    RecordsKept s t ∧ DriveKept s t ∧ PoolsKept s t ∧ MeasureKept s t ∧ t.engine = { s.engine with opLeft := 250 } ∧
    t.arbiter = { s.arbiter with holder := some .store, lastHolder := .store } ∧ t.inputs = s.inputs ∧
    t.pending = s.pending ∧ t.store = { s.store with check := none, saving := some s.workingConfig } ∧
    WaitersAnsweredBusy s t := by
  intro t
  obtain ⟨frame, ports⟩ := ((s.hold .store).modEngine fun e => { e with opLeft := 250 }).forPorts_answerBusy
  have shape : t = { ((s.hold .store).modEngine fun e => { e with opLeft := 250 }).forPorts answerBusy with
      store := { (((s.hold .store).modEngine fun e => { e with opLeft := 250 }).forPorts answerBusy).store with
        check := none, saving := some s.workingConfig } } := rfl
  generalize ((s.hold .store).modEngine fun e => { e with opLeft := 250 }).forPorts answerBusy = v at *
  rw [shape, frame]
  exact ⟨⟨rfl, rfl, rfl⟩, ⟨rfl, rfl⟩, ⟨rfl, rfl⟩, ⟨rfl, rfl, rfl, rfl, rfl⟩, rfl, rfl, rfl, rfl, rfl,
    waitersAnsweredBusy (u := (s.hold .store).modEngine fun e => { e with opLeft := 250 }) (fun _ => rfl) ports rfl rfl rfl⟩

end State

/-- Settles O44 (R20 to R22, R140, R161, R166; log 6, log 7, log 16, log 19, log 44). -/
theorem handOverFollowsTheRotation : Obligations.HandOverFollowsTheRotation := by
  refine ⟨fun s p c pl receives passes => ?_, fun s r may waits least => ?_⟩
  · obtain ⟨table, length, right⟩ := checks_of_passesChecks passes
    refine ⟨fun busy => ?_, fun idle later => ?_, fun idle free first => ?_⟩
    · exact State.refused_of_checkTable s p c pl .busy receives table length (by simp [State.checkTable, right, State.busy, busy])
    · have asks := State.frameOf_asks receives table length (State.checkTable_none right idle)
      rw [if_neg (fun h => by
        rcases later with held | preceded
        · rw [held] at h
          cases h.1
        · exact State.nextRequester_waitingState.mp h.2 preceded), State.waitingState_eq] at asks
      obtain ⟨kept, others, own⟩ := s.modPort_allKept p fun u => waitingUnit u c pl
      refine ⟨_, (s.exec_commandRow p c pl).trans (congrArg Host.Outcome.next asks), kept, others, own, ?_⟩
      rw [State.waits, State.portWaits, own]
      rfl
    · have asks := State.frameOf_asks receives table length (State.checkTable_none right idle)
      rw [if_pos ⟨free, State.nextRequester_waitingState.mpr first⟩, State.waitingState_eq] at asks
      refine ⟨_, (s.exec_commandRow p c pl).trans (congrArg Host.Outcome.next asks), State.servedFrom_serve ?_⟩
      rw [State.modPort_port_self]
      rfl
  · have next : s.nextRequester = some r := State.nextRequester_eq_some waits fun r' less => by
      rw [← Bool.not_eq_true]
      exact fun waiting => absurd (least r' waiting) (Nat.not_le.mpr less)
    have released : s.atRelease = true := by
      rw [State.mayHandOver, Bool.and_eq_true, Bool.and_eq_true] at may
      exact may.1.1
    have hands : s.handOver = s.releasePort.handTo r := by
      simp only [State.handOver, next, may, if_true]
    rw [State.releasePort_of_atRelease released] at hands
    have row : exec .tableHandover s = .next (State.handTo { s with arbiter := { s.arbiter with holder := none } } r) :=
      congrArg Host.Outcome.next hands
    have rowTo : ∀ i, exec i s = .next (s.handOverTo r) → exec i s =
        .next (State.handTo { s with arbiter := { s.arbiter with holder := none } } r) := fun i h => by
      rw [h, State.handOverTo, if_pos next, hands]
    refine ⟨_, row, ?_⟩
    cases r with
    | spe =>
      exact ⟨rfl, rfl, fun _ => ⟨⟨rfl, rfl, rfl⟩, ⟨rfl, rfl⟩, ⟨rfl, rfl⟩, ⟨rfl, rfl, rfl, rfl, rfl⟩, ⟨rfl, rfl, rfl⟩, rfl,
        rfl, rfl⟩, nofun, nofun, nofun, nofun⟩
    | wpe =>
      exact ⟨rfl, rfl, nofun, fun _ => ⟨⟨rfl, rfl, rfl⟩, ⟨rfl, rfl⟩, ⟨rfl, rfl⟩, ⟨rfl, rfl, rfl, rfl, rfl⟩, ⟨rfl, rfl, rfl⟩,
        rfl, rfl, rfl⟩, nofun, nofun, nofun⟩
    | selfTest =>
      obtain ⟨records, drive, rest, engine, arbiter, steam, water, waiters⟩ :=
        State.startSelfTest_spec { s with arbiter := { s.arbiter with holder := none } }
      exact ⟨congrArg Arbiter.lastHolder arbiter, congrArg Arbiter.holder arbiter, nofun, nofun, fun _ =>
        ⟨rowTo .selfTestStart rfl, records, drive, rest, engine, congrArg Arbiter.steamRequest arbiter,
          congrArg Arbiter.waterRequest arbiter, steam, water, waiters⟩, nofun, nofun⟩
    | store =>
      obtain ⟨records, drive, pools, measure, engine, arbiter, inputs, pending, store, waiters⟩ :=
        State.startSave_spec { s with arbiter := { s.arbiter with holder := none } }
      exact ⟨congrArg Arbiter.lastHolder arbiter, congrArg Arbiter.holder arbiter, nofun, nofun, nofun, fun _ =>
        ⟨rowTo .saveStart rfl, records, drive, pools, measure, engine, inputs, pending, store, waiters⟩, nofun⟩
    | port p =>
      obtain ⟨arbiter, code, pl, revived, waiting, unnamed⟩ := State.serve_arbiter
        (s := { s with arbiter := { s.arbiter with holder := none } }) (p := p) waits
      refine ⟨congrArg Arbiter.lastHolder arbiter, congrArg Arbiter.holder arbiter, nofun, nofun, nofun, nofun, ?_⟩
      intro q same
      obtain rfl := Requester.port.inj same
      refine ⟨code, pl, revived, waiting, fun c named => ?_, unnamed⟩
      rw [← byte_of_ofByte named] at waiting
      exact State.servedFrom_serve (s := { s with arbiter := { s.arbiter with holder := none } }) waiting

end Sys2Proof.Machine
end

section
set_option Elab.async false
/-! PROOFS. Going over all outlets, and the revocation of every entry that a test picks (R107, R112 to R114): layers shared by the lapse, the resets and the entry to SAFE. -/

namespace Sys2Proof.Machine

open Sys2Proof.Statements

/-! ## Operations that work on one record each -/

/-- Going over indices with an operation that, at each index, works on that index's view of the state alone, by what a context gives that none of them changes. -/
theorem foldl_view {ι σ α β : Type*} [DecidableEq ι] {f : ι → σ → σ} {C : σ → β} {g : ι → σ → α} {φ : ι → β → α → α}
    (context : ∀ n s, C (f n s) = C s) (own : ∀ n s, g n (f n s) = φ n (C s) (g n s))
    (other : ∀ n m s, n ≠ m → g n (f m s) = g n s) : ∀ (l : List ι) (s : σ), l.Nodup →
    C (l.foldl (fun t n => f n t) s) = C s ∧
    ∀ n, g n (l.foldl (fun t n => f n t) s) = if n ∈ l then φ n (C s) (g n s) else g n s
  | [], s, _ => ⟨rfl, fun n => (if_neg List.not_mem_nil).symm⟩
  | m :: l, s, once => by
    obtain ⟨away, rest⟩ := List.nodup_cons.mp once
    obtain ⟨kept, views⟩ := foldl_view context own other l (f m s) rest
    rw [context] at kept views
    refine ⟨kept, fun n => (views n).trans ?_⟩
    by_cases here : n = m
    · subst here
      rw [if_neg away, if_pos List.mem_cons_self, own]
    · rw [other n m s here]
      exact if_congr (by rw [List.mem_cons, or_iff_right here]) rfl rfl

namespace State

theorem forOutlets_view {α β : Type*} {f : OutletId → State → State} {C : State → β} {g : OutletId → State → α}
    {φ : OutletId → β → α → α} (s : State) (context : ∀ n s, C (f n s) = C s)
    (own : ∀ n s, g n (f n s) = φ n (C s) (g n s)) (other : ∀ n m s, n ≠ m → g n (f m s) = g n s) :
    C (s.forOutlets f) = C s ∧ ∀ n, g n (s.forOutlets f) = φ n (C s) (g n s) := by
  obtain ⟨kept, views⟩ := foldl_view context own other (List.finRange 24) s (List.nodup_finRange 24)
  exact ⟨kept, fun n => (views n).trans (if_pos (List.mem_finRange n))⟩

/-! ## The entries that are left when one leaves -/

theorem closeRank_isCleared (r : Nat) (e : BurstEntry) : (closeRank r e).isCleared = e.isCleared := by
  cases h : e.state <;> simp only [closeRank, h]
  split <;> simp [BurstEntry.isCleared, h]

/-- The entry of another outlet stays in the list as it is but for its place in the clearance order. -/
theorem removeEntry_entryOf_ne (s : State) {n m : OutletId} (notice : BurstEntry → Event) (h : m ≠ n) :
    ∃ k : BurstEntry → BurstEntry, (∀ e, (k e).outlet = e.outlet ∧ (k e).requester = e.requester ∧
      (k e).amount = e.amount ∧ (k e).isCleared = e.isCleared) ∧
      (s.removeEntry n notice).entryOf m = (s.entryOf m).map k := by
  cases entry : s.entryOf n with
  | none => exact ⟨id, fun _ => ⟨rfl, rfl, rfl, rfl⟩, by rw [removeEntry_none s n notice entry, Option.map_id]; rfl⟩
  | some e =>
    have own := entryOf_outlet entry
    have rest : (s.bursts.filter fun x => decide (x.outlet ≠ e.outlet)).find? (fun x => decide (x.outlet = m)) =
        s.entryOf m := by
      rw [List.find?_filter, entryOf]
      congr 1
      funext x
      by_cases here : x.outlet = m
      · simp [here, own, h]
      · simp [here]
    refine ⟨if e.isCleared then closeRank e.rank else id, fun x => ?_, ?_⟩
    · split
      · exact ⟨closeRank_outlet _ x, closeRank_requester _ x, closeRank_amount _ x, closeRank_isCleared _ x⟩
      · exact ⟨rfl, rfl, rfl, rfl⟩
    · rw [entryOf, removeEntry_bursts s n notice e entry, dropEntry]
      split
      · rw [List.find?_map]
        have same : (fun x : BurstEntry => decide (x.outlet = m)) ∘ closeRank e.rank = fun x => decide (x.outlet = m) := by
          funext x
          simp only [Function.comp_apply, closeRank_outlet]
        rw [same, rest]
      · rw [rest, Option.map_id]
        rfl

/-! ## Revoking entries one by one -/

/-- An outlet whose entry, if it has one, has left the list. -/
def unlisted (entry : Option BurstEntry) (o : Outlet) : Outlet :=
  match entry with
  | none => o
  | some e => { o with burstRef := false, grant := if e.isCleared then lowered o.grant o.demand else o.grant }

/-- The drive channel of an outlet whose entry, if it has one, has left the list. -/
def unlistedChannel (entry : Option BurstEntry) (o : Outlet) (c : Channel) : Channel :=
  match entry with
  | none => c
  | some e => if e.isCleared then loweredChannel c o.grant o.demand else c

theorem unlisted_map (entry : Option BurstEntry) (o : Outlet) {k : BurstEntry → BurstEntry}
    (h : ∀ e, (k e).isCleared = e.isCleared) : unlisted (entry.map k) o = unlisted entry o := by
  cases entry <;> simp [unlisted, h]

theorem unlistedChannel_map (entry : Option BurstEntry) (o : Outlet) (c : Channel) {k : BurstEntry → BurstEntry}
    (h : ∀ e, (k e).isCleared = e.isCleared) : unlistedChannel (entry.map k) o c = unlistedChannel entry o c := by
  cases entry <;> simp [unlistedChannel, h]

theorem removeEntry_unlisted (s : State) (n : OutletId) (notice : BurstEntry → Event) :
    (s.removeEntry n notice).outlet n = unlisted (s.entryOf n) (s.outlet n) ∧
    (s.removeEntry n notice).channel n = unlistedChannel (s.entryOf n) (s.outlet n) (s.channel n) := by
  cases entry : s.entryOf n with
  | none =>
    rw [removeEntry_none s n notice entry]
    exact ⟨rfl, rfl⟩
  | some e => exact removeEntry_some notice entry

theorem removeEntry_entryOf_self (s : State) (n : OutletId) (notice : BurstEntry → Event) :
    (s.removeEntry n notice).entryOf n = none := by
  have gone := removeEntry_outlets s n notice
  refine List.find?_eq_none.mpr fun e member => ?_
  have listed : e.outlet ∈ (s.removeEntry n notice).bursts.map BurstEntry.outlet := List.mem_map_of_mem member
  rw [gone, List.mem_filter] at listed
  simpa using listed.2

/-- Revoking entries one by one takes each outlet of them out of the list. -/
theorem foldl_revoke_outlet (c : BurstCause) : ∀ (l : List BurstEntry) (s : State) (n : OutletId),
    let t := l.foldl (fun t e => t.removeEntry e.outlet (revoked c)) s
    t.outlet n = (if n ∈ l.map BurstEntry.outlet then unlisted (s.entryOf n) (s.outlet n) else s.outlet n) ∧
    t.channel n = if n ∈ l.map BurstEntry.outlet then unlistedChannel (s.entryOf n) (s.outlet n) (s.channel n)
      else s.channel n
  | [], _, _ => ⟨rfl, rfl⟩
  | e :: l, s, n => by
    obtain ⟨outlet, channel⟩ := foldl_revoke_outlet c l (s.removeEntry e.outlet (revoked c)) n
    dsimp only at outlet channel ⊢
    rw [List.foldl_cons, outlet, channel, List.map_cons]
    by_cases own : n = e.outlet
    · subst own
      obtain ⟨o, ch⟩ := s.removeEntry_unlisted e.outlet (revoked c)
      rw [removeEntry_entryOf_self, o, ch, if_pos List.mem_cons_self, if_pos List.mem_cons_self]
      exact ⟨ite_self _, ite_self _⟩
    · obtain ⟨k, keeps, entry⟩ := s.removeEntry_entryOf_ne (revoked c) own
      obtain ⟨o, ch⟩ := removeEntry_others s e.outlet n (revoked c) own
      have same : n ∈ l.map BurstEntry.outlet ↔ n ∈ e.outlet :: l.map BurstEntry.outlet := by
        rw [List.mem_cons, or_iff_right own]
      rw [o, ch, entry, unlisted_map _ _ fun e => (keeps e).2.2.2, unlistedChannel_map _ _ _ fun e => (keeps e).2.2.2]
      exact ⟨if_congr same rfl rfl, if_congr same rfl rfl⟩

theorem foldl_revoke_bursts (c : BurstCause) : ∀ (l : List BurstEntry) (s : State),
    (l.foldl (fun t e => t.removeEntry e.outlet (revoked c)) s).bursts =
      l.foldl (fun rest e => withoutOutlet rest e.outlet) s.bursts
  | [], _ => rfl
  | e :: l, s => by rw [List.foldl_cons, foldl_revoke_bursts c l, removeEntry_withoutOutlet, List.foldl_cons]

/-- The list has an entry of the same outlet and requester. -/
def Lists (s : State) (e : BurstEntry) : Prop := ∃ x, s.entryOf e.outlet = some x ∧ x.requester = e.requester

theorem Lists.removeEntry {s : State} {e : BurstEntry} (h : Lists s e) {n : OutletId} (notice : BurstEntry → Event)
    (other : e.outlet ≠ n) : Lists (s.removeEntry n notice) e := by
  obtain ⟨x, entry, requester⟩ := h
  obtain ⟨k, keeps, found⟩ := s.removeEntry_entryOf_ne notice other
  exact ⟨k x, by rw [found, entry, Option.map_some], (keeps x).2.1.trans requester⟩

/-- Revoking listed entries one by one: each requester gets its notices. -/
theorem foldl_revoke_port (c : BurstCause) : ∀ (l : List BurstEntry) (s : State), (l.map BurstEntry.outlet).Nodup →
    (∀ e ∈ l, Lists s e) → ∀ q,
    (l.foldl (fun t e => t.removeEntry e.outlet (revoked c)) s).port q =
      { s.port q with flags := { (s.port q).flags with
        burstRevoked := (l.filter fun e => decide (e.requester = q)).foldl (fun held e => lowerCause held e.outlet c)
          (s.port q).flags.burstRevoked } }
  | [], _, _, _, _ => rfl
  | e :: l, s, once, listed, q => by
    obtain ⟨away, rest⟩ := List.nodup_cons.mp once
    obtain ⟨x, entry, requester⟩ := listed e List.mem_cons_self
    have others : ∀ e' ∈ l, e'.outlet ≠ e.outlet := fun e' h same => away (same ▸ List.mem_map_of_mem h)
    have notice : (s.removeEntry e.outlet (revoked c)).port q =
        if e.requester = q then withEvent (s.port q) (.burstRevoked e.outlet c) else s.port q := by
      rw [removeEntry_port, entryEvent, entry, ← requester]
      simp only [revoked, entryOf_outlet entry]
    rw [List.foldl_cons, foldl_revoke_port c l (s.removeEntry e.outlet (revoked c)) rest
      fun e' h => (listed e' (List.mem_cons_of_mem e h)).removeEntry _ (others e' h), notice]
    by_cases own : e.requester = q
    · rw [if_pos own, List.filter_cons_of_pos (by simpa using own), List.foldl_cons]
      rfl
    · rw [if_neg own, List.filter_cons_of_neg (by simpa using own)]

/-- Each entry is that of its outlet, where no outlet has two. -/
theorem find?_outlet_of_mem : ∀ {l : List BurstEntry}, (l.map BurstEntry.outlet).Nodup → ∀ {e : BurstEntry}, e ∈ l →
    (l.find? fun x => decide (x.outlet = e.outlet)) = some e
  | [], _, _, h => absurd h List.not_mem_nil
  | a :: l, once, e, h => by
    obtain ⟨away, rest⟩ := List.nodup_cons.mp once
    rcases List.mem_cons.mp h with rfl | behind
    · exact List.find?_cons_of_pos (by simp)
    · have differs : a.outlet ≠ e.outlet := fun same => away (same ▸ List.mem_map_of_mem behind)
      rw [List.find?_cons_of_neg (by simpa using differs)]
      exact find?_outlet_of_mem rest behind

/-- Revoking entries changes outlets, channels, the list and the ports alone. -/
theorem revokeWhere_frame (s : State) (pick : BurstEntry → Bool) (c : BurstCause) :
    let t := s.revokeWhere pick c
    t = { s with outlets := t.outlets, channels := t.channels, bursts := t.bursts, ports := t.ports } :=
  revokeWhere_induct (fun t => t = { s with
      outlets := t.outlets, channels := t.channels, bursts := t.bursts, ports := t.ports }) s pick c rfl fun n t same => by
    rw [removeEntry_frame, same]

/-- The entry of an outlet where a test picks it. -/
def pickedOf (s : State) (pick : BurstEntry → Bool) (n : OutletId) : Option BurstEntry := (s.entryOf n).filter pick

/-- Revoking the entries that a test picks: the list, the ports and the outlets after it. -/
theorem revokeWhere_spec (s : State) (once : (s.bursts.map BurstEntry.outlet).Nodup) (pick : BurstEntry → Bool)
    (c : BurstCause) :
    let t := s.revokeWhere pick c
    t.bursts = withoutAll s.bursts pick ∧
    (∀ q, t.port q = { s.port q with flags := { (s.port q).flags with burstRevoked := revokedNotices s q pick c } }) ∧
    ∀ n, t.outlet n = unlisted (s.pickedOf pick n) (s.outlet n) ∧
      t.channel n = unlistedChannel (s.pickedOf pick n) (s.outlet n) (s.channel n) := by
  have own : ∀ e ∈ s.bursts, s.entryOf e.outlet = some e := fun e h => find?_outlet_of_mem once h
  refine ⟨foldl_revoke_bursts c _ s, fun q => ?_, fun n => ?_⟩
  · refine (foldl_revoke_port c (s.bursts.filter pick) s (once.sublist (List.filter_sublist.map _))
      (fun e h => ⟨e, own e (List.mem_of_mem_filter h), rfl⟩) q).trans ?_
    rw [revokedNotices, List.filter_filter]
    simp only [Bool.and_comm]
  · obtain ⟨outlet, channel⟩ := foldl_revoke_outlet c (s.bursts.filter pick) s n
    rw [revokeWhere, outlet, channel, pickedOf]
    by_cases member : n ∈ (s.bursts.filter pick).map BurstEntry.outlet
    · obtain ⟨e, inside, rfl⟩ := List.mem_map.mp member
      obtain ⟨listed, passes⟩ := List.mem_filter.mp inside
      rw [if_pos member, if_pos member, own e listed, Option.filter_some_pos passes]
      exact ⟨rfl, rfl⟩
    · have none : (s.entryOf n).filter pick = none := by
        refine Option.filter_eq_none_iff.mpr fun e entry passes => member ?_
        exact List.mem_map.mpr ⟨e, List.mem_filter.mpr ⟨List.mem_of_find?_eq_some entry, passes⟩, entryOf_outlet entry⟩
      rw [if_neg member, if_neg member, none]
      exact ⟨rfl, rfl⟩

/-- The outlets of the list after the entries that a test picks have left it. -/
theorem revokeWhere_outlets (s : State) (once : (s.bursts.map BurstEntry.outlet).Nodup) (pick : BurstEntry → Bool)
    (c : BurstCause) :
    (s.revokeWhere pick c).bursts.map BurstEntry.outlet =
      (s.bursts.filter fun e => !pick e).map BurstEntry.outlet := by
  have gone := foldl_removeEntry_outlets (s.bursts.filter pick) c s
  rw [revokeWhere, gone, List.filter_map]
  congr 1
  refine List.filter_congr fun e inside => ?_
  rw [Function.comp_apply, Bool.eq_iff_iff, decide_eq_true_iff, Bool.not_eq_true', List.mem_map]
  constructor
  · exact fun away => Bool.eq_false_iff.mpr fun passes => away ⟨e, List.mem_filter.mpr ⟨inside, passes⟩, rfl⟩
  · rintro fails ⟨x, member, same⟩
    obtain ⟨listed, passes⟩ := List.mem_filter.mp member
    have one := (find?_outlet_of_mem once listed).symm.trans (same ▸ find?_outlet_of_mem once inside)
    rw [Option.some.inj one, fails] at passes
    exact Bool.noConfusion passes

/-! ## Emptying the list (R114) -/

/-- Emptying the list changes outlets, channels, the list, the pending removals and the ports alone. -/
theorem emptyBursts_frame (s : State) :
    let t := s.emptyBursts
    t = { s with outlets := t.outlets, channels := t.channels, bursts := [], ports := t.ports,
                 arbiter := { s.arbiter with removals := [] } } := by
  have frame := s.revokeWhere_frame (fun _ => true) .reset
  have none := s.emptyBursts_empty.1
  change (s.revokeWhere (fun _ => true) .reset).bursts = [] at none
  rw [emptyBursts]
  dsimp only at frame ⊢
  rw [none] at frame
  rw [frame]
  rfl

theorem emptyBursts_outlet (s : State) (n : OutletId) :
    s.emptyBursts.outlet n = unlisted (s.entryOf n) (s.outlet n) ∧
    s.emptyBursts.channel n = unlistedChannel (s.entryOf n) (s.outlet n) (s.channel n) := by
  obtain ⟨outlet, channel⟩ := foldl_revoke_outlet .reset (s.bursts.filter fun _ => true) s n
  change (s.revokeWhere (fun _ => true) .reset).outlet n = _ ∧ (s.revokeWhere (fun _ => true) .reset).channel n = _
  rw [revokeWhere, outlet, channel]
  cases entry : s.entryOf n with
  | none => exact ⟨ite_self _, ite_self _⟩
  | some e =>
    have member : n ∈ (s.bursts.filter fun _ => true).map BurstEntry.outlet :=
      List.mem_map.mpr ⟨e, List.mem_filter.mpr ⟨List.mem_of_find?_eq_some entry, rfl⟩, entryOf_outlet entry⟩
    exact ⟨if_pos member, if_pos member⟩

/-- At the ports a revocation changes BURST_REVOKED alone. -/
theorem removeEntry_revoked_port (s : State) (n : OutletId) (c : BurstCause) (q : Port) :
    (s.removeEntry n (revoked c)).port q = { s.port q with flags := { (s.port q).flags with
      burstRevoked := ((s.removeEntry n (revoked c)).port q).flags.burstRevoked } } := by
  have notice := s.removeEntry_port n (revoked c) q
  rw [entryEvent] at notice
  cases entry : s.entryOf n with
  | none =>
    rw [entry] at notice
    rw [notice]
  | some e =>
    rw [entry] at notice
    by_cases own : e.requester = q
    · rw [notice.trans (if_pos own)]
      rfl
    · rw [notice.trans (if_neg own)]

/-- At the ports emptying the list changes BURST_REVOKED alone. -/
theorem emptyBursts_port (s : State) (q : Port) :
    s.emptyBursts.port q = { s.port q with flags := { (s.port q).flags with
      burstRevoked := (s.emptyBursts.port q).flags.burstRevoked } } :=
  revokeWhere_induct (fun t => t.port q = { s.port q with flags := { (s.port q).flags with
      burstRevoked := (t.port q).flags.burstRevoked } }) s _ _ rfl fun n t same => by
    rw [removeEntry_revoked_port t n .reset q, same]

/-- Emptying the list, from a state whose list and port flags stand as before. -/
theorem emptiedForReset_emptyBursts {s u t : State} (bursts : u.bursts = s.bursts)
    (before : ∀ q, (u.port q).flags.burstRevoked = (s.port q).flags.burstRevoked) (gone : t.bursts = [])
    (after : ∀ q, (t.port q).flags.burstRevoked = (u.emptyBursts.port q).flags.burstRevoked) : EmptiedForReset s t := by
  refine ⟨gone, fun kept q => ?_⟩
  obtain ⟨-, ports, -⟩ := u.revokeWhere_spec (bursts ▸ kept.2) (fun _ => true) .reset
  have notices : (u.emptyBursts.port q).flags.burstRevoked = revokedNotices u q (fun _ => true) .reset :=
    congrArg (fun v : PortUnit => v.flags.burstRevoked) (ports q)
  rw [after, notices, revokedNotices, revokedNotices, bursts, before]

end State

end Sys2Proof.Machine
end

section
set_option Elab.async false
/-! PROOFS. Channels that an event turns off and the settle timers this restarts (R119, R124, R132, R136): a layer shared by the safe patterns, the resets and the end of a load. -/

namespace Sys2Proof.Machine

open Sys2Proof.Statements



/-- A channel that an operation turns off in the period of its branch. -/
def ClosesOn (f : Channel → Channel) (c : Channel) (b : BranchId) : Prop :=
  c.applied ≠ 0 ∧ (f c).applied = 0 ∧ c.inUse.branch = some b

namespace State

/-- An operation on one channel, with the restart of its branch's settle timer where it turns the output off. -/
def closing (f : Channel → Channel) (n : OutletId) (s : State) : State :=
  let t := s.modChannel n f
  if (s.channel n).applied ≠ 0 ∧ (t.channel n).applied = 0 then t.restartSettle (s.channel n).inUse.branch else t

section

variable (f : Channel → Channel) (n : OutletId) (s : State)

theorem closing_driveOnly : DriveOnly s (closing f n s) := by
  unfold closing
  dsimp only
  split
  · exact (modChannel_driveOnly s n f).trans (restartSettle_driveOnly _ _)
  · exact modChannel_driveOnly s n f

theorem closing_channel (m : OutletId) : (closing f n s).channel m = if m = n then f (s.channel n) else s.channel m := by
  unfold closing
  dsimp only
  split
  · rw [restartSettle_channel, modChannel_channel]
  · rw [modChannel_channel]

open Classical in
theorem closing_branch (b : BranchId) :
    (closing f n s).branch b = if ClosesOn f (s.channel n) b then restarted (s.branch b) else s.branch b := by
  unfold closing
  dsimp only
  rw [modChannel_channel_self]
  by_cases off : (s.channel n).applied ≠ 0 ∧ (f (s.channel n)).applied = 0
  · rw [if_pos off, restartSettle_branch]
    exact if_congr ⟨fun h => ⟨off.1, off.2, h⟩, fun h => h.2.2⟩ rfl rfl
  · rw [if_neg off, if_neg fun h : ClosesOn f (s.channel n) b => off ⟨h.1, h.2.1⟩]
    rfl

end

open Classical in
theorem foldl_closing {op : OutletId → State → State} {f : OutletId → Channel → Channel} (s : State)
    (each : ∀ n t, DriveOnly s t → op n t = closing (f n) n t) : ∀ (l : List OutletId) (t : State), l.Nodup →
    DriveOnly s t →
    let u := l.foldl (fun t n => op n t) t
    DriveOnly s u ∧ (∀ n, u.channel n = if n ∈ l then f n (t.channel n) else t.channel n) ∧
    ∀ b, u.branch b = if ∃ n ∈ l, ClosesOn (f n) (t.channel n) b then restarted (t.branch b) else t.branch b
  | [], t, _, drive => ⟨drive, fun n => (if_neg List.not_mem_nil).symm, fun b => (if_neg (by simp)).symm⟩
  | n :: l, t, once, drive => by
    obtain ⟨away, rest⟩ := List.nodup_cons.mp once
    obtain ⟨frame, channels, branches⟩ := foldl_closing s each l (op n t) rest
      (each n t drive ▸ drive.trans (closing_driveOnly (f n) n t))
    rw [each n t drive] at frame channels branches
    have ahead : ∀ m ∈ l, (closing (f n) n t).channel m = t.channel m := fun m hm => by
      rw [closing_channel, if_neg fun same : m = n => away (same ▸ hm)]
    rw [List.foldl_cons, each n t drive]
    refine ⟨frame, fun m => (channels m).trans ?_, fun b => (branches b).trans ?_⟩
    · rw [closing_channel]
      by_cases own : m = n
      · subst own
        rw [if_neg away, if_pos rfl, if_pos List.mem_cons_self]
      · rw [if_neg own]
        exact if_congr (by rw [List.mem_cons, or_iff_right own]) rfl rfl
    · have later : (∃ m ∈ l, ClosesOn (f m) ((closing (f n) n t).channel m) b) ↔
          ∃ m ∈ l, ClosesOn (f m) (t.channel m) b :=
        exists_congr fun m => and_congr_right fun hm => by rw [ahead m hm]
      rw [closing_branch]
      have either : (∃ m ∈ n :: l, ClosesOn (f m) (t.channel m) b) ↔
          ClosesOn (f n) (t.channel n) b ∨ ∃ m ∈ l, ClosesOn (f m) (t.channel m) b := List.exists_mem_cons_iff _ _ _
      by_cases front : ClosesOn (f n) (t.channel n) b <;> by_cases behind : ∃ m ∈ l, ClosesOn (f m) (t.channel m) b
      · rw [if_pos front, if_pos (later.mpr behind), if_pos (either.mpr (.inl front)), restarted_restarted]
      · rw [if_pos front, if_neg (later.not.mpr behind), if_pos (either.mpr (.inl front))]
      · rw [if_neg front, if_pos (later.mpr behind), if_pos (either.mpr (.inr behind))]
      · rw [if_neg front, if_neg (later.not.mpr behind), if_neg (either.not.mpr (not_or.mpr ⟨front, behind⟩))]

/-- An operation of each outlet on its channel, and the queues emptied: every branch restarts once whose outputs were turned off. -/
theorem forOutlets_closing {op : OutletId → State → State} {f : OutletId → Channel → Channel} {s t : State}
    (each : ∀ n t, DriveOnly s t → op n t = closing (f n) n t)
    (all : t = (s.forOutlets op).mapBranches fun _ r => { r with queue := [] }) :
    DriveOnly s t ∧ (∀ n, t.channel n = f n (s.channel n)) ∧
    ∀ b, t.branch b = closes s (fun n => decide ((f n (s.channel n)).applied = 0)) b { s.branch b with queue := [] } := by
  obtain ⟨frame, channels, branches⟩ := foldl_closing s each (List.finRange 24) s (List.nodup_finRange 24) (DriveOnly.refl s)
  subst all
  refine ⟨frame.trans (mapBranches_driveOnly _ _), fun n => ?_, fun b => ?_⟩
  · exact (channels n).trans (if_pos (List.mem_finRange n))
  · rw [mapBranches_branch, forOutlets, branches, closes]
    have named : (∃ n ∈ List.finRange 24, ClosesOn (f n) (s.channel n) b) ↔
        ∃ n, (s.channel n).applied ≠ 0 ∧ decide ((f n (s.channel n)).applied = 0) = true ∧
          (s.channel n).inUse.branch = some b :=
      exists_congr fun n => by
        rw [ClosesOn, decide_eq_true_iff]
        exact ⟨fun h => h.2, fun h => ⟨List.mem_finRange n, h⟩⟩
    by_cases off : ∃ n ∈ List.finRange 24, ClosesOn (f n) (s.channel n) b
    · rw [if_pos off, if_pos (named.mp off)]
      rfl
    · rw [if_neg off, if_neg (named.not.mp off)]

/-! ## The safe patterns (R131, R132) -/

/-- A channel outside TEST takes the safe pattern. -/
def patternedOutsideTest (inSafe : Bool) (c : Channel) : Channel := if c.phase = .test then c else patterned inSafe c

theorem enterPattern_eq (s : State) (n : OutletId) :
    s.enterPattern n = closing (patternedOutsideTest (decide (s.engine.state = .safe))) n s := by
  unfold enterPattern closing patternedOutsideTest
  by_cases test : (s.channel n).phase = .test
  · have same : s.modChannel n (fun c => if c.phase = .test then c else patterned (decide (s.engine.state = .safe)) c) = s := by
      refine (congrArg (fun c => { s with channels := s.channels.set n c }) (if_pos test)).trans ?_
      exact congrArg (fun v => { s with channels := v }) (Vector.set_getElem_self _)
    dsimp only
    rw [if_pos test, same, if_neg fun h => h.1 h.2]
  · have same : s.modChannel n (fun c => if c.phase = .test then c else patterned (decide (s.engine.state = .safe)) c) =
        s.modChannel n (patternChannel (decide (s.engine.state = .safe))) :=
      congrArg (fun c => { s with channels := s.channels.set n c })
        ((if_neg test).trans (patternChannel_eq_patterned _ _).symm)
    dsimp only
    rw [if_neg test, same]

/-- Every channel outside TEST takes the safe pattern of the engine's state. -/
theorem enterPatternAll_spec (s : State) :
    let inSafe := decide (s.engine.state = .safe)
    DriveOnly s s.enterPatternAll ∧ (∀ n, s.enterPatternAll.channel n = patternedOutsideTest inSafe (s.channel n)) ∧
    ∀ b, s.enterPatternAll.branch b =
      closes s (fun n => decide ((patternedOutsideTest inSafe (s.channel n)).applied = 0)) b
        { s.branch b with queue := [] } :=
  forOutlets_closing (fun n t drive => by
    have engine : t.engine = s.engine := (congrArg State.engine drive :)
    rw [enterPattern_eq, engine]) rfl

/-- An entry to a safe pattern, from a state whose channels stand as before. -/
theorem patternsEntered_of_enterPatternAll {s u t : State} {inSafe : Bool}
    (pattern : decide (u.engine.state = .safe) = inSafe) (channels : u.channels = s.channels)
    (branches : u.branches = s.branches) (shown : ∀ n, t.channel n =
      { u.enterPatternAll.channel n with grant := (t.channel n).grant }) (kept : t.branches = u.enterPatternAll.branches) :
    PatternsEntered s t inSafe := by
  obtain ⟨-, outputs, settled⟩ := u.enterPatternAll_spec
  have channel : ∀ n, u.channel n = s.channel n := fun n => by rw [State.channel, channels, State.channel]
  have branch : ∀ b, t.branch b = u.enterPatternAll.branch b := fun b => by rw [State.branch, kept, State.branch]
  have same : ∀ b, u.branch b = s.branch b := fun b => by rw [State.branch, branches, State.branch]
  subst pattern
  refine ⟨fun n outside => ?_, fun n test => ?_, fun b => ?_⟩
  · rw [shown n, outputs, patternedOutsideTest, channel, if_neg outside]
  · rw [shown n, outputs, patternedOutsideTest, channel, if_pos test]
  · rw [branch b, settled, closes, closes, same]
    refine if_congr (exists_congr fun n => ?_) rfl rfl
    rw [channel]
    by_cases test : (s.channel n).phase = .test
    · rw [patternedOutsideTest, if_pos test, decide_eq_true_iff, decide_eq_true_iff]
      exact ⟨fun h => absurd h.2.1 h.1, fun h => absurd test h.2.1.1⟩
    · rw [patternedOutsideTest, if_neg test, decide_eq_true_iff, decide_eq_true_iff]
      exact ⟨fun h => ⟨h.1, ⟨test, h.2.1⟩, h.2.2⟩, fun h => ⟨h.1, h.2.1.2, h.2.2⟩⟩

/-! ## The drive of a reset (R136) -/

/-- Every channel takes its reset values. -/
theorem resetDrive_spec (s : State) :
    DriveOnly s s.resetDrive ∧ (∀ n, s.resetDrive.channel n = resetChannel (s.channel n)) ∧
    ∀ b, s.resetDrive.branch b =
      closes s (fun n => decide ((resetChannel (s.channel n)).applied = 0)) b { s.branch b with queue := [] } :=
  forOutlets_closing (fun _ _ _ => rfl) rfl

/-- Every channel takes its reloaded structure. -/
theorem reloadDrive_spec (s : State) :
    let shown := fun n => reloadChannel (decide (s.engine.state = .safe)) (s.outlet n)
    DriveOnly s s.reloadDrive ∧ (∀ n, s.reloadDrive.channel n = shown n (s.channel n)) ∧
    ∀ b, s.reloadDrive.branch b =
      closes s (fun n => decide ((shown n (s.channel n)).applied = 0)) b { s.branch b with queue := [] } :=
  forOutlets_closing (fun n t drive => by
    have engine : t.engine = s.engine := (congrArg State.engine drive :)
    have outlets : t.outlet n = s.outlet n := (congrArg (State.outlet · n) drive :)
    rw [closing, ← engine, ← outlets]) rfl

end State

end Sys2Proof.Machine
end

section
set_option Elab.async false
/-! PROOFS. The engine-state write and the entry to STANDBY at ENGINE STOP (R157, R158). -/

namespace Sys2Proof.Machine

open Sys2Proof.Statements

namespace State

/-! ## What the freedom of the table looks at -/

/-- Two states where the table is held alike and the same writes wait for it. -/
structure HeldAlike (s t : State) : Prop where
  holder : t.arbiter.holder = s.arbiter.holder
  deferred : t.arbiter.deferred = s.arbiter.deferred
  removals : t.arbiter.removals = s.arbiter.removals
  engineWrite : t.arbiter.engineWrite = s.arbiter.engineWrite
  bursts : t.bursts = s.bursts
  pending : ∀ n, (t.channel n).pendingAbsence = (s.channel n).pendingAbsence ∧
    (t.channel n).pendingSenseEnd = (s.channel n).pendingSenseEnd
  lapsing : ∀ q, (t.port q).link = .lapsing ↔ (s.port q).link = .lapsing

theorem HeldAlike.tableFree {s t : State} (h : HeldAlike s t) : t.tableFree = s.tableFree := by
  simp only [State.tableFree, nextWrite, nextDriveWrite, nextRemoval, nextLapse, h.holder, h.deferred, h.removals,
    h.engineWrite, h.bursts, h.pending, h.lapsing]
  rfl

/-! ## The engine-state write that leaves the burst list (R157) -/

theorem join_grants_ne (w : EngineWrite) : EngineWrite.join w .grants ≠ .none := by
  cases w <;> decide

/-- Raising the write of ENGINE STOP: the grants are 0 at once when the table is free, and the write waits otherwise. -/
theorem raiseGrants_spec (s : State) :
    let t := s.raiseEngineWrite .grants
    t = { s with outlets := t.outlets, channels := t.channels,
                 arbiter := { s.arbiter with engineWrite := t.arbiter.engineWrite } } ∧
    (∀ n, t.channel n = { s.channel n with grant := if s.tableFree = true then 0 else (s.channel n).grant }) ∧
    (s.tableFree = true → t.arbiter.engineWrite = .none ∧ ∀ n, t.outlet n = { s.outlet n with grant := 0 }) ∧
    (s.tableFree = false → t.outlets = s.outlets ∧ t.arbiter.engineWrite ≠ .none) := by
  intro t
  cases free : s.tableFree with
  | true =>
    have written : t = (s.modArbiter fun a => { a with engineWrite := .none }).zeroGrants := if_pos free
    rw [written]
    exact ⟨rfl, fun n => by simp [zeroGrants, zeroDriveGrants], fun _ => ⟨rfl, fun n => by simp [zeroGrants, zeroDriveGrants]⟩,
      fun held => Bool.noConfusion held⟩
  | false =>
    have waits : t = s.modArbiter fun a => { a with engineWrite := EngineWrite.join a.engineWrite .grants } :=
      if_neg (by rw [free]; decide)
    rw [waits]
    exact ⟨rfl, fun n => by simp, fun held => Bool.noConfusion held, fun _ => ⟨rfl, join_grants_ne _⟩⟩

/-! ## The channels of a safe pattern that is entered -/

/-- Taking the pattern keeps the drive grant and the writes that wait. -/
theorem patternedOutsideTest_pending (inSafe : Bool) (c : Channel) :
    (patternedOutsideTest inSafe c).pendingAbsence = c.pendingAbsence ∧
    (patternedOutsideTest inSafe c).pendingSenseEnd = c.pendingSenseEnd ∧
    (patternedOutsideTest inSafe c).grant = c.grant := by
  unfold patternedOutsideTest
  split <;> exact ⟨rfl, rfl, rfl⟩

/-- The table stays free or held when the channels take the safe pattern. -/
theorem enterPatternAll_heldAlike (s : State) : HeldAlike s s.enterPatternAll := by
  obtain ⟨drive, channels, -⟩ := s.enterPatternAll_spec
  refine ⟨congrArg (·.holder) (drive.get State.arbiter), congrArg (·.deferred) (drive.get State.arbiter),
    congrArg (·.removals) (drive.get State.arbiter), congrArg (·.engineWrite) (drive.get State.arbiter),
    drive.get State.bursts, fun n => ?_, fun q => ?_⟩
  · rw [channels]
    exact ⟨(patternedOutsideTest_pending _ _).1, (patternedOutsideTest_pending _ _).2.1⟩
  · rw [drive.get fun s => s.port q]

theorem enterPatternAll_queue (s : State) (b : BranchId) : (s.enterPatternAll.branch b).queue = [] := by
  obtain ⟨-, -, branches⟩ := s.enterPatternAll_spec
  rw [branches, closes]
  split <;> rfl

/-! ## The engine in another state, its rounds stopped (R26, R29, R155) -/

/-- The port units after an engine state has been taken: ENGINE_STATE where it is another one. -/
theorem setEngine_port (s : State) (e : EngineState) (q : Port) :
    (s.setEngine e).port q = { s.port q with flags := { (s.port q).flags with
      engineState := (s.port q).flags.engineState || decide (s.engine.state ≠ e) } } := by
  by_cases same : s.engine.state = e
  · rw [setEngine, if_pos same]
    simp [same]
  · rw [setEngine_ne s e same, postAll_port]
    simp [same, withEvent, EventFlags.post]

/-- The engine takes a state and its rounds stop. -/
theorem stopRounds_setEngine (s : State) (e : EngineState) :
    (s.setEngine e).stopRounds = { s with
      engine := { s.engine with state := e }
      steam := { s.steam with timer := none }, water := { s.water with timer := none }
      arbiter := { s.arbiter with steamRequest := false, waterRequest := false }
      ports := (s.setEngine e).ports } := by
  by_cases same : s.engine.state = e
  · subst same
    rw [setEngine, if_pos rfl]
    rfl
  · rw [setEngine_ne s e same]
    rfl

theorem stopRounds_setEngine_port (s : State) (e : EngineState) (q : Port) :
    (s.setEngine e).stopRounds.port q = (s.setEngine e).port q := rfl

theorem stopRounds_setEngine_heldAlike (s : State) (e : EngineState) : HeldAlike s (s.setEngine e).stopRounds := by
  have frame := stopRounds_setEngine s e
  exact ⟨congrArg (·.arbiter.holder) frame, congrArg (·.arbiter.deferred) frame, congrArg (·.arbiter.removals) frame,
    congrArg (·.arbiter.engineWrite) frame, (congrArg State.bursts frame :),
    fun n => ⟨(congrArg (fun t => (State.channel t n).pendingAbsence) frame :),
      (congrArg (fun t => (State.channel t n).pendingSenseEnd) frame :)⟩,
    fun q => by rw [stopRounds_setEngine_port, setEngine_port]⟩

theorem HeldAlike.trans {s t u : State} (h : HeldAlike s t) (k : HeldAlike t u) : HeldAlike s u :=
  ⟨k.holder.trans h.holder, k.deferred.trans h.deferred, k.removals.trans h.removals, k.engineWrite.trans h.engineWrite,
    k.bursts.trans h.bursts, fun n => ⟨(k.pending n).1.trans (h.pending n).1, (k.pending n).2.trans (h.pending n).2⟩,
    fun q => (k.lapsing q).trans (h.lapsing q)⟩

/-- The table stays free or held when a frame is taken at a port that is not lapsing. -/
theorem heard_heldAlike {s : State} {p : Port} (present : (s.port p).link ≠ .lapsing) : HeldAlike s (s.heard p) := by
  refine ⟨rfl, rfl, rfl, rfl, rfl, fun n => ⟨rfl, rfl⟩, fun q => ?_⟩
  by_cases own : q = p
  · subst own
    rw [heard_port]
    exact ⟨nofun, fun h => absurd h present⟩
  · rw [heard_port_ne s p q own]

/-- The engine halts in STANDBY with its rounds stopped and its channels in the safe pattern. -/
theorem enterPatternAll_halted (s : State) (e : EngineState) :
    let t := (s.setEngine e).stopRounds.enterPatternAll
    t = { s with
      engine := { s.engine with state := e }
      steam := { s.steam with timer := none }, water := { s.water with timer := none }
      arbiter := { s.arbiter with steamRequest := false, waterRequest := false }
      ports := (s.setEngine e).ports, channels := t.channels, branches := t.branches } ∧
    t.tableFree = s.tableFree ∧ ∀ t', (∀ n, t'.channel n = { t.channel n with grant := (t'.channel n).grant }) →
      t'.branches = t.branches → PatternsEntered s t' (decide (e = .safe)) := by
  intro t
  have frame := stopRounds_setEngine s e
  refine ⟨?_, ?_, fun t' shown kept => ?_⟩
  · have drive : DriveOnly _ t := enterPatternAll_driveOnly _
    rw [DriveOnly, frame] at drive
    exact drive
  · exact ((stopRounds_setEngine_heldAlike s e).trans (enterPatternAll_heldAlike _)).tableFree
  · refine patternsEntered_of_enterPatternAll (u := (s.setEngine e).stopRounds) ?_ ?_ ?_ shown kept
    · rw [frame]
    · rw [frame]
    · rw [frame]

end State

/-- Settles O21 (R131, R132, R157, R158): the rounds stop, the channels take the pattern of STANDBY, the write is raised. -/
theorem engineStopEntersStandby : Obligations.EngineStopEntersStandby := by
  intro s p receives right op running
  have leaves : (s.heard p).engine.state ≠ .standby := by
    rcases running with run | service
    · simp [run]
    · simp [service]
  have check : (s.heard p).checkEngine .engineStop p = none :=
    State.checkEngine_none (by simpa using right) (State.engineBusy_eq_false op nofun nofun) (by
      rcases running with run | service
      · simp [run, State.engineTakenFrom]
      · simp [service, State.engineTakenFrom])
  have stopped := State.engineOk_ok State.runEngineStop check
  have free : (s.heard p).tableFree = s.tableFree := (State.heard_heldAlike receives.2.2).tableFree
  obtain ⟨halted, same, entered⟩ := (s.heard p).enterPatternAll_halted .standby
  have queues := fun b => ((s.heard p).setEngine .standby).stopRounds.enterPatternAll_queue b
  have grants : ∀ n, (((s.heard p).setEngine .standby).stopRounds.enterPatternAll.channel n).grant = (s.channel n).grant :=
    fun n => by
      obtain ⟨-, shown, -⟩ := ((s.heard p).setEngine .standby).stopRounds.enterPatternAll_spec
      rw [shown, (State.patternedOutsideTest_pending _ _).2.2, State.stopRounds_setEngine]
      rfl
  rw [State.runEngineStop] at stopped
  generalize ((s.heard p).setEngine .standby).stopRounds.enterPatternAll = u at *
  obtain ⟨frame, channels, raised, waits⟩ := u.raiseGrants_spec
  rw [same, free] at channels raised waits
  generalize u.raiseEngineWrite .grants = t at *
  have branches : t.branches = u.branches := (congrArg State.branches frame :)
  have ports : t.ports = ((s.heard p).setEngine .standby).ports := (congrArg State.ports frame :).trans (congrArg State.ports halted :)
  have posted : ∀ q, t.port q = withEvent ((s.heard p).port q) .engineState := fun q => by
    rw [State.port, ports]
    change ((s.heard p).setEngine .standby).port q = _
    rw [State.setEngine_ne _ _ leaves, State.postAll_port]
    rfl
  have patterns : PatternsEntered s t false := entered t (fun n => by rw [channels]) branches
  obtain ⟨outside, inTest, -⟩ := id patterns
  have whole := frame
  rw [halted] at whole
  have arbiter := (congrArg State.arbiter whole :)
  refine ⟨_, State.exec_direct (c := .engineStop) (pl := []) receives nofun rfl rfl stopped, (congrArg State.engine whole :),
    (congrArg State.steam whole :), (congrArg State.water whole :),
    ⟨(congrArg State.stores whole :), (congrArg State.reference whole :), (congrArg State.ratio whole :),
      (congrArg State.pulse whole :), (congrArg State.scan whole :)⟩,
    ⟨(congrArg State.inputs whole :), (congrArg State.store whole :), (congrArg State.pending whole :)⟩,
    (congrArg State.profile whole :), (congrArg State.bursts whole :), (congrArg Arbiter.steamRequest arbiter :),
    (congrArg Arbiter.waterRequest arbiter :), (congrArg Arbiter.holder arbiter :), fun n moving => ?_, fun n test => ?_,
    fun b => ?_, patterns, fun hfree => ?_, fun hheld => ?_,
    State.portAnswered_respond s _ p _ (allEvent s .engineState) ?_ fun q hq => ?_⟩
  · rw [State.respond_channel]
    change (t.channel n).phase = _ ∧ (t.channel n).override = _ ∧ (t.channel n).dwellLeft = _
    rw [outside n moving]
    exact ⟨rfl, rfl, rfl⟩
  · rw [State.respond_channel]
    change (t.channel n).phase = _
    rw [inTest n test]
    exact test
  · exact (congrArg Branch.queue (congrArg (fun v : Vector Branch 6 => v[b]) branches)).trans (queues b)
  · obtain ⟨written, zero⟩ := raised hfree
    refine ⟨written, fun n => ⟨(zero n).trans ?_, ?_⟩⟩
    · exact congrArg (fun o : Outlet => { o with grant := 0 }) (congrArg (State.outlet · n) halted :)
    · rw [State.respond_channel]
      exact (congrArg Channel.grant (channels n)).trans (if_pos hfree)
  · obtain ⟨records, waiting⟩ := waits hheld
    refine ⟨records.trans (congrArg State.outlets halted :), waiting, fun n => ?_⟩
    have held : ¬ s.tableFree = true := by rw [hheld]; decide
    exact (congrArg Channel.grant (channels n)).trans ((if_neg held).trans (grants n))
  · exact (posted p).trans ((State.withEvent_heard_port s p p _).trans (if_pos rfl))
  · exact (posted q).trans ((State.withEvent_heard_port s p q _).trans (if_neg hq))

end Sys2Proof.Machine
end



section
set_option Elab.async false
/-! PROOFS. The entry to SAFE (R157, R160): the senses end, the channels take the pattern, the grants go to 0 and the burst list empties. -/

namespace Sys2Proof.Machine

open Sys2Proof.Statements

/-! ## Events posted outlet by outlet (R151, R152) -/

/-- A flag that operations lower outlet by outlet, where each one looks at its outlet's view alone. -/
theorem foldl_view_lowest {σ α β : Type*} {f : OutletId → σ → σ} {C : σ → β} {g : OutletId → σ → α}
    {F : σ → Option OutletId} {K : OutletId → β → α → Bool} (context : ∀ n s, C (f n s) = C s)
    (other : ∀ n m s, n ≠ m → g n (f m s) = g n s)
    (post : ∀ n s, F (f n s) = if K n (C s) (g n s) = true then lowerIndex (F s) n else F s) :
    ∀ (l : List OutletId) (s : σ), l.Nodup →
    F (l.foldl (fun t n => f n t) s) = (l.filter fun n => K n (C s) (g n s)).foldl lowerIndex (F s)
  | [], _, _ => rfl
  | m :: l, s, once => by
    obtain ⟨away, rest⟩ := List.nodup_cons.mp once
    have ahead : (l.filter fun n => K n (C (f m s)) (g n (f m s))) = l.filter fun n => K n (C s) (g n s) :=
      List.filter_congr fun n member => by rw [context, other n m s fun same => away (same ▸ member)]
    rw [List.foldl_cons, foldl_view_lowest context other post l (f m s) rest, ahead, post]
    by_cases here : K m (C s) (g m s) = true
    · rw [if_pos here, List.filter_cons_of_pos (p := fun n => K n (C s) (g n s)) here, List.foldl_cons]
    · rw [if_neg here, List.filter_cons_of_neg (p := fun n => K n (C s) (g n s)) here]

namespace State

/-- A flag that the operations of all outlets lower, by the events their readers get. -/
theorem forOutlets_lowest {α β : Type*} {f : OutletId → State → State} {C : State → β} {g : OutletId → State → α}
    {F : State → Option OutletId} {pick : OutletId → Bool} (K : OutletId → β → α → Bool) (s : State) (q : Port)
    (context : ∀ n s, C (f n s) = C s) (other : ∀ n m s, n ≠ m → g n (f m s) = g n s)
    (post : ∀ n s, F (f n s) = if K n (C s) (g n s) = true then lowerIndex (F s) n else F s)
    (picked : ∀ n, K n (C s) (g n s) = (pick n && (s.rights q n).read)) :
    F (s.forOutlets f) = lowestPosted s q (F s) pick := by
  have lowest := foldl_view_lowest context other post (List.finRange 24) s (List.nodup_finRange 24)
  simp only [picked] at lowest
  exact lowest

/-! ## The end of every sense (R18, R130, R160) -/



/-- The end of one sense, where the record is SENSING. -/
def endSenseOf (n : OutletId) (s : State) : State :=
  if isSensing (s.outlet n).condition then (s.endTest n).endSense n .unknown else s

/-- What the end of a sense changes nothing of. -/
def besideSenses (s : State) : State :=
  { s with outlets := State.reset.outlets, channels := State.reset.channels, ports := State.reset.ports }

/-- What an outlet shows to the operations that go over the outlets: its record, its channel, and who reads it. -/
def viewOf (n : OutletId) (s : State) : Outlet × Channel × (Port → OutletRights) :=
  (s.outlet n, s.channel n, fun q => s.rights q n)

theorem endSenseOf_beside (n : OutletId) (s : State) : besideSenses (endSenseOf n s) = besideSenses s := by
  unfold endSenseOf
  split <;> rfl

theorem endSenseOf_port (n : OutletId) (s : State) (q : Port) :
    ((endSenseOf n s).port q) = { s.port q with flags := { (s.port q).flags with
      senseDone := if isSensing (s.outlet n).condition && (s.rights q n).read
        then lowerIndex (s.port q).flags.senseDone n else (s.port q).flags.senseDone } } := by
  by_cases sensing : isSensing (s.outlet n).condition = true
  · obtain ⟨-, -, -, ports⟩ := (s.endTest n).endSense_spec n .unknown
    have posted : (endSenseOf n s).port q = readEvent s n (.senseDone n) q := by
      rw [endSenseOf, if_pos sensing, ports]
      exact readEvent_congr _ rfl (rights_congr rfl rfl rfl)
    rw [posted, readEvent, sensing, Bool.true_and]
    by_cases reads : (s.rights q n).read = true
    · rw [if_pos reads, if_pos reads]
      rfl
    · rw [if_neg reads, if_neg reads]
  · rw [endSenseOf, if_neg sensing, if_neg (by rw [Bool.eq_false_iff.mpr sensing]; simp)]

/-- An outlet at the end of every sense. -/
def senseEnded (o : Outlet) : Outlet :=
  if isSensing o.condition then { o with condition := priorOf o.condition, continuity := .unknown } else o

/-- The channel of an outlet at the end of every sense, while the safe pattern is shown or not. -/
def senseEndedChannel (pattern : Bool) (o : Outlet) (c : Channel) : Channel :=
  if isSensing o.condition then
    { c with phase := if pattern then .safePattern else .off, output := .off, applied := 0, holdLeft := none
             condition := priorOf o.condition, watchCount := 0, watchLatch := false }
  else c

theorem endSenseOf_own (n : OutletId) (s : State) :
    viewOf n (endSenseOf n s) = (senseEnded (s.outlet n), senseEndedChannel (besideSenses s).inPattern (s.outlet n) (s.channel n),
      fun q => s.rights q n) := by
  have rights : ∀ q, (endSenseOf n s).rights q n = s.rights q n := fun q => by
    refine rights_congr (by rw [endSenseOf_port]) (by rw [endSenseOf]; split <;> rfl) ?_
    by_cases sensing : isSensing (s.outlet n).condition = true
    · rw [endSenseOf, if_pos sensing, ((s.endTest n).endSense_spec n .unknown).1]
      rfl
    · rw [endSenseOf, if_neg sensing]
  refine Prod.ext ?_ (Prod.ext ?_ (funext rights))
  · change (endSenseOf n s).outlet n = senseEnded (s.outlet n)
    by_cases sensing : isSensing (s.outlet n).condition = true
    · rw [endSenseOf, if_pos sensing, ((s.endTest n).endSense_spec n .unknown).1, senseEnded, if_pos sensing]
      rfl
    · rw [endSenseOf, if_neg sensing, senseEnded, if_neg sensing]
  · change (endSenseOf n s).channel n = senseEndedChannel (besideSenses s).inPattern (s.outlet n) (s.channel n)
    by_cases sensing : isSensing (s.outlet n).condition = true
    · rw [endSenseOf, if_pos sensing, ((s.endTest n).endSense_spec n .unknown).2.1, senseEndedChannel, if_pos sensing, endTest,
        modChannel_channel_self]
      rfl
    · rw [endSenseOf, if_neg sensing, senseEndedChannel, if_neg sensing]

theorem endSenseOf_other {n m : OutletId} (s : State) (h : n ≠ m) : viewOf n (endSenseOf m s) = viewOf n s := by
  obtain ⟨-, -, others, -⟩ := (s.endTest m).endSense_spec m .unknown
  have outlet : (endSenseOf m s).outlet n = s.outlet n := by
    unfold endSenseOf
    split
    · exact (others n h).1
    · rfl
  have channel : (endSenseOf m s).channel n = s.channel n := by
    unfold endSenseOf
    split
    · exact (others n h).2.trans (modChannel_channel_ne s _ h)
    · rfl
  have rights : ∀ q, (endSenseOf m s).rights q n = s.rights q n := fun q =>
    rights_congr (by rw [endSenseOf_port]) (by rw [endSenseOf]; split <;> rfl) (by rw [outlet])
  exact Prod.ext outlet (Prod.ext channel (funext rights))

/-- Every sense ends with UNKNOWN, and its readers get SENSE_DONE. -/
theorem endAllSenses_spec (s : State) :
    let t := s.endAllSenses
    t = { s with outlets := t.outlets, channels := t.channels, ports := t.ports } ∧
    (∀ n, t.outlet n = senseEnded (s.outlet n) ∧
      t.channel n = senseEndedChannel s.inPattern (s.outlet n) (s.channel n)) ∧
    ∀ q, t.port q = { s.port q with flags := { (s.port q).flags with
      senseDone := lowestPosted s q (s.port q).flags.senseDone fun n => isSensing (s.outlet n).condition } } := by
  rw [show s.endAllSenses = s.forOutlets endSenseOf from rfl]
  obtain ⟨beside, views⟩ := s.forOutlets_view (f := endSenseOf) (C := besideSenses) (g := viewOf)
    (φ := fun _ c v => (senseEnded v.1, senseEndedChannel c.inPattern v.1 v.2.1, v.2.2))
    endSenseOf_beside endSenseOf_own fun _ _ u h => endSenseOf_other u h
  have flag : ∀ q, ((s.forOutlets endSenseOf).port q).flags.senseDone =
      lowestPosted s q (s.port q).flags.senseDone fun n => isSensing (s.outlet n).condition := fun q =>
    forOutlets_lowest (f := endSenseOf) (C := besideSenses) (g := viewOf) (F := fun u => (u.port q).flags.senseDone)
      (fun _ _ v => isSensing v.1.condition && (v.2.2 q).read) s q endSenseOf_beside
      (fun _ _ u h => endSenseOf_other u h) (fun n u => by rw [endSenseOf_port]; rfl) fun _ => rfl
  have others : ∀ q, (s.forOutlets endSenseOf).port q = { s.port q with flags := { (s.port q).flags with
      senseDone := ((s.forOutlets endSenseOf).port q).flags.senseDone } } := fun q =>
    forOutlets_induct (fun u => u.port q = { s.port q with flags := { (s.port q).flags with
      senseDone := (u.port q).flags.senseDone } }) endSenseOf s rfl fun n u same => by
        rw [endSenseOf_port, same]
  generalize s.forOutlets endSenseOf = t at *
  refine ⟨?_, fun n => ⟨congrArg Prod.fst (views n), congrArg (fun v => v.2.1) (views n)⟩, fun q => ?_⟩
  · have frame : t = { besideSenses t with outlets := t.outlets, channels := t.channels, ports := t.ports } := rfl
    rw [beside] at frame
    exact frame
  · rw [← flag]
    exact others q

end State

end Sys2Proof.Machine
end

section
set_option Elab.async false
/-! PROOFS. The write that zeroes the grants and empties the burst list, and the entry to SAFE as a whole (R114, R157, R160). -/

namespace Sys2Proof.Machine

open Sys2Proof.Statements

namespace State

/-! ## The write of SAFE (R157) -/

theorem unlisted_grant_zero (entry : Option BurstEntry) (o : Outlet) :
    unlisted entry { o with grant := 0 } = { o with grant := 0, burstRef := o.burstRef && entry.isNone } := by
  cases entry with
  | none => simp [unlisted]
  | some e => simp [unlisted, lowered]

theorem unlistedChannel_grant_zero (entry : Option BurstEntry) (o : Outlet) (c : Channel) :
    unlistedChannel entry { o with grant := 0 } c = c := by
  cases entry with
  | none => rfl
  | some e => simp [unlistedChannel, loweredChannel]

/-- The outlet records, the channels and the list after the write of SAFE. -/
theorem writeEngine_safe (s : State) :
    let t := s.writeEngine .grantsAndBursts
    t = { s with outlets := t.outlets, channels := t.channels, bursts := [], ports := t.ports,
                 arbiter := { s.arbiter with removals := [], engineWrite := .none } } ∧
    (∀ n, t.outlet n = { s.outlet n with grant := 0, burstRef := (s.outlet n).burstRef && (s.entryOf n).isNone } ∧
      t.channel n = { s.channel n with grant := 0 }) ∧
    (∀ q, t.port q = { s.port q with flags := { (s.port q).flags with burstRevoked := (t.port q).flags.burstRevoked } }) ∧
    ∀ r : State, s.bursts = r.bursts → (∀ q, (s.port q).flags.burstRevoked = (r.port q).flags.burstRevoked) →
      EmptiedForReset r t := by
  intro t
  have written : t = (s.modArbiter fun a => { a with engineWrite := .none }).zeroGrants.emptyBursts := rfl
  have zeroOutlet : ∀ n, (s.modArbiter fun a => { a with engineWrite := .none }).zeroGrants.outlet n =
      { s.outlet n with grant := 0 } := fun n => by simp [zeroGrants, zeroDriveGrants]
  have zeroChannel : ∀ n, (s.modArbiter fun a => { a with engineWrite := .none }).zeroGrants.channel n =
      { s.channel n with grant := 0 } := fun n => by simp [zeroGrants, zeroDriveGrants]
  have zeroed : (s.modArbiter fun a => { a with engineWrite := .none }).zeroGrants =
      { s with
        outlets := (s.modArbiter fun a => { a with engineWrite := .none }).zeroGrants.outlets
        channels := (s.modArbiter fun a => { a with engineWrite := .none }).zeroGrants.channels
        arbiter := { s.arbiter with engineWrite := .none } } := rfl
  clear_value t
  generalize (s.modArbiter fun a => { a with engineWrite := .none }).zeroGrants = u at *
  have bursts : u.bursts = s.bursts := (congrArg State.bursts zeroed :)
  have ports : ∀ q, u.port q = s.port q := fun q => (congrArg (State.port · q) zeroed :)
  have entry : ∀ n, u.entryOf n = s.entryOf n := fun n => by rw [entryOf, entryOf, bursts]
  have frame := u.emptyBursts_frame
  have outlets := u.emptyBursts_outlet
  have notices := u.emptyBursts_port
  have gone := u.emptyBursts_empty.1
  have emptied : ∀ r : State, u.bursts = r.bursts → (∀ q, (u.port q).flags.burstRevoked = (r.port q).flags.burstRevoked) →
      EmptiedForReset r u.emptyBursts := fun r same before => emptiedForReset_emptyBursts same before gone fun _ => rfl
  rw [← written] at frame outlets notices emptied
  refine ⟨?_, fun n => ⟨?_, ?_⟩, fun q => ?_, fun r same before => ?_⟩
  · rw [zeroed] at frame
    exact frame
  · rw [(outlets n).1, zeroOutlet, entry, unlisted_grant_zero]
  · rw [(outlets n).2, zeroOutlet, zeroChannel, unlistedChannel_grant_zero]
  · rw [← ports]
    exact notices q
  · exact emptied r (bursts.trans same) fun q => by rw [ports, before]

theorem join_grantsAndBursts (w : EngineWrite) : EngineWrite.join w .grantsAndBursts = .grantsAndBursts := by
  cases w <;> rfl

/-- Raising the write of SAFE: it is carried out at once when the table is free, and waits otherwise. -/
theorem raiseSafe_of_free {s : State} (free : s.tableFree = true) :
    s.raiseEngineWrite .grantsAndBursts = s.writeEngine .grantsAndBursts := if_pos free

theorem raiseSafe_of_held {s : State} (held : s.tableFree = false) :
    s.raiseEngineWrite .grantsAndBursts =
      { s with arbiter := { s.arbiter with engineWrite := .grantsAndBursts } } := by
  have raised : s.raiseEngineWrite .grantsAndBursts =
      s.modArbiter fun a => { a with engineWrite := EngineWrite.join a.engineWrite .grantsAndBursts } :=
    if_neg (by rw [held]; decide)
  rw [raised, modArbiter, join_grantsAndBursts]

/-! ## The channels at the entry to SAFE -/

/-- A sense ended and the pattern of SAFE taken. -/
theorem patternedOutsideTest_senseEnded (o : Outlet) (c : Channel) :
    patternedOutsideTest true (senseEndedChannel true o c) = safeChannel o.condition c := by
  unfold senseEndedChannel safeChannel patternedOutsideTest
  by_cases sensing : isSensing o.condition = true
  · have prior : priorOf o.condition ≠ .active := by
      cases condition : o.condition with
      | sensing k => cases k <;> simp [priorOf]
      | active | parked | absent => simp [condition, isSensing] at sensing
    rw [if_pos sensing, if_pos sensing]
    simp [patterned, patternLine, prior]
  · rw [if_neg sensing, if_neg sensing]

theorem safeChannel_grant (k : Condition) (c : Channel) : (safeChannel k c).grant = c.grant := by
  unfold safeChannel
  split
  · rfl
  · split <;> rfl

/-- Only a channel whose sense has not ended there is turned off by the pattern. -/
theorem closesOn_senseEnded (o : Outlet) (c : Channel) (b : BranchId) :
    ClosesOn (patternedOutsideTest true) (senseEndedChannel true o c) b ↔
      c.applied ≠ 0 ∧ (isSensing o.condition = false ∧ c.phase ≠ .test ∧ (patterned true c).applied = 0) ∧
        c.inUse.branch = some b := by
  unfold ClosesOn senseEndedChannel
  by_cases sensing : isSensing o.condition = true
  · rw [if_pos sensing]
    exact ⟨fun h => absurd rfl h.1, fun h => absurd sensing (by rw [h.2.1.1]; decide)⟩
  · rw [if_neg sensing, patternedOutsideTest]
    by_cases test : c.phase = .test
    · rw [if_pos test]
      exact ⟨fun h => absurd h.2.1 h.1, fun h => absurd test h.2.1.2.1⟩
    · rw [if_neg test]
      exact ⟨fun h => ⟨h.1, ⟨Bool.eq_false_iff.mpr sensing, test, h.2.1⟩, h.2.2⟩, fun h => ⟨h.1, h.2.1.2.2, h.2.2⟩⟩

/-- The part up to the write of SAFE: the engine in SAFE, its rounds stopped, the senses ended, the pattern shown. -/
def safeShown (s : State) : State := (s.setEngine .safe).stopRounds.endAllSenses.enterPatternAll

theorem endAllSenses_heldAlike (s : State) : HeldAlike s s.endAllSenses := by
  obtain ⟨frame, views, ports⟩ := s.endAllSenses_spec
  refine ⟨(congrArg (·.arbiter.holder) frame :), (congrArg (·.arbiter.deferred) frame :), (congrArg (·.arbiter.removals) frame :),
    (congrArg (·.arbiter.engineWrite) frame :), (congrArg State.bursts frame :), fun n => ?_, fun q => by rw [ports]⟩
  rw [(views n).2, senseEndedChannel]
  split <;> exact ⟨rfl, rfl⟩

theorem safeShown_heldAlike (s : State) : HeldAlike s s.safeShown :=
  ((stopRounds_setEngine_heldAlike s .safe).trans (endAllSenses_heldAlike _)).trans (enterPatternAll_heldAlike _)

theorem safeShown_frame (s : State) :
    s.safeShown = { s with
      engine := { s.engine with state := .safe }
      steam := { s.steam with timer := none }, water := { s.water with timer := none }
      arbiter := { s.arbiter with steamRequest := false, waterRequest := false }
      outlets := s.safeShown.outlets, channels := s.safeShown.channels, branches := s.safeShown.branches
      ports := s.safeShown.ports } := by
  have halted := stopRounds_setEngine s .safe
  obtain ⟨ended, -, -⟩ := (s.setEngine .safe).stopRounds.endAllSenses_spec
  have shown : DriveOnly _ s.safeShown := enterPatternAll_driveOnly (s.setEngine .safe).stopRounds.endAllSenses
  rw [DriveOnly] at shown
  generalize s.safeShown = t at *
  generalize (s.setEngine .safe).stopRounds.endAllSenses = u at *
  rw [halted] at ended
  rw [ended] at shown
  rw [shown]

/-- The senses of a halted part end. -/
theorem endAllSenses_halted (s : State) :
    let t := (s.setEngine .safe).stopRounds.endAllSenses
    t.engine.state = .safe ∧ t.branches = s.branches ∧
    (∀ n, t.outlet n = senseEnded (s.outlet n) ∧ t.channel n = senseEndedChannel true (s.outlet n) (s.channel n)) ∧
    ∀ q, t.port q = { s.port q with flags := { (s.port q).flags with
      engineState := (s.port q).flags.engineState || decide (s.engine.state ≠ .safe)
      senseDone := lowestPosted s q (s.port q).flags.senseDone fun n => isSensing (s.outlet n).condition } } := by
  have halted := stopRounds_setEngine s .safe
  have posted := fun q => (stopRounds_setEngine_port s .safe q).trans (s.setEngine_port .safe q)
  obtain ⟨ended, views, ports⟩ := (s.setEngine .safe).stopRounds.endAllSenses_spec
  generalize (s.setEngine .safe).stopRounds.endAllSenses = t at *
  generalize (s.setEngine .safe).stopRounds = u at *
  have pattern : u.inPattern = true := by rw [halted]; rfl
  have outlets : ∀ n, u.outlet n = s.outlet n := fun n => (congrArg (State.outlet · n) halted :)
  have channels : ∀ n, u.channel n = s.channel n := fun n => (congrArg (State.channel · n) halted :)
  have rights : ∀ q n, u.rights q n = s.rights q n := fun q n =>
    rights_congr (by rw [posted]) (congrArg State.inputs halted :) (by rw [outlets])
  refine ⟨?_, ?_, fun n => ?_, fun q => ?_⟩
  · rw [ended, halted]
  · rw [ended, halted]
  · rw [(views n).1, (views n).2, pattern, outlets, channels]
    exact ⟨rfl, rfl⟩
  · rw [ports, posted]
    simp only [lowestPosted, rights, outlets]

theorem safeShown_spec (s : State) :
    (∀ n, s.safeShown.outlet n = senseEnded (s.outlet n) ∧
      s.safeShown.channel n = safeChannel (s.outlet n).condition (s.channel n)) ∧
    (∀ b, s.safeShown.branch b = closes s (fun n => decide (isSensing (s.outlet n).condition = false ∧
      (s.channel n).phase ≠ .test ∧ (patterned true (s.channel n)).applied = 0)) b { s.branch b with queue := [] }) ∧
    ∀ q, s.safeShown.port q = { s.port q with flags := { (s.port q).flags with
      engineState := (s.port q).flags.engineState || decide (s.engine.state ≠ .safe)
      senseDone := lowestPosted s q (s.port q).flags.senseDone fun n => isSensing (s.outlet n).condition } } := by
  obtain ⟨safe, branches, views, ports⟩ := s.endAllSenses_halted
  obtain ⟨drive, shown, settled⟩ := (s.setEngine .safe).stopRounds.endAllSenses.enterPatternAll_spec
  change DriveOnly _ s.safeShown at drive
  change ∀ n, s.safeShown.channel n = _ at shown
  change ∀ b, s.safeShown.branch b = _ at settled
  generalize s.safeShown = t at *
  generalize (s.setEngine .safe).stopRounds.endAllSenses = u at *
  rw [safe] at shown settled
  refine ⟨fun n => ⟨?_, ?_⟩, fun b => (settled b).trans ?_, fun q => ?_⟩
  · rw [← (views n).1]
    exact (congrArg (State.outlet · n) drive :)
  · rw [shown, (views n).2, decide_eq_true rfl, patternedOutsideTest_senseEnded]
  · have branch : u.branch b = s.branch b := by rw [State.branch, branches, State.branch]
    rw [closes, closes, branch]
    refine if_congr (exists_congr fun n => ?_) rfl rfl
    rw [(views n).2, decide_eq_true_iff, decide_eq_true_iff]
    exact closesOn_senseEnded (s.outlet n) (s.channel n) b
  · rw [← ports]
    exact (congrArg (State.port · q) drive :)

/-- The entry to SAFE from any other state (R160). -/
theorem enterSafe_spec {s : State} (awake : s.engine.state ≠ .safe) :
    SafeEntered s s.enterSafe (fun q => (s.port q).flags) ∧ MeasureKept s s.enterSafe ∧ RestKept s s.enterSafe ∧
    ∀ q, s.enterSafe.port q = { s.port q with flags := (s.enterSafe.port q).flags } := by
  have entered : s.enterSafe = s.safeShown.raiseEngineWrite .grantsAndBursts := if_neg awake
  have alike := s.safeShown_heldAlike
  have frame := s.safeShown_frame
  obtain ⟨views, branches, ports⟩ := s.safeShown_spec
  simp only [ne_eq, awake, not_false_eq_true, decide_true, Bool.or_true] at ports
  have free := alike.tableFree
  have bursts : s.safeShown.bursts = s.bursts := alike.bursts
  have entry : ∀ n, s.safeShown.entryOf n = s.entryOf n := fun n => by rw [entryOf, entryOf, bursts]
  rw [entered]
  generalize s.safeShown = u at *
  cases h : s.tableFree with
  | true =>
    rw [raiseSafe_of_free (free.trans h)]
    obtain ⟨written, zero, notices, emptied⟩ := u.writeEngine_safe
    generalize u.writeEngine .grantsAndBursts = t at *
    have kept : t.branches = u.branches := (congrArg State.branches written :)
    rw [frame] at written
    refine ⟨⟨(congrArg State.engine written :), (congrArg State.steam written :), (congrArg State.water written :),
      (congrArg State.profile written :), ?_, fun _ => emptied s bursts fun q => by rw [ports],
      fun held => absurd (held.symm.trans h) (by decide), fun n => ?_, fun n => ?_, fun b => ?_, fun q => ?_⟩,
      ⟨(congrArg State.stores written :), (congrArg State.reference written :), (congrArg State.ratio written :),
        (congrArg State.pulse written :), (congrArg State.scan written :)⟩,
      ⟨(congrArg State.inputs written :), (congrArg State.store written :), (congrArg State.pending written :)⟩, fun q => ?_⟩
    · rw [if_pos h]
      exact (congrArg State.arbiter written :)
    · rw [h, (zero n).1, (views n).1, entry]
      rfl
    · rw [if_pos h, (zero n).2, (views n).2]
    · rw [← branches]
      exact congrArg (fun v : Vector Branch 6 => v[b]) kept
    · rw [notices, ports]
    · rw [notices, ports]
  | false =>
    rw [raiseSafe_of_held (free.trans h)]
    generalize written : ({ u with arbiter := { u.arbiter with engineWrite := .grantsAndBursts } } : State) = t
    have kept : ∀ n, t.outlet n = u.outlet n ∧ t.channel n = u.channel n := fun n => written ▸ ⟨rfl, rfl⟩
    have units : ∀ q, t.port q = u.port q := fun q => written ▸ rfl
    have branch : ∀ b, t.branch b = u.branch b := fun b => written ▸ rfl
    have list : t.bursts = u.bursts := written ▸ rfl
    rw [frame] at written
    refine ⟨⟨(congrArg State.engine written.symm :), (congrArg State.steam written.symm :),
      (congrArg State.water written.symm :), (congrArg State.profile written.symm :), ?_,
      fun free => absurd (free.symm.trans h) (by decide), fun _ => ⟨list.trans bursts, fun q => by rw [units, ports]⟩,
      fun n => ?_, fun n => ?_, fun b => (branch b).trans (branches b), fun q => ?_⟩,
      ⟨(congrArg State.stores written.symm :), (congrArg State.reference written.symm :),
        (congrArg State.ratio written.symm :), (congrArg State.pulse written.symm :), (congrArg State.scan written.symm :)⟩,
      ⟨(congrArg State.inputs written.symm :), (congrArg State.store written.symm :),
        (congrArg State.pending written.symm :)⟩, fun q => ?_⟩
    · rw [h]
      exact (congrArg State.arbiter written.symm :)
    · rw [h]
      exact (kept n).1.trans (views n).1
    · rw [h, if_neg Bool.false_ne_true, (kept n).2, (views n).2, ← safeChannel_grant (s.outlet n).condition]
    · rw [units, ports]
    · rw [units, ports]

/-- The measurement side of a state and its port units from another state. -/
def measuredAs (s t : State) : State :=
  { s with stores := t.stores, reference := t.reference, ratio := t.ratio, pulse := t.pulse, scan := t.scan, ports := t.ports }

/-- An entry to SAFE looks at nothing of the measurement side, and of the ports at rights, pending lapses and flags alone. -/
theorem safeEntered_congr {s v t u : State} {before : Port → EventFlags} (h : SafeEntered v u before)
    (start : v = measuredAs s v) (configs : ∀ q, (v.port q).config = (s.port q).config)
    (lapsing : ∀ q, (v.port q).link = .lapsing ↔ (s.port q).link = .lapsing)
    (revoked : ∀ q, (v.port q).flags.burstRevoked = (s.port q).flags.burstRevoked) (result : t = measuredAs u t)
    (flags : ∀ q, (t.port q).flags = (u.port q).flags) : SafeEntered s t before := by
  obtain ⟨engine, steam, water, profile, arbiter, emptied, held, outlets, channels, branches, ports⟩ := h
  have outlet : ∀ n, v.outlet n = s.outlet n := fun n => (congrArg (State.outlet · n) start :)
  have channel : ∀ n, v.channel n = s.channel n := fun n => (congrArg (State.channel · n) start :)
  have branch : ∀ b, v.branch b = s.branch b := fun b => (congrArg (State.branch · b) start :)
  have bursts : v.bursts = s.bursts := (congrArg State.bursts start :)
  have entry : ∀ n, v.entryOf n = s.entryOf n := fun n => by rw [entryOf, entryOf, bursts]
  have alike : HeldAlike s v :=
    ⟨(congrArg (·.arbiter.holder) start :), (congrArg (·.arbiter.deferred) start :), (congrArg (·.arbiter.removals) start :),
      (congrArg (·.arbiter.engineWrite) start :), bursts, fun n => by rw [channel]; exact ⟨rfl, rfl⟩, lapsing⟩
  have rights : ∀ q n, v.rights q n = s.rights q n := fun q n =>
    rights_congr (configs q) (congrArg State.inputs start :) (by rw [outlet])
  simp only [alike.tableFree, outlet, channel, branch, entry, bursts] at arbiter emptied held outlets channels branches
  refine ⟨?_, ?_, ?_, ?_, ?_, fun free => ?_, fun waits => ?_, fun n => ?_, fun n => ?_, fun b => ?_, fun q => ?_⟩
  · rw [result, ← show v.engine = s.engine from (congrArg State.engine start :)]
    exact engine
  · rw [result, ← show v.steam = s.steam from (congrArg State.steam start :)]
    exact steam
  · rw [result, ← show v.water = s.water from (congrArg State.water start :)]
    exact water
  · rw [result, ← show v.profile = s.profile from (congrArg State.profile start :)]
    exact profile
  · rw [result, ← show v.arbiter = s.arbiter from (congrArg State.arbiter start :)]
    exact arbiter
  · obtain ⟨gone, notices⟩ := emptied free
    refine ⟨(congrArg State.bursts result :).trans gone, fun kept q => ?_⟩
    rw [flags, notices (by rw [BurstsKept, bursts]; exact kept), revokedNotices, revokedNotices, bursts, revoked]
  · obtain ⟨list, notices⟩ := held waits
    exact ⟨(congrArg State.bursts result :).trans list, fun q => by rw [flags, notices]⟩
  · exact (congrArg (State.outlet · n) result :).trans (outlets n)
  · exact (congrArg (State.channel · n) result :).trans (channels n)
  · refine (congrArg (State.branch · b) result :).trans ((branches b).trans ?_)
    simp only [closes, channel]
  · rw [flags, ports]
    simp only [lowestPosted, rights, outlet]

/-- The entry to SAFE that the Measurement Unit asks for (R93, R114, R160). -/
theorem requestSafe_spec {s : State} (awake : s.engine.state ≠ .safe) :
    SafeEntered (noRemovals s) s.requestSafe (fun q => (s.port q).flags) ∧ MeasureKept s s.requestSafe ∧
    RestKept s s.requestSafe ∧ ∀ q, s.requestSafe.port q = { s.port q with flags := (s.requestSafe.port q).flags } := by
  have entered : s.requestSafe = (noRemovals s).enterSafe := if_neg awake
  rw [entered]
  exact enterSafe_spec (s := noRemovals s) awake

theorem requestSafe_of_safe {s : State} (asleep : s.engine.state = .safe) : s.requestSafe = s := if_pos asleep

theorem safeEntered_removals {s t : State} {before : Port → EventFlags} (h : SafeEntered (noRemovals s) t before) :
    t.arbiter.removals = [] := by
  obtain ⟨-, -, -, -, arbiter, -⟩ := h
  rw [arbiter]
  split <;> rfl

end State

end Sys2Proof.Machine
end

section
set_option Elab.async false
/-! PROOFS. The reference: its conversions, its fault actions and its hold (R84, R86, R90 to R93). -/

namespace Sys2Proof.Machine

open Sys2Proof.Statements

namespace State

/-! ## The fault actions (R90 to R93) -/

theorem startHold_spec (s : State) :
    s.startHold = { s with ratio := s.startHold.ratio, reference := { s.reference with hold := some 30000 } } ∧
    ∀ m, s.startHold.ratioChannel m = { s.ratioChannel m with
      stale := (s.ratioChannel m).stale || decide ((s.ratioChannel m).state = .valid ∨ (s.ratioChannel m).state = .suspect) } := by
  refine ⟨rfl, fun m => ?_⟩
  rw [startHold, ratioChannel, ratioChannel]
  simp only [mapRatio, tabulate_getElem, Fin.getElem_fin]
  generalize s.ratio[m.val] = c
  obtain ⟨state, _⟩ := c
  cases state <;> simp

theorem endHold_spec (s : State) :
    s.endHold = { s with ratio := s.endHold.ratio, reference := { s.reference with hold := none } } ∧
    ∀ m, s.endHold.ratioChannel m = { s.ratioChannel m with stale := false } :=
  ⟨rfl, fun m => (mapRatio_ratioChannel s (fun _ c => { c with stale := false }) m :)⟩

theorem faultAll_spec (s : State) :
    s.faultAll = { s with ratio := s.faultAll.ratio, stores := s.faultAll.stores } ∧
    (∀ m, ChannelFaulted (s.ratioChannel m) (s.faultAll.ratioChannel m)) ∧
    ∀ i, s.faultAll.storeRec i = { s.storeRec i with reading := s.faultAll.formReading (s.storeRec i).settings } := by
  refine ⟨rfl, fun m => ?_, fun i => mapStores_storeRec _ _ i⟩
  rw [ChannelFaulted, faultAll, reformAll, mapStores_ratioChannel_kept, mapRatio_ratioChannel]
  cases state : (s.ratioChannel m).state <;> simp [RatioChannel.toFault]

/-- Carrying out a fault action leaves the conversion's result, the scan and the pulses alone, and the ports but for flags. -/
theorem faultEntry_kept (s : State) (a : FaultAction) :
    (s.faultEntry a).reference = { s.reference with hold := (s.faultEntry a).reference.hold } ∧
    (s.faultEntry a).scan = s.scan ∧ (s.faultEntry a).pulse = s.pulse ∧ RestKept s (s.faultEntry a) ∧
    ∀ q, (s.faultEntry a).port q = { s.port q with flags := ((s.faultEntry a).port q).flags } := by
  cases a with
  | hold => exact ⟨rfl, rfl, rfl, ⟨rfl, rfl, rfl⟩, fun _ => rfl⟩
  | invalid => exact ⟨rfl, rfl, rfl, ⟨rfl, rfl, rfl⟩, fun _ => rfl⟩
  | safe =>
    rw [faultEntry]
    by_cases asleep : s.engine.state = .safe
    · rw [requestSafe_of_safe asleep]
      exact ⟨rfl, rfl, rfl, ⟨rfl, rfl, rfl⟩, fun _ => rfl⟩
    · obtain ⟨-, ⟨-, reference, -, pulse, scan⟩, rest, ports⟩ := requestSafe_spec asleep
      exact ⟨by rw [reference], scan, pulse, rest, ports⟩

/-! ## The conversion (R86, R90) -/

/-- The scan goes on after a reference conversion. -/
theorem advanceScan_reference {s : State} (slot : s.scan.slot = .reference) : ScanGoesOn s.advanceScan 0 := by
  refine scanGoesOn_slotFrom (s := s) rfl ?_
  rw [advanceScan, slot]

/-- The reference with the result of a conversion written, before what follows from it. -/
def referenceRead (s : State) (count : Option Word) : State :=
  { s with reference := { s.reference with state := refStateOf count, lastCount := lastCountOf count } }

theorem referenceRead_faulty (s : State) (count : Option Word) :
    (s.referenceRead count).refFaulty = !(count.any fun w => decide (2000 ≤ w.toNat ∧ w.toNat ≤ 20000)) := by
  cases count with
  | none => rfl
  | some w =>
    by_cases good : 2000 ≤ w.toNat ∧ w.toNat ≤ 20000
    · simp [referenceRead, refFaulty, refStateOf, good]
    · simp only [referenceRead, refFaulty, refStateOf, if_neg good, Option.any_some, decide_eq_false good]
      rfl

theorem refFaulty_iff (s : State) : s.refFaulty = true ↔ s.reference.state = .refFault := decide_eq_true_iff

/-- The part after a conversion, with its fault action or the end of its hold carried out, before the scan goes on. -/
def referenceSettled (s : State) (count : Option Word) : State :=
  let t := s.referenceRead count
  if t.refFaulty && !s.refFaulty then (t.postAll .sensorFault).faultEntry s.reference.action
  else if s.refFaulty && !t.refFaulty then t.endHold
  else t

theorem convertReference_eq (s : State) (count : Option Word) :
    s.convertReference count = (s.referenceSettled count).advanceScan := rfl

theorem referenceSettled_entry {s : State} {count : Option Word} (fails : (s.referenceRead count).refFaulty = true)
    (sound : s.reference.state ≠ .refFault) :
    s.referenceSettled count = ((s.referenceRead count).postAll .sensorFault).faultEntry s.reference.action := by
  have before : s.refFaulty = false := decide_eq_false sound
  rw [referenceSettled, fails, before]
  rfl

theorem referenceSettled_same {s : State} {count : Option Word}
    (same : (s.referenceRead count).refFaulty = s.refFaulty) : s.referenceSettled count = s.referenceRead count := by
  rw [referenceSettled, same]
  cases s.refFaulty <;> rfl

theorem referenceSettled_recovery {s : State} {count : Option Word} (good : (s.referenceRead count).refFaulty = false)
    (faulty : s.reference.state = .refFault) : s.referenceSettled count = (s.referenceRead count).endHold := by
  have before : s.refFaulty = true := decide_eq_true faulty
  rw [referenceSettled, good, before]
  rfl

theorem referenceSettled_kept (s : State) (count : Option Word) :
    let t := s.referenceSettled count
    t.reference = { s.reference with state := refStateOf count, lastCount := lastCountOf count, hold := t.reference.hold } ∧
    t.scan = s.scan ∧ t.pulse = s.pulse ∧ RestKept s t := by
  dsimp only
  unfold referenceSettled
  dsimp only
  split
  · obtain ⟨reference, scan, pulse, rest, -⟩ :=
      ((s.referenceRead count).postAll .sensorFault).faultEntry_kept s.reference.action
    exact ⟨reference, scan, pulse, rest⟩
  · split
    · exact ⟨rfl, rfl, rfl, rfl, rfl, rfl⟩
    · exact ⟨rfl, rfl, rfl, rfl, rfl, rfl⟩

end State

/-! ## The two rows -/

/-- What a conversion of the reference leaves, apart from the fault action. -/
theorem State.convertReference_kept {s : State} (count : Option Word) (slot : s.scan.slot = .reference) :
    let t := s.convertReference count
    t.reference.state = (match count with
      | some w => if (!(count.any fun w => decide (2000 ≤ w.toNat ∧ w.toNat ≤ 20000))) = true
        then .refFault else .valid w.toNat
      | none => .refFault) ∧
    t.reference.lastCount = (match count with
      | some w => .count w
      | none => .overflow) ∧
    t.reference.action = s.reference.action ∧ ScanGoesOn t 0 ∧ t.pulse = s.pulse ∧ RestKept s t := by
  intro t
  obtain ⟨reference, scan, pulse, rest⟩ := s.referenceSettled_kept count
  have reference' : t.reference = _ := reference
  refine ⟨?_, ?_, ?_, State.advanceScan_reference ((congrArg (·.slot) scan).trans slot), pulse, rest⟩
  · rw [reference']
    cases count with
    | none => rfl
    | some w =>
      by_cases good : 2000 ≤ w.toNat ∧ w.toNat ≤ 20000
      · simp [State.refStateOf, good]
      · simp only [State.refStateOf, if_neg good, Option.any_some, decide_eq_false good]
        rfl
  · rw [reference']
    cases count <;> rfl
  · rw [reference']

/-- An entry to REF_FAULT whose action leaves the engine alone. -/
theorem State.faultEntry_awake (s : State) {a : FaultAction} (other : a ≠ .safe) :
    s.faultEntry a = { s with
      ratio := (s.faultEntry a).ratio, reference := (s.faultEntry a).reference, stores := (s.faultEntry a).stores } := by
  cases a with
  | hold | invalid => rfl
  | safe => exact absurd rfl other

/-- An entry to REF_FAULT: SENSOR_FAULT at every port, and the fault action. -/
theorem State.referenceEntry_spec (s : State) (count : Option Word) :
    let t := (((s.referenceRead count).postAll .sensorFault).faultEntry s.reference.action).advanceScan
    (∀ q, (t.port q).flags.sensorFault = true) ∧
    (∀ q, t.port q = { s.port q with flags := (t.port q).flags }) ∧
    (s.reference.action ≠ .safe → RecordsKept s t ∧ DriveKept s t ∧ PoolsKept s t ∧ ArbiterKept s t ∧
      ∀ q, t.port q = withEvent (s.port q) .sensorFault) ∧
    (s.reference.action = .hold → t.reference.hold = some 30000 ∧ EngineKept s t ∧ t.stores = s.stores ∧
      ∀ m, t.ratioChannel m = { s.ratioChannel m with
        stale := (s.ratioChannel m).stale ||
          decide ((s.ratioChannel m).state = .valid ∨ (s.ratioChannel m).state = .suspect) }) ∧
    (s.reference.action = .invalid → EngineKept s t ∧ t.reference.hold = s.reference.hold ∧
      (∀ i, t.storeRec i = { s.storeRec i with reading := t.formReading (s.storeRec i).settings }) ∧
      ∀ m, ChannelFaulted (s.ratioChannel m) (t.ratioChannel m)) ∧
    (s.reference.action = .safe → t.engine.state = .safe ∧ t.ratio = s.ratio ∧ t.stores = s.stores ∧
      (s.engine.state = .safe → RecordsKept s t ∧ DriveKept s t ∧ PoolsKept s t ∧ EngineKept s t ∧
        ArbiterKept s t ∧ ∀ q, t.port q = withEvent (s.port q) .sensorFault) ∧
      (s.engine.state ≠ .safe → t.arbiter.removals = [] ∧
        SafeEntered (noRemovals s) t fun q => (s.port q).flags.post .sensorFault)) := by
  have posted := fun q => (s.referenceRead count).postAll_port .sensorFault q
  have read : (s.referenceRead count).postAll .sensorFault = { s with
      reference := ((s.referenceRead count).postAll .sensorFault).reference
      ports := ((s.referenceRead count).postAll .sensorFault).ports } := rfl
  have hold : ((s.referenceRead count).postAll .sensorFault).reference.hold = s.reference.hold := rfl
  change ∀ q, _ = withEvent (s.port q) .sensorFault at posted
  generalize (s.referenceRead count).postAll .sensorFault = w at *
  have flagged : ∀ q, (withEvent (s.port q) .sensorFault).flags.sensorFault = true := fun _ => rfl
  have channel : ∀ m, w.ratioChannel m = s.ratioChannel m := fun m => (congrArg (State.ratioChannel · m) read :)
  have storeRec : ∀ i, w.storeRec i = s.storeRec i := fun i => (congrArg (State.storeRec · i) read :)
  have awake : ∀ a, a ≠ .safe → RecordsKept s (w.faultEntry a) ∧ DriveKept s (w.faultEntry a) ∧ PoolsKept s (w.faultEntry a) ∧
      ArbiterKept s (w.faultEntry a) ∧ ∀ q, (w.faultEntry a).port q = withEvent (s.port q) .sensorFault := fun a other => by
    have kept := w.faultEntry_awake other
    have units : ∀ q, (w.faultEntry a).port q = withEvent (s.port q) .sensorFault :=
      fun q => (congrArg (State.port · q) kept :).trans (posted q)
    generalize w.faultEntry a = u at *
    rw [read] at kept
    exact ⟨⟨(congrArg State.outlets kept :), (congrArg State.profile kept :), (congrArg State.bursts kept :)⟩,
      ⟨(congrArg State.channels kept :), (congrArg State.branches kept :)⟩,
      ⟨(congrArg State.steam kept :), (congrArg State.water kept :)⟩, (congrArg State.arbiter kept :), units⟩
  have engine : w.engine = s.engine := (congrArg State.engine read :)
  have stores : w.stores = s.stores := (congrArg State.stores read :)
  cases s.reference.action with
  | hold =>
    obtain ⟨records, drive, pools, arbiter, units⟩ := awake .hold nofun
    refine ⟨fun q => (congrArg (·.flags.sensorFault) (units q)).trans (flagged q),
      fun q => (units q).trans (congrArg (fun f => { s.port q with flags := f }) (congrArg PortUnit.flags (units q)).symm),
      fun _ => ⟨records, drive, pools, arbiter, units⟩, fun _ => ⟨rfl, engine, stores, fun m => ?_⟩, nofun, nofun⟩
    rw [← channel]
    exact w.startHold_spec.2 m
  | invalid =>
    obtain ⟨records, drive, pools, arbiter, units⟩ := awake .invalid nofun
    obtain ⟨-, faulted, formed⟩ := w.faultAll_spec
    refine ⟨fun q => (congrArg (·.flags.sensorFault) (units q)).trans (flagged q),
      fun q => (units q).trans (congrArg (fun f => { s.port q with flags := f }) (congrArg PortUnit.flags (units q)).symm),
      fun _ => ⟨records, drive, pools, arbiter, units⟩, nofun, fun _ => ⟨engine, hold, fun i => ?_, fun m => ?_⟩, nofun⟩
    · rw [← storeRec]
      exact formed i
    · rw [← channel]
      exact faulted m
  | safe =>
    by_cases asleep : s.engine.state = .safe
    · have same : w.faultEntry .safe = w := State.requestSafe_of_safe (engine ▸ asleep)
      rw [same]
      have records : RecordsKept s w :=
        ⟨(congrArg State.outlets read :), (congrArg State.profile read :), (congrArg State.bursts read :)⟩
      have drive : DriveKept s w := ⟨(congrArg State.channels read :), (congrArg State.branches read :)⟩
      have pools : PoolsKept s w := ⟨(congrArg State.steam read :), (congrArg State.water read :)⟩
      have arbiter : ArbiterKept s w := (congrArg State.arbiter read :)
      have ratio : w.ratio = s.ratio := (congrArg State.ratio read :)
      exact ⟨fun q => (congrArg (·.flags.sensorFault) (posted q)).trans (flagged q),
        fun q => (posted q).trans (congrArg (fun f => { s.port q with flags := f }) (congrArg PortUnit.flags (posted q)).symm),
        fun h => absurd rfl h, nofun, nofun,
        fun _ => ⟨(congrArg (·.state) engine).trans asleep, ratio, stores,
          fun _ => ⟨records, drive, pools, engine, arbiter, posted⟩, fun h => absurd asleep h⟩⟩
    · have awake : w.engine.state ≠ .safe := engine ▸ asleep
      obtain ⟨entered, ⟨stores', -, ratio', -, -⟩, -, units⟩ := State.requestSafe_spec awake
      have whole : SafeEntered (noRemovals s) w.requestSafe.advanceScan fun q => (s.port q).flags.post .sensorFault := by
        have before : (fun q => (w.port q).flags) = fun q => (s.port q).flags.post .sensorFault :=
          funext fun q => congrArg PortUnit.flags (posted q)
        refine State.safeEntered_congr (v := noRemovals w) (u := w.requestSafe) (before ▸ entered) (by rw [read]; rfl)
          (fun q => ?_) (fun q => ?_) (fun q => ?_) rfl fun q => rfl
        · exact (congrArg PortUnit.config (posted q) :)
        · exact Iff.of_eq (congrArg (fun u : PortUnit => u.link = .lapsing) (posted q) :)
        · exact (congrArg (fun u : PortUnit => u.flags.burstRevoked) (posted q) :)
      have flags : ∀ q, (w.requestSafe.port q).flags.sensorFault = true := fun q => by
        obtain ⟨-, -, -, -, -, -, -, -, -, -, ports⟩ := whole
        exact congrArg EventFlags.sensorFault (ports q)
      refine ⟨flags, fun q => (units q).trans ?_, fun h => absurd rfl h, nofun, nofun, fun _ =>
        ⟨?_, ratio'.trans (congrArg State.ratio read :), stores'.trans stores, fun h => absurd h asleep,
          fun _ => ⟨State.safeEntered_removals whole, whole⟩⟩⟩
      · rw [posted]
        rfl
      · obtain ⟨taken, -⟩ := whole
        exact congrArg EngineControl.state taken

/-- Settles O51 (R84, R86, R90 to R93): the reference takes the result, and a change into or out of REF_FAULT has its effects. -/
theorem referenceConversionSetsTheReference : Obligations.ReferenceConversionSetsTheReference := by
  intro s
  refine ⟨fun count started slot => ?_, fun runs => ?_⟩
  · intro fails
    have row : exec (.referenceConversion count) s = .next (s.convertReference count) :=
      congrArg Host.Outcome.next (if_pos ⟨by simp [started], slot⟩)
    obtain ⟨state, last, action, goes, pulse, rest⟩ := State.convertReference_kept count slot
    have read : (s.referenceRead count).refFaulty = fails := s.referenceRead_faulty count
    rw [State.convertReference_eq] at row state last action goes pulse rest
    refine ⟨_, row, state, last, action, goes, pulse, rest, fun bad sound => ?_, fun bad faulty => ?_, fun good => ?_⟩
    · rw [State.referenceSettled_entry (read.trans bad) sound]
      exact State.referenceEntry_spec s count
    · have same : (s.referenceRead count).refFaulty = s.refFaulty := by
        rw [read, bad, State.refFaulty, decide_eq_true faulty]
      rw [State.referenceSettled_same same]
      exact ⟨⟨rfl, rfl, rfl⟩, ⟨rfl, rfl⟩, ⟨rfl, rfl⟩, rfl, rfl, rfl, rfl, rfl, rfl⟩
    · by_cases faulty : s.reference.state = .refFault
      · rw [State.referenceSettled_recovery (read.trans good) faulty]
        exact ⟨⟨rfl, rfl, rfl⟩, ⟨rfl, rfl⟩, ⟨rfl, rfl⟩, rfl, rfl, rfl, rfl,
          fun _ => ⟨rfl, fun m => (s.referenceRead count).endHold_spec.2 m⟩, fun sound => absurd faulty sound⟩
      · have same : (s.referenceRead count).refFaulty = s.refFaulty := by
          rw [read, good, State.refFaulty, decide_eq_false faulty]
        rw [State.referenceSettled_same same]
        exact ⟨⟨rfl, rfl, rfl⟩, ⟨rfl, rfl⟩, ⟨rfl, rfl⟩, rfl, rfl, rfl, rfl, fun h => absurd h faulty, fun _ => ⟨rfl, rfl⟩⟩
  · have row : exec .holdTimerExpiry s = .next s.expireHold :=
      congrArg Host.Outcome.next (if_pos (Option.isSome_iff_ne_none.mpr runs))
    obtain ⟨frame, channels, stores⟩ := (({ s with reference := { s.reference with hold := none } } : State).postAll
      .sensorFault).faultAll_spec
    exact ⟨_, row, rfl, channels, fun q => State.postAll_port _ _ q, stores, ⟨rfl, rfl, rfl⟩, ⟨rfl, rfl⟩, ⟨rfl, rfl⟩, rfl, rfl,
      ⟨rfl, rfl, rfl⟩, rfl, rfl⟩

end Sys2Proof.Machine
end

section
set_option Elab.async false
/-! PROOFS. SET CHANNEL, taken in STANDBY (R90 to R93, R96, R97). -/

namespace Sys2Proof.Machine

open Sys2Proof.Statements

namespace State

/-! ## The fault action (R97) -/

/-- The reference with another fault action written, its hold ended. -/
def actionWritten (s : State) (a : FaultAction) : State :=
  ({ s with reference := { s.reference with action := a } } : State).endHold

theorem actionWritten_spec (s : State) (a : FaultAction) :
    s.actionWritten a = { s with
      ratio := (s.actionWritten a).ratio, reference := { s.reference with action := a, hold := none } } ∧
    ∀ m, (s.actionWritten a).ratioChannel m = { s.ratioChannel m with stale := false } :=
  ⟨rfl, (endHold_spec _).2⟩

theorem setFaultAction_faulty {s : State} {a : FaultAction} (faulty : s.reference.state = .refFault)
    (other : a ≠ s.reference.action) : s.setFaultAction a = (s.actionWritten a).faultEntry a := by
  have entry : State.refFaulty { s with reference := { s.reference with action := a } } = true := decide_eq_true faulty
  rw [setFaultAction, if_neg (Ne.symm other)]
  exact if_pos entry

theorem setFaultAction_sound {s : State} {a : FaultAction} (h : s.reference.state ≠ .refFault ∨ a = s.reference.action) :
    s.setFaultAction a = { s with reference := { s.reference with action := a } } := by
  by_cases same : s.reference.action = a
  · rw [setFaultAction, if_pos same, ← same]
  · have sound : s.reference.state ≠ .refFault := h.resolve_right (Ne.symm same)
    have calm : ¬ State.refFaulty { s with reference := { s.reference with action := a } } = true := by
      rw [refFaulty_iff]
      exact sound
    rw [setFaultAction, if_neg same]
    exact if_neg calm

/-- The stores after a new fault action: they form their readings again where the channels go to FAULT. -/
theorem faultEntry_storeRec (s : State) (a : FaultAction) (i : StoreId) :
    (s.faultEntry a).storeRec i = if a = .invalid
      then { s.storeRec i with reading := (s.faultEntry a).formReading (s.storeRec i).settings } else s.storeRec i := by
  cases a with
  | hold => rfl
  | invalid => exact s.faultAll_spec.2.2 i
  | safe =>
    rw [faultEntry]
    by_cases asleep : s.engine.state = .safe
    · rw [requestSafe_of_safe asleep]
      rfl
    · obtain ⟨-, ⟨stores, -⟩, -⟩ := requestSafe_spec asleep
      rw [storeRec, stores]
      rfl

/-! ## The commands -/

section

variable {s : State} {p : Port}

theorem doSetChannel_reference (right : (s.globals p).admin = true) (standby : s.engine.state = .standby) (a : FaultAction) :
    s.doSetChannel p [0x00, BitVec.ofNat 8 (faultActionCode a)] = done (s.setFaultAction a) false := by
  have named : channel? (0x00 : Byte) = some .reference := rfl
  have action : faultAction? (BitVec.ofNat 8 (faultActionCode a)) = some a := by cases a <;> rfl
  simp only [doSetChannel, right, byteAt_cons_zero, byteAt_cons_succ, named, action, standby, not_true, ne_eq, if_false]

theorem doSetChannel_ratio (right : (s.globals p).admin = true) (standby : s.engine.state = .standby) (m : RatioId) (e : Bool)
    (v : Byte) :
    s.doSetChannel p [BitVec.ofNat 8 (0x10 + m.val), BitVec.ofNat 8 (bit e), v] =
      { state := s.setRatio m e (clampInt (-50) 50 v.toInt)
        result := if v.toInt < -50 ∨ 50 < v.toInt then .clamped else .ok, payload := [] } := by
  have enable : enable? (BitVec.ofNat 8 (bit e)) = some e := by cases e <;> rfl
  have outside : clampInt (-50) 50 v.toInt ≠ v.toInt ↔ v.toInt < -50 ∨ 50 < v.toInt := by
    unfold clampInt
    omega
  have trim : s8At [BitVec.ofNat 8 (0x10 + m.val), BitVec.ofNat 8 (bit e), v] 2 = v.toInt := rfl
  simp only [doSetChannel, right, byteAt_cons_zero, byteAt_cons_succ, channel?_ratio, enable, standby, trim, not_true, ne_eq,
    if_false]
  rw [done_if]
  exact congrArg (fun r => Answer.mk (s.setRatio m e (clampInt (-50) 50 v.toInt)) r [])
    (if_congr outside rfl rfl)

theorem doSetChannel_pulse (right : (s.globals p).admin = true) (standby : s.engine.state = .standby) (f : PulseId) (w : Byte) :
    s.doSetChannel p [BitVec.ofNat 8 (0x20 + f.val), w] =
      { state := s.modPulse f fun c => { c with weight := clampNat 1 100 w.toNat }
        result := if w.toNat = 0 ∨ 100 < w.toNat then .clamped else .ok, payload := [] } := by
  have outside : clampNat 1 100 w.toNat ≠ w.toNat ↔ w.toNat = 0 ∨ 100 < w.toNat := by
    unfold clampNat
    omega
  have weight : u8At [BitVec.ofNat 8 (0x20 + f.val), w] 1 = w.toNat := rfl
  simp only [doSetChannel, right, byteAt_cons_zero, channel?_pulse, standby, weight, not_true, ne_eq, if_false]
  rw [done_if]
  exact congrArg (fun r => Answer.mk (s.modPulse f fun c => { c with weight := clampNat 1 100 w.toNat }) r []) (if_congr outside rfl rfl)

end

/-- A response leaves the flags of every port. -/
theorem respond_port_flags (a : Answer) (p q : Port) (code : Byte) (revived : Bool) :
    ((respond a p code revived).port q).flags = (a.state.port q).flags := by
  simp only [respond, answer, modPort_port]
  split
  · rename_i own
    rw [own]
  · rfl

theorem setChannel_lengthOk_reference (b : Byte) : Code.setChannel.lengthOk [0x00, b] = true := rfl

theorem setChannel_lengthOk_ratio (m : RatioId) (b c : Byte) :
    Code.setChannel.lengthOk [BitVec.ofNat 8 (0x10 + m.val), b, c] = true := by
  simp only [Code.lengthOk, setChannelLengthOk, byteAt_cons_zero, channel?_ratio]
  rfl

theorem setChannel_lengthOk_pulse (f : PulseId) (b : Byte) :
    Code.setChannel.lengthOk [BitVec.ofNat 8 (0x20 + f.val), b] = true := by
  simp only [Code.lengthOk, setChannelLengthOk, byteAt_cons_zero, channel?_pulse]
  rfl

/-! ## Ratio channels (R97) -/

theorem namesChannel_iff (c : StoreSettings) (m : RatioId) :
    namesChannel c m = true ↔ c.primary = some m ∨ c.secondary = some m := by
  simp [namesChannel]

/-- The stores that name a channel form their readings again, and nothing else changes. -/
theorem reformFor_spec (s : State) (m : RatioId) :
    s.reformFor m = { s with stores := (s.reformFor m).stores } ∧
    ∀ i, (s.reformFor m).storeRec i =
      if (s.storeRec i).settings.primary = some m ∨ (s.storeRec i).settings.secondary = some m
      then { s.storeRec i with reading := (s.reformFor m).formReading (s.storeRec i).settings } else s.storeRec i := by
  refine ⟨rfl, fun i => ?_⟩
  have formed : (s.reformFor m).storeRec i = if namesChannel (s.storeRec i).settings m
      then { s.storeRec i with reading := s.formReading (s.storeRec i).settings } else s.storeRec i := mapStores_storeRec s _ i
  rw [formed]
  exact if_congr (namesChannel_iff _ m) rfl rfl

theorem disableRatio_spec (s : State) (m : RatioId) :
    let t := s.disableRatio m
    t = { s with ratio := t.ratio, scan := t.scan, stores := t.stores } ∧
    t.ratioChannel m = { s.ratioChannel m with
      state := .disabled, strikes := 0, reading := none, stale := false, lastCause := .none } ∧
    (∀ k, k ≠ m → t.ratioChannel k = s.ratioChannel k) ∧ (s.scan.slot ≠ .ratio m → t.scan = s.scan) ∧
    (s.scan.slot = .ratio m → ScanGoesOn t (m.val + 1)) ∧
    ∀ i, t.storeRec i = if (s.storeRec i).settings.primary = some m ∨ (s.storeRec i).settings.secondary = some m
      then { s.storeRec i with reading := t.formReading (s.storeRec i).settings } else s.storeRec i := by
  intro t
  let u := s.modRatio m fun c => { c with state := .disabled, strikes := 0, reading := none, stale := false, lastCause := .none }
  have own : u.ratioChannel m = { s.ratioChannel m with
      state := .disabled, strikes := 0, reading := none, stale := false, lastCause := .none } :=
    modRatio_ratioChannel_self s m _
  have others : ∀ k, k ≠ m → u.ratioChannel k = s.ratioChannel k := fun k hk => modRatio_ratioChannel_ne s _ hk
  by_cases here : s.scan.slot = .ratio m
  · have shape : t = (u.advanceScan).reformFor m := congrArg (State.reformFor · m) (if_pos here)
    have scan : u.advanceScan.scan = { slot := u.slotFrom (m.val + 1), gateLeft := 100 } := by
      rw [advanceScan, show u.scan.slot = .ratio m from here]
    rw [shape]
    exact ⟨rfl, own, others, fun away => absurd here away, fun _ => scanGoesOn_slotFrom (s := u) rfl scan,
      (reformFor_spec u.advanceScan m).2⟩
  · have shape : t = u.reformFor m := congrArg (State.reformFor · m) (if_neg here)
    rw [shape]
    exact ⟨rfl, own, others, fun _ => rfl, fun there => absurd there here, (reformFor_spec u m).2⟩

theorem enableRatio_spec (s : State) (m : RatioId) :
    let t := s.enableRatio m
    t = { s with ratio := t.ratio, stores := t.stores } ∧
    t.ratioChannel m = { s.ratioChannel m with
      state := .suspect, strikes := 0, reading := none, stale := s.reference.hold.isSome, lastCount := .none,
      lastCause := .none } ∧
    (∀ k, k ≠ m → t.ratioChannel k = s.ratioChannel k) ∧
    ∀ i, t.storeRec i = if (s.storeRec i).settings.primary = some m ∨ (s.storeRec i).settings.secondary = some m
      then { s.storeRec i with reading := t.formReading (s.storeRec i).settings } else s.storeRec i := by
  let u := s.modRatio m fun c => { c with
    state := .suspect, strikes := 0, reading := none, stale := s.reference.hold.isSome, lastCount := .none, lastCause := .none }
  have own : u.ratioChannel m = _ := modRatio_ratioChannel_self s m _
  have others : ∀ k, k ≠ m → u.ratioChannel k = s.ratioChannel k := fun k hk => modRatio_ratioChannel_ne s _ hk
  exact ⟨rfl, own, others, (reformFor_spec u m).2⟩

/-- What writing a ratio channel's enable and trim leaves alone. -/
theorem setRatio_frame (s : State) (m : RatioId) (e : Bool) (v : Int) :
    s.setRatio m e v = { s with
      ratio := (s.setRatio m e v).ratio, scan := (s.setRatio m e v).scan, stores := (s.setRatio m e v).stores } := by
  unfold setRatio
  dsimp only
  split
  · exact (disableRatio_spec _ m).1
  · split
    · exact (enableRatio_spec _ m).1
    · rfl

/-- A ratio channel with another trim. -/
def trimmed (s : State) (m : RatioId) (v : Int) : State := s.modRatio m fun c => { c with trim := v }

theorem trimmed_ratioChannel (s : State) (m : RatioId) (v : Int) :
    (s.trimmed m v).ratioChannel m = { s.ratioChannel m with trim := v } ∧
    ∀ k, k ≠ m → (s.trimmed m v).ratioChannel k = s.ratioChannel k :=
  ⟨modRatio_ratioChannel_self s m _, fun _ hk => modRatio_ratioChannel_ne s _ hk⟩

theorem setRatio_disables {s : State} {m : RatioId} (v : Int) (on : (s.ratioChannel m).state ≠ .disabled) :
    s.setRatio m false v = (s.trimmed m v).disableRatio m := by
  have enabled := (enabled_iff s m).mpr on
  exact if_pos (by rw [enabled]; rfl)

theorem setRatio_enables {s : State} {m : RatioId} (v : Int) (off : (s.ratioChannel m).state = .disabled) :
    s.setRatio m true v = (s.trimmed m v).enableRatio m := by
  have disabled := (enabled_eq_false_iff s m).mpr off
  exact (if_neg (by rw [disabled]; decide)).trans (if_pos (by rw [disabled]; rfl))

theorem setRatio_trims {s : State} {m : RatioId} {e : Bool} (v : Int) (same : e = true ↔ (s.ratioChannel m).state ≠ .disabled) :
    s.setRatio m e v = s.trimmed m v := by
  have agrees : s.enabled m = e := Bool.eq_iff_iff.mpr ((enabled_iff s m).trans same.symm)
  rw [setRatio, agrees]
  cases e <;> rfl

theorem heard_flags (s : State) (p q : Port) : ((s.heard p).port q).flags = (s.port q).flags := by
  by_cases own : q = p
  · subst own
    rw [heard_port]
    rfl
  · rw [heard_port_ne s p q own]

/-- A new fault action carried out in STANDBY. -/
theorem actionEntry_spec (s : State) (a : FaultAction) (standby : s.engine.state = .standby) :
    let t := (s.actionWritten a).faultEntry a
    t.reference.action = a ∧ t.reference.state = s.reference.state ∧ t.pulse = s.pulse ∧ t.scan = s.scan ∧ RestKept s t ∧
    (∀ q, t.port q = { s.port q with flags := (t.port q).flags }) ∧
    (a ≠ .safe → RecordsKept s t ∧ DriveKept s t ∧ PoolsKept s t ∧ EngineKept s t ∧ ArbiterKept s t ∧
      ∀ q, (t.port q).flags = (s.port q).flags) ∧
    (∀ i, t.storeRec i = if a = .invalid
      then { s.storeRec i with reading := t.formReading (s.storeRec i).settings } else s.storeRec i) ∧
    (a = .hold → t.reference.hold = some 30000 ∧ t.engine = s.engine ∧
      ∀ m, (t.ratioChannel m).stale = decide ((s.ratioChannel m).state = .valid ∨ (s.ratioChannel m).state = .suspect)) ∧
    (a = .invalid → t.reference.hold = none ∧ t.engine = s.engine ∧
      ∀ m, (s.ratioChannel m).state ≠ .disabled → (t.ratioChannel m).state = .fault) ∧
    (a = .safe → t.reference.hold = none ∧ SafeEntered (noRemovals s) t fun q => (s.port q).flags) := by
  obtain ⟨written, channels⟩ := s.actionWritten_spec a
  generalize s.actionWritten a = w at *
  obtain ⟨reference, scan, pulse, rest, units⟩ := w.faultEntry_kept a
  have stores := w.faultEntry_storeRec a
  have port : ∀ q, w.port q = s.port q := fun q => (congrArg (State.port · q) written :)
  have engine : w.engine = s.engine := (congrArg State.engine written :)
  have source : w.reference = { s.reference with action := a, hold := none } := (congrArg State.reference written :)
  have storeRec : ∀ i, w.storeRec i = s.storeRec i := fun i => (congrArg (State.storeRec · i) written :)
  have inputs : RestKept s w := ⟨(congrArg State.inputs written :), (congrArg State.store written :), (congrArg State.pending written :)⟩
  refine ⟨by rw [reference, source], by rw [reference, source], pulse.trans (congrArg State.pulse written :),
    scan.trans (congrArg State.scan written :),
    ⟨rest.1.trans inputs.1, rest.2.1.trans inputs.2.1, rest.2.2.trans inputs.2.2⟩, fun q => ?_, fun calm => ?_, fun i => ?_, ?_, ?_, ?_⟩
  · rw [← port]
    exact units q
  · have kept := w.faultEntry_awake calm
    have flags : ∀ q, ((w.faultEntry a).port q).flags = (s.port q).flags := fun q => by
      rw [← port]
      exact (congrArg (fun u => (State.port u q).flags) kept :)
    generalize w.faultEntry a = u at *
    rw [written] at kept
    exact ⟨⟨(congrArg State.outlets kept :), (congrArg State.profile kept :), (congrArg State.bursts kept :)⟩,
      ⟨(congrArg State.channels kept :), (congrArg State.branches kept :)⟩,
      ⟨(congrArg State.steam kept :), (congrArg State.water kept :)⟩, (congrArg State.engine kept :),
      (congrArg State.arbiter kept :), flags⟩
  · rw [stores, storeRec]
  · rintro rfl
    refine ⟨rfl, engine, fun m => ?_⟩
    rw [faultEntry, (w.startHold_spec).2, channels]
    simp
  · rintro rfl
    obtain ⟨-, faulted, -⟩ := w.faultAll_spec
    refine ⟨(congrArg (·.hold) source :), engine, fun m enabled => ?_⟩
    have one := faulted m
    rw [channels] at one
    obtain ⟨gone, kept⟩ := one
    cases state : (s.ratioChannel m).state with
    | valid => exact congrArg RatioChannel.state (gone (.inl state))
    | suspect => exact congrArg RatioChannel.state (gone (.inr state))
    | fault => exact (congrArg RatioChannel.state (kept (.inl state))).trans state
    | disabled => exact absurd state enabled
  · rintro rfl
    have awake : w.engine.state ≠ .safe := by rw [engine, standby]; decide
    obtain ⟨entered, ⟨-, ref, -⟩, -⟩ := requestSafe_spec awake
    have before : (fun q => (w.port q).flags) = fun q => (s.port q).flags := funext fun q => by rw [port]
    refine ⟨(congrArg (·.hold) (ref.trans source) :), ?_⟩
    exact safeEntered_congr (v := noRemovals w) (u := w.requestSafe) (before ▸ entered) (by rw [written]; rfl)
      (fun q => congrArg PortUnit.config (port q)) (fun q => Iff.of_eq (congrArg (fun u : PortUnit => u.link = .lapsing) (port q)))
      (fun q => congrArg (fun u : PortUnit => u.flags.burstRevoked) (port q)) rfl fun q => rfl

end State

/-- A ratio channel written: what the statement says of the state a command leaves. -/
theorem State.setRatio_spec (s : State) (m : RatioId) (e : Bool) (v : Int) :
    let t := s.setRatio m e v
    (∀ k, k ≠ m → t.ratioChannel k = s.ratioChannel k) ∧ (t.ratioChannel m).trim = v ∧
    (∀ i, (t.storeRec i).settings = (s.storeRec i).settings) ∧
    ((s.ratioChannel m).state ≠ .disabled → e = false →
      t.ratioChannel m = { s.ratioChannel m with
        trim := (t.ratioChannel m).trim, state := .disabled, strikes := 0, reading := none, stale := false
        lastCause := .none } ∧
      t.scan.slot ≠ .ratio m ∧ (s.scan.slot ≠ .ratio m → t.scan = s.scan) ∧
      (s.scan.slot = .ratio m → ScanGoesOn t (m.val + 1))) ∧
    ((s.ratioChannel m).state = .disabled → e = true →
      t.ratioChannel m = { s.ratioChannel m with
        trim := (t.ratioChannel m).trim, state := .suspect, strikes := 0, reading := none
        stale := s.reference.hold.isSome, lastCount := .none, lastCause := .none } ∧
      t.scan = s.scan) ∧
    (¬ (e = true ↔ (s.ratioChannel m).state ≠ .disabled) → ∀ i, t.storeRec i =
      if (s.storeRec i).settings.primary = some m ∨ (s.storeRec i).settings.secondary = some m
      then { s.storeRec i with reading := t.formReading (s.storeRec i).settings } else s.storeRec i) ∧
    ((e = true ↔ (s.ratioChannel m).state ≠ .disabled) →
      t.ratioChannel m = { s.ratioChannel m with trim := v } ∧ t.scan = s.scan ∧ t.stores = s.stores) := by
  intro t
  obtain ⟨own, others⟩ := s.trimmed_ratioChannel m v
  by_cases same : e = true ↔ (s.ratioChannel m).state ≠ .disabled
  · have shape : t = s.trimmed m v := State.setRatio_trims v same
    rw [shape]
    refine ⟨others, by rw [own], fun _ => rfl, fun on off => ?_, fun off on => absurd off (same.mp on),
      fun differ => absurd same differ, fun _ => ⟨own, rfl, rfl⟩⟩
    exact absurd (same.mpr on) (by rw [off]; decide)
  · cases e with
    | false =>
      have on : (s.ratioChannel m).state ≠ .disabled := fun off => same ⟨nofun, fun h => absurd off h⟩
      have shape : t = (s.trimmed m v).disableRatio m := State.setRatio_disables v on
      obtain ⟨-, channel, kept, away, here, stores⟩ := (s.trimmed m v).disableRatio_spec m
      rw [← shape] at channel kept away here stores
      clear_value t
      rw [own] at channel
      have elsewhere : t.scan.slot ≠ .ratio m := fun there => by
        by_cases slot : s.scan.slot = .ratio m
        · obtain ⟨-, -, slots⟩ := here slot
          have past := ((slots m).mp there).1
          omega
        · exact slot ((congrArg (·.slot) (away slot)).symm.trans there)
      refine ⟨fun k hk => (kept k hk).trans (others k hk), by rw [channel], fun i => ?_, fun _ _ => ⟨?_, elsewhere, away, here⟩,
        fun off => absurd off on, fun _ => stores, fun agrees => absurd agrees same⟩
      · rw [stores]
        split <;> rfl
      · rw [channel]
    | true =>
      have off : (s.ratioChannel m).state = .disabled := by
        by_contra on
        exact same ⟨fun _ => on, fun _ => rfl⟩
      have shape : t = (s.trimmed m v).enableRatio m := State.setRatio_enables v off
      obtain ⟨frame, channel, kept, stores⟩ := (s.trimmed m v).enableRatio_spec m
      rw [← shape] at frame channel kept stores
      clear_value t
      rw [own] at channel
      refine ⟨fun k hk => (kept k hk).trans (others k hk), by rw [channel], fun i => ?_, fun on => absurd off on,
        fun _ _ => ⟨?_, (congrArg State.scan frame :)⟩, fun _ => stores, fun agrees => absurd agrees same⟩
      · rw [stores]
        split <;> rfl
      · rw [channel]
        rfl

/-- Settles O17 (R90 to R93, R96, R97): the channel named takes what the command carries, with what follows from it. -/
theorem setChannelWritesTheChannel : Obligations.SetChannelWritesTheChannel := by
  intro s p receives right standby
  have right' : ((s.heard p).globals p).admin = true := by simpa using right
  have standby' : (s.heard p).engine.state = .standby := standby
  refine ⟨fun a faulty other => ?_, fun a same => ?_, fun m e v => ?_, fun f w => ?_⟩
  · have written := State.doSetChannel_reference right' standby' a
    rw [State.setFaultAction_faulty (s := s.heard p) faulty other] at written
    obtain ⟨action, state, pulse, scan, rest, units, awake, stores, held, invalid, safe⟩ := (s.heard p).actionEntry_spec a standby'
    generalize ((s.heard p).actionWritten a).faultEntry a = u at *
    let t := State.respond { state := u, result := .ok, payload := [] } p 0x2A (decide ((s.port p).link = .lapsed))
    have flags : ∀ q, (t.port q).flags = (u.port q).flags := fun q => State.respond_port_flags _ p q _ _
    refine ⟨t, State.exec_direct (c := .setChannel) receives nofun rfl (State.setChannel_lengthOk_reference _) written,
      action, state.trans faulty, pulse, scan, rest, State.portAnswered_respond s _ p _ _ ?_ fun q hq => ?_, fun calm => ?_,
      stores, held, invalid, fun eq => ?_⟩
    · rw [units, flags, State.heard_port]
      rfl
    · rw [units, flags, State.heard_port_ne s p q hq]
    · obtain ⟨records, drive, pools, engine, arbiter, ports⟩ := awake calm
      exact ⟨records, drive, pools, engine, arbiter, fun q => (flags q).trans ((ports q).trans (State.heard_flags s p q))⟩
    · obtain ⟨ended, entered⟩ := safe eq
      have before : (fun q => ((s.heard p).port q).flags) = fun q => (s.port q).flags := funext (State.heard_flags s p)
      have whole : SafeEntered (noRemovals s) t fun q => (s.port q).flags :=
        State.safeEntered_congr (v := noRemovals (s.heard p)) (u := u) (before ▸ entered) rfl (State.heard_config s p)
          (State.heard_heldAlike receives.2.2).lapsing
          (fun q => congrArg EventFlags.burstRevoked (State.heard_flags s p q)) rfl flags
      refine ⟨ended, ?_, State.safeEntered_removals whole, whole⟩
      obtain ⟨engine, -⟩ := whole
      exact congrArg EngineControl.state engine
  · have written := State.doSetChannel_reference right' standby' a
    rw [State.setFaultAction_sound (s := s.heard p) same] at written
    exact ⟨_, State.exec_direct (c := .setChannel) receives nofun rfl (State.setChannel_lengthOk_reference _) written,
      ⟨rfl, rfl, rfl⟩, ⟨rfl, rfl⟩, ⟨rfl, rfl⟩, ⟨rfl, rfl, rfl⟩, rfl, rfl, rfl, rfl, rfl, rfl, rfl,
      State.portAnswered_respond s _ p _ s.port (State.heard_port s p) fun q => State.heard_port_ne s p q⟩
  · have written := State.doSetChannel_ratio right' standby' m e v
    have frame := (s.heard p).setRatio_frame m e (clampInt (-50) 50 v.toInt)
    have spec := (s.heard p).setRatio_spec m e (clampInt (-50) 50 v.toInt)
    generalize (s.heard p).setRatio m e (clampInt (-50) 50 v.toInt) = t at *
    obtain ⟨others, trim, settings, disabled, enabled, formed, same⟩ := spec
    have clamped : clampInt (-50) 50 v.toInt = max (-50) (min v.toInt 50) := rfl
    refine ⟨_, State.exec_direct (c := .setChannel) receives nofun rfl (State.setChannel_lengthOk_ratio m _ _) written,
      ⟨(congrArg State.outlets frame :), (congrArg State.profile frame :), (congrArg State.bursts frame :)⟩,
      ⟨(congrArg State.channels frame :), (congrArg State.branches frame :)⟩,
      ⟨(congrArg State.steam frame :), (congrArg State.water frame :)⟩,
      ⟨(congrArg State.inputs frame :), (congrArg State.store frame :), (congrArg State.pending frame :)⟩,
      (congrArg State.engine frame :), (congrArg State.arbiter frame :), (congrArg State.reference frame :),
      (congrArg State.pulse frame :), others, trim, settings, disabled, enabled, formed, same,
      State.portAnswered_respond s _ p _ s.port ?_ fun q hq => ?_⟩
    · exact (congrArg (State.port · p) frame :).trans (State.heard_port s p)
    · exact (congrArg (State.port · q) frame :).trans (State.heard_port_ne s p q hq)
  · have written := State.doSetChannel_pulse right' standby' f w
    refine ⟨_, State.exec_direct (c := .setChannel) receives nofun rfl (State.setChannel_lengthOk_pulse f w) written,
      ⟨rfl, rfl, rfl⟩, ⟨rfl, rfl⟩, ⟨rfl, rfl⟩, ⟨rfl, rfl, rfl⟩, rfl, rfl, rfl, rfl, rfl, rfl, ?_, fun k hk => ?_,
      State.portAnswered_respond s _ p _ s.port (State.heard_port s p) fun q => State.heard_port_ne s p q⟩
    · rw [State.respond_pulseChannel]
      exact State.modPulse_pulseChannel_self _ f _
    · rw [State.respond_pulseChannel]
      exact State.modPulse_pulseChannel_ne _ _ hk

end Sys2Proof.Machine
end

section
set_option Elab.async false
/-! PROOFS. The engine-state write that waited, and the ends of the self-test and of a save (R157, R162, R163, R166). -/

namespace Sys2Proof.Machine

open Sys2Proof.Statements

namespace State

/-- A write that is applied as the engine-state write is one. -/
theorem engineWrite_of_mayApply {s : State} (h : s.mayApply .engineState = true) : s.arbiter.engineWrite ≠ .none := by
  intro none
  have next : s.nextWrite = some .engineState := by
    rw [mayApply, Bool.and_eq_true] at h
    exact of_decide_eq_true h.2
  cases drive : s.nextDriveWrite with
  | some w =>
    simp only [nextWrite, drive, Option.some.injEq] at next
    obtain ⟨n, -, eq⟩ := Option.map_eq_some_iff.mp (next ▸ drive)
    by_cases absent : (s.channel n).pendingAbsence = true
    · rw [if_pos absent] at eq
      cases eq
    · rw [if_neg absent] at eq
      cases eq
  | none =>
    cases removal : s.nextRemoval <;> cases lapse : s.nextLapse <;> simp [nextWrite, drive, removal, lapse, none] at next

/-- The part of the write that both kinds have in common. -/
theorem writeEngine_spec (s : State) {w : EngineWrite} (write : w ≠ .none) :
    let t := s.writeEngine w
    t = { s with outlets := t.outlets, channels := t.channels, bursts := t.bursts, ports := t.ports
                 arbiter := { s.arbiter with removals := t.arbiter.removals, engineWrite := .none } } ∧
    (∀ n, t.outlet n = { s.outlet n with
      grant := 0, burstRef := (s.outlet n).burstRef && (decide (w ≠ .grantsAndBursts) || (s.entryOf n).isNone) } ∧
      t.channel n = { s.channel n with grant := 0 }) ∧
    (∀ q, t.port q = { s.port q with flags := { (s.port q).flags with burstRevoked := (t.port q).flags.burstRevoked } }) ∧
    (w = .grantsAndBursts → EmptiedForReset s t) ∧ (w = .grants → t.bursts = s.bursts ∧ t.ports = s.ports) := by
  cases w with
  | none => exact absurd rfl write
  | grants =>
    refine ⟨rfl, fun n => ⟨?_, ?_⟩, fun q => rfl, nofun, fun _ => ⟨rfl, rfl⟩⟩
    · simp [writeEngine, zeroGrants, zeroDriveGrants]
    · simp [writeEngine, zeroGrants, zeroDriveGrants]
  | grantsAndBursts =>
    obtain ⟨frame, outlets, ports, emptied⟩ := s.writeEngine_safe
    have removals : (s.writeEngine .grantsAndBursts).arbiter.removals = [] := (congrArg (·.arbiter.removals) frame :)
    have list : (s.writeEngine .grantsAndBursts).bursts = [] := (congrArg State.bursts frame :)
    refine ⟨by rw [removals, list]; exact frame, fun n => ⟨(outlets n).1, (outlets n).2⟩, ports,
      fun _ => emptied s rfl fun _ => rfl, nofun⟩

/-! ## The end of the self-test (R162, R163) -/

/-- The part with the self-test ended: the table released, the operation none. -/
def testEnded (s : State) : State :=
  { s with arbiter := { s.arbiter with holder := none }, engine := { s.engine with op := .none, opLeft := 0 } }

/-- The outcome posted at the self-test's end. -/
def testPosted (s : State) (o : TestOutcome) : State :=
  (s.release.postAll (.testDone o)).modEngine fun e => { e with op := .none, opLeft := 0 }

theorem testPosted_spec (s : State) (o : TestOutcome) :
    s.testPosted o = { s.testEnded with ports := (s.testPosted o).ports } ∧
    ∀ q, (s.testPosted o).port q = withEvent (s.port q) (.testDone o) :=
  ⟨rfl, fun q => s.release.postAll_port (.testDone o) q⟩

theorem endSelfTest_pass {s : State} {fails : Bool} (pass : s.testOutcome fails = .pass) :
    s.endSelfTest fails = s.testPosted .pass := by
  rw [endSelfTest, pass]
  rfl

theorem endSelfTest_fail {s : State} {fails : Bool} (fail : s.testOutcome fails ≠ .pass) :
    s.endSelfTest fails = (s.testPosted (s.testOutcome fails)).enterSafe := if_neg fail

/-- The self-test's end where it fails in a state other than SAFE. -/
theorem enterSafe_testPosted {s : State} (o : TestOutcome) (awake : s.engine.state ≠ .safe) :
    let t := (s.testPosted o).enterSafe
    SafeEntered s.testEnded t (fun q => (s.port q).flags.post (.testDone o)) ∧ MeasureKept s t ∧ RestKept s t ∧
    ∀ q, t.port q = { s.port q with flags := (t.port q).flags } := by
  obtain ⟨frame, ports⟩ := s.testPosted_spec o
  have awake' : (s.testPosted o).engine.state ≠ .safe := awake
  obtain ⟨entered, measure, rest, units⟩ := enterSafe_spec awake'
  have before : (fun q => ((s.testPosted o).port q).flags) = fun q => (s.port q).flags.post (.testDone o) :=
    funext fun q => congrArg PortUnit.flags (ports q)
  refine ⟨safeEntered_congr (v := s.testPosted o) (before ▸ entered) rfl (fun q => (congrArg PortUnit.config (ports q) :))
    (fun q => Iff.of_eq (congrArg (fun u : PortUnit => u.link = .lapsing) (ports q) :))
    (fun q => (congrArg (fun u : PortUnit => u.flags.burstRevoked) (ports q) :)) rfl fun _ => rfl, measure, rest, fun q => ?_⟩
  exact (units q).trans (by rw [ports]; rfl)

theorem endSelfTest_spec (s : State) (fails : Bool) :
    let t := s.endSelfTest fails
    let o := s.testOutcome fails
    t.engine.op = .none ∧ t.arbiter.holder = none ∧ (∀ q, (t.port q).flags.testDone = some o) ∧
    (o = .pass ∨ s.engine.state = .safe → RecordsKept s t ∧ DriveKept s t ∧ PoolsKept s t ∧ EngineKept s.testEnded t ∧
      ArbiterKept s.testEnded t ∧ ∀ q, t.port q = withEvent (s.port q) (.testDone o)) ∧
    (o ≠ .pass → t.engine.state = .safe) ∧
    (o ≠ .pass → s.engine.state ≠ .safe → SafeEntered s.testEnded t (fun q => (s.port q).flags.post (.testDone o)) ∧
      ∀ q, t.port q = { s.port q with flags := (t.port q).flags }) ∧
    MeasureKept s t ∧ RestKept s t := by
  intro t o
  have ports := (s.testPosted_spec o).2
  have done : ∀ q, (withEvent (s.port q) (.testDone o)).flags.testDone = some o := fun _ => rfl
  by_cases entering : o ≠ .pass ∧ s.engine.state ≠ .safe
  · obtain ⟨fail, awake⟩ := entering
    have shape : t = (s.testPosted o).enterSafe := endSelfTest_fail fail
    obtain ⟨entered, measure, rest, units⟩ := s.enterSafe_testPosted o awake
    rw [← shape] at entered measure rest units
    obtain ⟨engine, -, -, -, arbiter, -, -, -, -, -, flags⟩ := id entered
    refine ⟨by rw [engine]; rfl, ?_, fun q => by rw [flags]; rfl, fun h => absurd awake (by tauto), fun _ => by rw [engine],
      fun _ _ => ⟨entered, units⟩, measure, rest⟩
    rw [arbiter]
    split <;> rfl
  · have shape : t = s.testPosted o := by
      by_cases pass : o = .pass
      · exact (endSelfTest_pass pass).trans (by rw [pass])
      · have asleep : s.engine.state = .safe := by
          by_contra awake
          exact entering ⟨pass, awake⟩
        exact (endSelfTest_fail pass).trans (if_pos asleep)
    clear_value t
    subst shape
    refine ⟨rfl, rfl, fun q => (congrArg (·.flags.testDone) (ports q)).trans (done q),
      fun _ => ⟨⟨rfl, rfl, rfl⟩, ⟨rfl, rfl⟩, ⟨rfl, rfl⟩, rfl, rfl, ports⟩, fun fail => ?_, fun fail awake => absurd ⟨fail, awake⟩ entering,
      ⟨rfl, rfl, rfl, rfl, rfl⟩, ⟨rfl, rfl, rfl⟩⟩
    by_contra awake
    exact entering ⟨fail, awake⟩

end State

/-- Settles O58 (R157, R162, R163, R166): the waiting engine-state write, the end of the self-test and the end of a save. -/
theorem engineWritesAndOperationsEnd : Obligations.EngineWritesAndOperationsEnd := by
  intro s
  refine ⟨fun applies => ?_, fun fails op holder => ?_, fun image good op holder saving => ?_⟩
  · have row : exec .applyEngineStateWrite s = .next (s.releasePort.writeEngine s.arbiter.engineWrite) :=
      congrArg Host.Outcome.next (if_pos applies)
    have write := State.engineWrite_of_mayApply applies
    rw [State.mayApply_release applies] at row
    obtain ⟨frame, outlets, ports, emptied, kept⟩ :=
      State.writeEngine_spec { s with arbiter := { s.arbiter with holder := none } } write
    refine ⟨_, row, ⟨fun n => (outlets n).2, (congrArg State.branches frame :)⟩,
      ⟨(congrArg State.steam frame :), (congrArg State.water frame :)⟩,
      ⟨(congrArg State.stores frame :), (congrArg State.reference frame :), (congrArg State.ratio frame :),
        (congrArg State.pulse frame :), (congrArg State.scan frame :)⟩,
      ⟨(congrArg State.inputs frame :), (congrArg State.store frame :), (congrArg State.pending frame :)⟩,
      (congrArg State.engine frame :), (congrArg State.profile frame :), fun n => (outlets n).1, ports,
      (congrArg (·.arbiter.holder) frame :), (congrArg (·.arbiter.engineWrite) frame :), emptied, kept⟩
  · have row : exec (.selfTestEnd fails) s = .next (s.endSelfTest fails) := congrArg Host.Outcome.next (if_pos ⟨op, holder⟩)
    obtain ⟨ended, released, done, calm, asleep, entered, measure, rest⟩ := s.endSelfTest_spec fails
    refine ⟨_, s.testOutcome fails, row, ended, released, done, fun memory => ?_, fun sound => ?_, fun pass => ?_,
      ⟨calm, asleep, entered⟩, measure, rest⟩
    · rw [State.testOutcome, if_pos memory]
    · rw [State.testOutcome, sound]
      rfl
    · obtain ⟨records, drive, pools, engine, -, ports⟩ := calm (.inl pass)
      exact ⟨records, drive, pools, measure, rest, (congrArg EngineControl.state engine :), fun q => by rw [ports, pass]⟩
  · have row : exec (.saveEnd good) s = .next (s.endSave image good) := by
      change Host.Outcome.next _ = _
      rw [saving]
      exact congrArg Host.Outcome.next (if_pos ⟨op, holder⟩)
    refine ⟨_, row, ⟨rfl, rfl, rfl⟩, ⟨rfl, rfl⟩, ⟨rfl, rfl⟩, ⟨rfl, rfl, rfl, rfl, rfl⟩, rfl, rfl, rfl, rfl,
      fun q => State.postAll_port _ _ q, rfl, rfl, fun agrees => ?_, fun differs => ?_⟩
    · exact if_pos agrees
    · have check : (s.endSave image good).store.check = none := if_neg (by rw [differs]; decide)
      refine ⟨check, ?_⟩
      rw [State.storedValid, check]
      rfl

end Sys2Proof.Machine
end

section
set_option Elab.async false
/-! PROOFS. The steps of ENGINE RESET and TABLE RESET, and ENGINE RESET as a whole (R23, R114, R136, R169, R170). -/

namespace Sys2Proof.Machine

open Sys2Proof.Statements

namespace State

/-! ## The drive of a reset (R136) -/

/-- The pattern of STANDBY does not look at the held duty. -/
theorem patternLine_standby (st : OutletStructure) {c d : Channel} (held held' : Nat) (condition : c.condition = d.condition)
    (pending : c.pendingAbsence = d.pendingAbsence) : patternLine st c held false = patternLine st d held' false := by
  unfold patternLine
  rw [condition, pending]
  rfl

/-- The duty a channel shows after a reset. -/
def resetDuty (c : Channel) : Nat := patternOf { c with pendingAbsence := false } false

theorem resetChannel_eq (c : Channel) :
    resetChannel c = { c with
      grant := 0, inUse := c.copy, phase := .safePattern, applied := resetDuty c
      output := if resetDuty c = 0 then .off else .on
      position := 0, closedTime := 0, closedTicks := 0, dwellLeft := 0, watchCount := 0, watchLatch := false
      pendingAbsence := false, override := none, finding := none, holdLeft := none, testTick := 0, heldDuty := 0
      pendingSenseEnd := false } := by
  have duty : ∀ d : Channel, d.condition = c.condition → d.pendingAbsence = false → d.inUse = c.copy →
      d.patternDuty d.inUse false = resetDuty c := fun d condition pending structure_ => by
    rw [patternDuty_eq_patternLine, structure_, resetDuty, patternOf]
    exact patternLine_standby _ _ _ condition pending
  unfold resetChannel
  dsimp only
  rw [duty]
  · rfl
  · rfl
  · rfl
  · rfl

/-! ## STANDBY and the cause (R169, R170 steps 2 and 3) -/

/-- The engine in STANDBY with a cause, its rounds stopped and the drive reset. -/
theorem resetEngineState_spec (s : State) (cause : ResetCause) :
    let t := s.resetEngineState cause
    t = { s with
      engine := { s.engine with cause := cause, state := .standby }
      steam := { s.steam with timer := none }, water := { s.water with timer := none }
      arbiter := { s.arbiter with steamRequest := false, waterRequest := false }
      ports := t.ports, channels := t.channels, branches := t.branches } ∧
    (∀ n, t.channel n = resetChannel (s.channel n)) ∧
    (∀ b, t.branch b = closes s (fun n => decide (resetDuty (s.channel n) = 0)) b { s.branch b with queue := [] }) ∧
    ∀ q, t.port q = { s.port q with flags := { (s.port q).flags with
      engineState := (s.port q).flags.engineState || decide (s.engine.state ≠ .standby) } } := by
  intro t
  let u := s.modEngine fun e => { e with cause := cause }
  have halted := stopRounds_setEngine u .standby
  have posted := fun q => (stopRounds_setEngine_port u .standby q).trans (u.setEngine_port .standby q)
  obtain ⟨drive, channels, branches⟩ := (u.setEngine .standby).stopRounds.resetDrive_spec
  change DriveOnly _ t at drive
  change ∀ n, t.channel n = _ at channels
  change ∀ b, t.branch b = _ at branches
  clear_value t
  generalize (u.setEngine .standby).stopRounds = v at *
  have channel : ∀ n, v.channel n = s.channel n := fun n => (congrArg (State.channel · n) halted :)
  have branch : ∀ b, v.branch b = s.branch b := fun b => (congrArg (State.branch · b) halted :)
  refine ⟨?_, fun n => by rw [channels, channel], fun b => ?_, fun q => ?_⟩
  · rw [DriveOnly, halted] at drive
    have ports : t.ports = (u.setEngine .standby).ports := (congrArg State.ports drive :)
    rw [← ports] at drive
    exact drive
  · rw [branches, closes, closes, branch]
    refine if_congr (exists_congr fun n => ?_) rfl rfl
    rw [channel, resetChannel_eq]
  · exact (congrArg (State.port · q) drive :).trans (posted q)

/-! ## The records (R23, R114) -/

/-- The records of every outlet reset, the list emptied. -/
theorem resetRecords_spec (s : State) :
    let t := s.resetRecords
    t = { s with outlets := t.outlets, channels := t.channels, bursts := [], ports := t.ports
                 arbiter := { s.arbiter with removals := [] } } ∧
    (∀ n, t.outlet n = { resetRecord (s.outlet n) with burstRef := (s.outlet n).burstRef && (s.entryOf n).isNone } ∧
      t.channel n = resetCopies (resetRecord (s.outlet n)) (s.channel n)) ∧
    (∀ q, t.port q = { s.port q with flags := { (s.port q).flags with burstRevoked := (t.port q).flags.burstRevoked } }) ∧
    ∀ r : State, s.bursts = r.bursts → (∀ q, (s.port q).flags.burstRevoked = (r.port q).flags.burstRevoked) →
      EmptiedForReset r t := by
  intro t
  let v := s.mapOutlets fun _ o => resetRecord o
  let u := v.mapChannels fun n c => resetCopies (v.outlet n) c
  have written : t = u.emptyBursts := rfl
  have record : ∀ n, u.outlet n = resetRecord (s.outlet n) := fun n => mapOutlets_outlet s _ n
  have copies : ∀ n, u.channel n = resetCopies (resetRecord (s.outlet n)) (s.channel n) := fun n =>
    (mapChannels_channel v _ n).trans (congrArg (resetCopies · (s.channel n)) (mapOutlets_outlet s _ n))
  have frame := u.emptyBursts_frame
  have outlets := u.emptyBursts_outlet
  have notices := u.emptyBursts_port
  have gone := u.emptyBursts_empty.1
  have emptied : ∀ r : State, s.bursts = r.bursts → (∀ q, (s.port q).flags.burstRevoked = (r.port q).flags.burstRevoked) →
      EmptiedForReset r u.emptyBursts := fun r same before => emptiedForReset_emptyBursts (u := u) same before gone fun _ => rfl
  rw [← written] at frame outlets notices emptied
  clear_value t
  refine ⟨frame, fun n => ⟨?_, ?_⟩, notices, emptied⟩
  · rw [(outlets n).1, record]
    exact unlisted_grant_zero _ { resetRecord (s.outlet n) with grant := (s.outlet n).grant }
  · rw [(outlets n).2, record, copies]
    exact unlistedChannel_grant_zero _ { resetRecord (s.outlet n) with grant := (s.outlet n).grant } _

/-! ## What a reset abandons (R169, R170 step 1) -/

theorem abandonHolds_eq (s : State) :
    s.abandonHolds = { s with
      arbiter := { s.arbiter with
        steamRequest := false, waterRequest := false, engineWrite := .none, deferred := .none
        holder := if abandoned s.arbiter.holder then none else s.arbiter.holder }
      engine := if s.engine.op = .selfTest then { s.engine with op := .none, opLeft := 0 } else s.engine } := by
  by_cases test : s.engine.op = .selfTest
  · exact (if_pos test).trans (by rw [if_pos test]; rfl)
  · exact (if_neg test).trans (by rw [if_neg test]; rfl)

/-- Without a port or the store as holder a reset leaves the table free. -/
theorem abandoned_holder {s : State} (ports : s.portHolds = false) (store : s.arbiter.holder ≠ some .store) :
    (if abandoned s.arbiter.holder then none else s.arbiter.holder) = none := by
  cases holder : s.arbiter.holder with
  | none => rfl
  | some r =>
    cases r with
    | port p => simp [portHolds, holder, Requester.isPort] at ports
    | store => exact absurd holder store
    | spe | wpe | selfTest => rfl

/-! ## ENGINE RESET (R169) -/

/-- The channel of an outlet after an ENGINE RESET. -/
theorem resetCopies_resetChannel (o : Outlet) (c : Channel) :
    resetCopies o (resetChannel c) = { resetChannel c with
      trim := o.trim, ceiling := o.limits.ceiling, condition := o.condition } := by
  rw [resetChannel_eq]
  rfl

/-- What an ENGINE RESET does whoever holds the table. -/
def EngineResetCommon (s t : State) : Prop :=
  t.engine.state = .standby ∧ t.engine.cause = .engineReset ∧ t.engine.defaulted = s.engine.defaulted ∧
  t.steam = { s.steam with timer := none } ∧ t.water = { s.water with timer := none } ∧ MeasureKept s t ∧ RestKept s t ∧
  t.profile = s.profile ∧
  (∀ q, t.port q = { s.port q with flags := (t.port q).flags }) ∧ FlagsOfReset s t ∧
  (∀ n, t.channel n = { resetChannel (s.channel n) with
    trim := (t.channel n).trim, ceiling := (t.channel n).ceiling, condition := (t.channel n).condition }) ∧
  (∀ b, t.branch b = closes s (fun n => decide (resetDuty (s.channel n) = 0)) b { s.branch b with queue := [] }) ∧
  ∀ n, (t.outlet n).struct = (s.outlet n).struct ∧ (t.outlet n).limits = (s.outlet n).limits ∧
    (t.outlet n).demand = (s.outlet n).demand ∧ (t.outlet n).owner = (s.outlet n).owner ∧
    (t.outlet n).trim = (s.outlet n).trim ∧ (t.outlet n).continuity = (s.outlet n).continuity

theorem runEngineReset_held {s : State} (holds : s.portHolds = true) :
    let t := s.runEngineReset
    EngineResetCommon s t ∧ t.arbiter.deferred = .engine ∧ t.bursts = s.bursts ∧ t.outlets = s.outlets ∧
    t.engine.op = s.engine.op ∧ (∀ q, (t.port q).flags.burstRevoked = (s.port q).flags.burstRevoked) ∧
    ∀ n, (t.channel n).condition = (s.channel n).condition ∧ (t.channel n).trim = (s.channel n).trim ∧
      (t.channel n).ceiling = (s.channel n).ceiling := by
  intro t
  have shape : t = (s.resetEngineState .engineReset).modArbiter fun a => { a with deferred := .engine } := if_pos holds
  clear_value t
  obtain ⟨frame, channels, branches, ports⟩ := s.resetEngineState_spec .engineReset
  generalize s.resetEngineState .engineReset = w at *
  have channel : ∀ n, t.channel n = w.channel n := fun n => (congrArg (State.channel · n) shape :)
  have port : ∀ q, t.port q = w.port q := fun q => (congrArg (State.port · q) shape :)
  have branch : ∀ b, t.branch b = w.branch b := fun b => (congrArg (State.branch · b) shape :)
  rw [frame] at shape
  have outlet : ∀ n, t.outlet n = s.outlet n := fun n => (congrArg (State.outlet · n) shape :)
  refine ⟨⟨(congrArg (·.engine.state) shape :), (congrArg (·.engine.cause) shape :), (congrArg (·.engine.defaulted) shape :),
    (congrArg State.steam shape :), (congrArg State.water shape :),
    ⟨(congrArg State.stores shape :), (congrArg State.reference shape :), (congrArg State.ratio shape :),
      (congrArg State.pulse shape :), (congrArg State.scan shape :)⟩,
    ⟨(congrArg State.inputs shape :), (congrArg State.store shape :), (congrArg State.pending shape :)⟩,
    (congrArg State.profile shape :), fun q => by rw [port, ports], fun q => by rw [port, ports],
    fun n => by rw [channel, channels], fun b => (branch b).trans (branches b), fun n => ?_⟩,
    (congrArg (·.arbiter.deferred) shape :), (congrArg State.bursts shape :), (congrArg State.outlets shape :),
    (congrArg (·.engine.op) shape :), fun q => by rw [port, ports], fun n => ?_⟩
  · rw [outlet]
    exact ⟨rfl, rfl, rfl, rfl, rfl, rfl⟩
  · rw [channel, channels, resetChannel_eq]
    exact ⟨rfl, rfl, rfl⟩

theorem runEngineReset_free {s : State} (holds : s.portHolds = false) (op : s.engine.op = .none ∨ s.engine.op = .selfTest) :
    let t := s.runEngineReset
    EngineResetCommon s t ∧ t.engine.op = .none ∧ EmptiedForReset s t ∧ t.arbiter.engineWrite = .none ∧
    t.arbiter.steamRequest = false ∧ t.arbiter.waterRequest = false ∧ t.arbiter.removals = [] ∧
    t.arbiter.lastHolder = s.arbiter.lastHolder ∧ (s.arbiter.holder ≠ some .store → t.arbiter.holder = none) ∧
    ∀ n, (t.outlet n).grant = 0 ∧ (t.outlet n).status = .idle ∧
      (t.outlet n).condition = State.priorOf (s.outlet n).condition ∧
      (t.channel n).condition = (t.outlet n).condition ∧ (t.channel n).trim = (t.outlet n).trim ∧
      (t.channel n).ceiling = (t.outlet n).limits.ceiling ∧
      (t.outlet n).burstRef = ((s.outlet n).burstRef && (s.entryOf n).isNone) := by
  intro t
  have shape : t = (s.abandonHolds.resetEngineState .engineReset).resetRecords := if_neg (by rw [holds]; decide)
  have abandons := s.abandonHolds_eq
  obtain ⟨entered, channels, branches, ports⟩ := s.abandonHolds.resetEngineState_spec .engineReset
  obtain ⟨frame, views, notices, emptied⟩ := (s.abandonHolds.resetEngineState .engineReset).resetRecords_spec
  rw [← shape] at frame views notices emptied
  clear_value t
  generalize s.abandonHolds.resetEngineState .engineReset = w at *
  generalize s.abandonHolds = v at *
  have vOutlet : ∀ n, v.outlet n = s.outlet n := fun n => (congrArg (State.outlet · n) abandons :)
  have vChannel : ∀ n, v.channel n = s.channel n := fun n => (congrArg (State.channel · n) abandons :)
  have vBranch : ∀ b, v.branch b = s.branch b := fun b => (congrArg (State.branch · b) abandons :)
  have vPort : ∀ q, v.port q = s.port q := fun q => (congrArg (State.port · q) abandons :)
  have engine : v.engine = { s.engine with op := .none, opLeft := v.engine.opLeft } := by
    have one : v.engine = if s.engine.op = .selfTest then { s.engine with op := .none, opLeft := 0 } else s.engine :=
      (congrArg State.engine abandons :)
    rcases op with none | test
    · have idle : ¬ s.engine.op = .selfTest := by rw [none]; decide
      rw [one, if_neg idle, ← none]
    · rw [one, if_pos test]
  have vState : v.engine.state = s.engine.state := (congrArg EngineControl.state engine :)
  have wOutlet : ∀ n, w.outlet n = s.outlet n := fun n => (congrArg (State.outlet · n) entered :).trans (vOutlet n)
  have bursts : w.bursts = s.bursts := (congrArg State.bursts entered :).trans (congrArg State.bursts abandons :)
  have branch : ∀ b, t.branch b = w.branch b := fun b => (congrArg (State.branch · b) frame :)
  have entry : ∀ n, w.entryOf n = s.entryOf n := fun n => by rw [entryOf, entryOf, bursts]
  have wPort : ∀ q, w.port q = { s.port q with flags := { (s.port q).flags with
      engineState := (s.port q).flags.engineState || decide (s.engine.state ≠ .standby) } } := fun q => by
    rw [ports, vPort, vState]
  have arbiter : t.arbiter = { s.arbiter with
      steamRequest := false, waterRequest := false, engineWrite := .none, deferred := .none, removals := []
      holder := if abandoned s.arbiter.holder then none else s.arbiter.holder } := by
    rw [frame, entered, abandons]
  have kept : t = { v with
      engine := { v.engine with cause := .engineReset, state := .standby }, steam := { v.steam with timer := none }
      water := { v.water with timer := none }, arbiter := t.arbiter, outlets := t.outlets, channels := t.channels
      branches := t.branches, ports := t.ports, bursts := t.bursts } := by
    rw [entered] at frame
    rw [frame]
  have units : ∀ q, t.port q = { s.port q with flags := { (s.port q).flags with
      engineState := (s.port q).flags.engineState || decide (s.engine.state ≠ .standby)
      burstRevoked := (t.port q).flags.burstRevoked } } := fun q => (notices q).trans (by rw [wPort])
  have engine' : t.engine = { s.engine with
      op := .none, opLeft := v.engine.opLeft, cause := .engineReset, state := .standby } := by
    rw [kept, engine]
  rw [abandons] at kept
  refine ⟨⟨by rw [engine'], by rw [engine'], by rw [engine'], (congrArg State.steam kept :), (congrArg State.water kept :),
    ⟨(congrArg State.stores kept :), (congrArg State.reference kept :), (congrArg State.ratio kept :),
      (congrArg State.pulse kept :), (congrArg State.scan kept :)⟩,
    ⟨(congrArg State.inputs kept :), (congrArg State.store kept :), (congrArg State.pending kept :)⟩,
    (congrArg State.profile kept :), fun q => by rw [units], fun q => by rw [units], fun n => ?_, fun b => ?_, fun n => ?_⟩,
    by rw [engine'], emptied s bursts fun q => by rw [wPort], by rw [arbiter], by rw [arbiter], by rw [arbiter],
    by rw [arbiter], by rw [arbiter], fun store => ?_, fun n => ?_⟩
  · rw [(views n).2, channels, vChannel, resetCopies_resetChannel]
  · rw [branch, branches]
    simp only [closes, vChannel, vBranch]
  · rw [(views n).1, wOutlet]
    exact ⟨rfl, rfl, rfl, rfl, rfl, rfl⟩
  · rw [arbiter]
    exact abandoned_holder holds store
  · rw [(views n).2, (views n).1, wOutlet, entry]
    exact ⟨rfl, rfl, rfl, rfl, rfl, rfl, rfl⟩

end State

/-- Settles O25 (R23, R114, R136, R169): the drive and the engine at once, the records at once or at the release of a port. -/
theorem engineResetResets : Obligations.EngineResetResets := by
  intro s p receives right op
  have check : (s.heard p).checkEngine .engineReset p = none :=
    State.checkEngine_none (by simpa using right) (State.engineBusy_eq_false op nofun nofun) rfl
  have answered := State.engineOk_ok State.runEngineReset check
  have common : State.EngineResetCommon (s.heard p) (s.heard p).runEngineReset := by
    cases holds : (s.heard p).portHolds with
    | true => exact (State.runEngineReset_held holds).1
    | false => exact (State.runEngineReset_free holds op).1
  have free := State.runEngineReset_free (s := s.heard p) (op := op)
  have held := State.runEngineReset_held (s := s.heard p)
  generalize (s.heard p).runEngineReset = u at *
  obtain ⟨state, cause, defaulted, steam, water, measure, rest, profile, units, flags, channels, branches, records⟩ := common
  let t := State.respond { state := u, result := .ok, payload := [] } p 0x45 (decide ((s.port p).link = .lapsed))
  have flag : ∀ q, (t.port q).flags = (u.port q).flags := fun q => State.respond_port_flags _ p q _ _
  have ported : PortAnswered s t p (fun q => { s.port q with flags := (t.port q).flags }) 0x45 .ok [] := by
    refine State.portAnswered_respond s _ p _ _ ?_ fun q hq => ?_
    · rw [units, flag, State.heard_port]
      rfl
    · rw [units, flag, State.heard_port_ne s p q hq]
  obtain ⟨own, others⟩ := id ported
  refine ⟨t, State.exec_direct (c := .engineReset) (pl := []) receives nofun rfl rfl answered, state, cause, defaulted, steam,
    water, measure, rest, profile, ?_, fun q => ?_, fun q hq => ?_, ported, fun q => ?_, ⟨fun n => ?_, branches⟩, records,
    fun holds => ?_, fun holds => ?_⟩
  · rw [own]
  · by_cases mine : q = p
    · rw [mine, own]
      exact ⟨rfl, rfl⟩
    · rw [others q mine]
      exact ⟨rfl, rfl⟩
  · rw [others q hq]
    exact ⟨rfl, rfl⟩
  · rw [flag, flags, State.heard_flags]
    rfl
  · refine (channels n).trans ?_
    rw [State.resetChannel_eq]
    rfl
  · obtain ⟨-, op', emptied, write, steamRequest, waterRequest, removals, last, holder, outlets⟩ := free holds
    refine ⟨op', ⟨emptied.1, fun kept q => ?_⟩, write, steamRequest, waterRequest, removals, last, holder, outlets⟩
    rw [flag, emptied.2 kept, revokedNotices, revokedNotices, State.heard_flags]
    rfl
  · obtain ⟨-, deferred, bursts, outlets, op', revoked, copies⟩ := held holds
    exact ⟨deferred, bursts, outlets, op', fun q => by rw [flag, revoked, State.heard_flags], copies⟩

end Sys2Proof.Machine
end

section
set_option Elab.async false
/-! PROOFS. Power-on and the end of a load (R23, R25, R51, R97, R99, R123, R136, R154, R165, R168, R170). -/

namespace Sys2Proof.Machine

open Sys2Proof.Statements

namespace State

/-! ## The pattern of a reloaded channel (R131, R136) -/

/-- Without a held duty both safe patterns show the same line. -/
theorem patternLine_unheld (st : OutletStructure) (c : Channel) (inSafe : Bool) :
    patternLine st c 0 inSafe = patternLine st c 0 false := by
  unfold patternLine
  cases inSafe with
  | false => rfl
  | true => cases st.safeState <;> rfl

/-- A pattern that shows a duty without a held one is that of an outlet that opens. -/
theorem opened_of_patternLine {st : OutletStructure} {c : Channel} (h : patternLine st c 0 false ≠ 0) :
    st.safeState = .opened := by
  unfold patternLine at h
  split at h
  · exact absurd rfl h
  · cases state : st.safeState with
    | opened => rfl
    | closed | hold => simp [state] at h

/-- A channel in the safe pattern that the pattern of SAFE leaves as it is. -/
structure InPattern (c : Channel) : Prop where
  phase : c.phase = .safePattern
  applied : c.applied = patternLine c.inUse c 0 false
  output : c.output = if c.applied = 0 then .off else .on
  held : c.heldDuty = 0
  override : c.override = none
  dwell : c.dwellLeft = 0
  count : c.watchCount = 0
  latch : c.watchLatch = false

theorem InPattern.patterned {c : Channel} (h : InPattern c) : patterned true c = c := by
  obtain ⟨phase, applied, output, held, override, dwell, count, latch⟩ := h
  have line : patternLine c.inUse c 0 true = c.applied := by rw [patternLine_unheld, applied]
  have unheld : (if true = true ∧ (c.phase = .warming ∨ c.phase = .cycling ∨ c.phase = .held) then c.applied else 0) = 0 := by
    rw [phase]
    rfl
  have opened : c.applied ≠ 0 → c.inUse.safeState = .opened := fun h => opened_of_patternLine (applied ▸ h)
  have shown : (if c.applied = 0 then DriveOutput.off else if c.inUse.safeState = .opened then .on else c.output) = c.output := by
    rw [output]
    by_cases zero : c.applied = 0
    · rw [if_pos zero, if_pos zero]
    · rw [if_neg zero, if_neg zero, if_pos (opened zero)]
  unfold Statements.patterned
  dsimp only
  rw [unheld, line, shown, count, latch, ite_self, Bool.false_and]
  clear unheld line shown opened
  cases c
  cases phase
  cases held
  cases override
  cases dwell
  cases count
  cases latch
  rfl

/-! ## The reloaded fault action (R97, R160) -/

/-- A part whose load is ending: the store holds the table, no sense is in progress, every channel shows a safe pattern, nothing waits on the branches and the rounds stand still. -/
structure Loading (s : State) : Prop where
  holder : s.arbiter.holder = some .store
  senses : ∀ n, isSensing (s.outlet n).condition = false
  channels : ∀ n, InPattern (s.channel n)
  queues : ∀ b, (s.branch b).queue = []
  steam : s.steam.timer = none
  water : s.water.timer = none

/-- What reloading the measurement side leaves alone while a load ends. -/
structure LoadKept (s t : State) : Prop where
  outlets : ∀ n, t.outlet n = s.outlet n
  channels : ∀ n, t.channel n = s.channel n
  branches : ∀ b, t.branch b = s.branch b
  steam : t.steam = s.steam
  water : t.water = s.water
  profile : t.profile = s.profile
  bursts : t.bursts = s.bursts
  rest : RestKept s t
  pulse : t.pulse = s.pulse
  engine : t.engine = { s.engine with state := t.engine.state }
  ports : ∀ q, t.port q = { s.port q with flags := { (s.port q).flags with
    engineState := (s.port q).flags.engineState || decide (t.engine.state ≠ s.engine.state) } }
  stores : ∀ i, ∃ r, t.storeRec i = { s.storeRec i with reading := r }

theorem tableFree_of_store {s : State} (holder : s.arbiter.holder = some .store) : s.tableFree = false := by
  rw [tableFree, holder]
  rfl

/-- An entry to SAFE while a load ends changes nothing but the engine's state, the arbiter and ENGINE_STATE. -/
theorem Loading.requestSafe {s : State} (h : Loading s) (awake : s.engine.state ≠ .safe) :
    LoadKept s s.requestSafe ∧ s.requestSafe.engine.state = .safe ∧ s.requestSafe.reference = s.reference := by
  obtain ⟨entered, ⟨stores, reference, ratio, pulse, scan⟩, rest, units⟩ := requestSafe_spec awake
  obtain ⟨engine, steam, water, profile, -, -, waits, outlets, channels, branches, flags⟩ := entered
  have held : (noRemovals s).tableFree = false := tableFree_of_store h.holder
  obtain ⟨bursts, revoked⟩ := waits held
  rw [held] at outlets channels
  have calm : ∀ n, isSensing ((noRemovals s).outlet n).condition = false := h.senses
  generalize s.requestSafe = t at *
  have state : t.engine.state = .safe := congrArg EngineControl.state engine
  refine ⟨⟨fun n => ?_, fun n => ?_, fun b => ?_, ?_, ?_, profile, bursts, rest, pulse, ?_, fun q => ?_, fun i => ?_⟩, state,
    reference⟩
  · rw [outlets n]
    simp only [calm]
    rfl
  · have shown : safeChannel ((noRemovals s).outlet n).condition (s.channel n) = s.channel n := by
      unfold safeChannel
      rw [calm, if_neg Bool.false_ne_true, if_neg (by rw [(h.channels n).phase]; decide)]
      exact (h.channels n).patterned
    refine (channels n).trans ?_
    rw [show (noRemovals s).channel n = s.channel n from rfl, shown]
    rfl
  · refine (branches b).trans ?_
    have open_ : ¬ ∃ n, ((noRemovals s).channel n).applied ≠ 0 ∧
        decide (isSensing ((noRemovals s).outlet n).condition = false ∧ ((noRemovals s).channel n).phase ≠ .test ∧
          (Statements.patterned true ((noRemovals s).channel n)).applied = 0) = true ∧
        ((noRemovals s).channel n).inUse.branch = some b := by
      rintro ⟨n, on, off, -⟩
      have stays : Statements.patterned true ((noRemovals s).channel n) = (noRemovals s).channel n := (h.channels n).patterned
      rw [decide_eq_true_iff, stays] at off
      exact on off.2.2
    rw [closes, if_neg open_, ← h.queues b]
    rfl
  · rw [steam, ← h.steam]
    rfl
  · rw [water, ← h.water]
    rfl
  · rw [engine]
    rfl
  · have off : ∀ n, ((fun n => isSensing ((noRemovals s).outlet n).condition) n && ((noRemovals s).rights q n).read) = false :=
      fun n => by simp only [calm]; rfl
    have senseDone : lowestPosted (noRemovals s) q (s.port q).flags.senseDone
        (fun n => isSensing ((noRemovals s).outlet n).condition) = (s.port q).flags.senseDone := by
      simp only [lowestPosted, off, List.filter_false]
      rfl
    rw [units q, flags q, revoked q, senseDone, state]
    simp [awake.symm]
  · exact ⟨(s.storeRec i).reading, by rw [storeRec, stores]; rfl⟩

theorem LoadKept.refl (s : State) : LoadKept s s where
  outlets _ := rfl
  channels _ := rfl
  branches _ := rfl
  steam := rfl
  water := rfl
  profile := rfl
  bursts := rfl
  rest := ⟨rfl, rfl, rfl⟩
  pulse := rfl
  engine := rfl
  ports q := by simp
  stores i := ⟨_, rfl⟩

/-- A step on the reference, the channels' states, the scan and the readings alone goes on from what a load keeps. -/
theorem LoadKept.measure {s t u : State} (h : LoadKept s t)
    (frame : u = { t with reference := u.reference, ratio := u.ratio, scan := u.scan, stores := u.stores })
    (stores : ∀ i, ∃ r, u.storeRec i = { t.storeRec i with reading := r }) : LoadKept s u where
  outlets n := (congrArg (State.outlet · n) frame :).trans (h.outlets n)
  channels n := (congrArg (State.channel · n) frame :).trans (h.channels n)
  branches b := (congrArg (State.branch · b) frame :).trans (h.branches b)
  steam := (congrArg State.steam frame :).trans h.steam
  water := (congrArg State.water frame :).trans h.water
  profile := (congrArg State.profile frame :).trans h.profile
  bursts := (congrArg State.bursts frame :).trans h.bursts
  rest := ⟨(congrArg State.inputs frame :).trans h.rest.1, (congrArg State.store frame :).trans h.rest.2.1,
    (congrArg State.pending frame :).trans h.rest.2.2⟩
  pulse := (congrArg State.pulse frame :).trans h.pulse
  engine := by
    rw [show u.engine = t.engine from (congrArg State.engine frame :)]
    exact h.engine
  ports q := by
    rw [show u.engine = t.engine from (congrArg State.engine frame :), ← h.ports q]
    exact (congrArg (State.port · q) frame :)
  stores i := by
    obtain ⟨r, reading⟩ := stores i
    obtain ⟨r', reading'⟩ := h.stores i
    exact ⟨r, by rw [reading, reading']⟩

/-- The reloaded fault action: SAFE is entered where it is new and the reference is in REF_FAULT. -/
theorem Loading.setFaultAction {s : State} (h : Loading s) (a : FaultAction) :
    LoadKept s (s.setFaultAction a) ∧ (s.setFaultAction a).reference.action = a ∧
    (s.setFaultAction a).engine.state =
      if s.reference.state = .refFault ∧ s.reference.action ≠ .safe ∧ a = .safe then .safe else s.engine.state := by
  by_cases entry : s.reference.state = .refFault ∧ a ≠ s.reference.action
  · obtain ⟨faulty, other⟩ := entry
    rw [setFaultAction_faulty faulty other]
    have written : LoadKept s (s.actionWritten a) := (LoadKept.refl s).measure rfl fun i => ⟨_, rfl⟩
    cases a with
    | hold =>
      refine ⟨written.measure rfl fun i => ⟨_, rfl⟩, rfl, ?_⟩
      rw [if_neg fun h => nomatch h.2.2]
      rfl
    | invalid =>
      refine ⟨written.measure rfl fun i => ⟨_, (faultAll_spec _).2.2 i⟩, rfl, ?_⟩
      rw [if_neg fun h => nomatch h.2.2]
      rfl
    | safe =>
      rw [if_pos ⟨faulty, Ne.symm other, rfl⟩, faultEntry]
      by_cases asleep : s.engine.state = .safe
      · rw [requestSafe_of_safe (s := s.actionWritten .safe) asleep]
        exact ⟨written, rfl, asleep⟩
      · have loading : Loading (s.actionWritten .safe) := ⟨h.holder, h.senses, h.channels, h.queues, h.steam, h.water⟩
        obtain ⟨kept, state, reference⟩ := loading.requestSafe asleep
        refine ⟨⟨kept.outlets, kept.channels, kept.branches, kept.steam, kept.water, kept.profile, kept.bursts, kept.rest,
          kept.pulse, kept.engine, kept.ports, kept.stores⟩, ?_, state⟩
        rw [reference]
        rfl
  · have same : s.reference.state ≠ .refFault ∨ a = s.reference.action := by tauto
    rw [setFaultAction_sound same]
    refine ⟨(LoadKept.refl s).measure rfl fun i => ⟨_, rfl⟩, rfl, ?_⟩
    rw [if_neg]
    rintro ⟨faulty, other, rfl⟩
    exact entry ⟨faulty, Ne.symm other⟩

/-! ## The reloaded ratio channels (R97, R99) -/

/-- A ratio channel that carries a configuration. -/
def RatioLoaded (c : RatioChannel) (enable : Bool) (trim : Int) : Prop :=
  c.trim = trim ∧ (c.state = .disabled ↔ enable = false)

theorem setRatio_loaded (s : State) (m : RatioId) (e : Bool) (v : Int) :
    RatioLoaded ((s.setRatio m e v).ratioChannel m) e v ∧
    ∀ i, ∃ r, (s.setRatio m e v).storeRec i = { s.storeRec i with reading := r } := by
  obtain ⟨-, trim, -, disabled, enabled, formed, same⟩ := s.setRatio_spec m e v
  refine ⟨⟨trim, ?_⟩, fun i => ?_⟩
  · by_cases agrees : e = true ↔ (s.ratioChannel m).state ≠ .disabled
    · rw [(same agrees).1]
      exact ⟨fun off => by_contra fun on => agrees.mp (Bool.eq_true_of_not_eq_false on) off,
        fun off => by_contra fun on => Bool.false_ne_true (off.symm.trans (agrees.mpr on))⟩
    · cases e with
      | false =>
        have on : (s.ratioChannel m).state ≠ .disabled := fun off => agrees ⟨nofun, fun h => absurd off h⟩
        rw [(disabled on rfl).1]
        exact ⟨fun _ => rfl, fun _ => rfl⟩
      | true =>
        have off : (s.ratioChannel m).state = .disabled := by
          by_contra on
          exact agrees ⟨fun _ => on, fun _ => rfl⟩
        rw [(enabled off rfl).1]
        exact ⟨nofun, nofun⟩
  · by_cases agrees : e = true ↔ (s.ratioChannel m).state ≠ .disabled
    · exact ⟨(s.storeRec i).reading, by rw [storeRec, (same agrees).2.2]; rfl⟩
    · rw [formed agrees]
      split
      · exact ⟨_, rfl⟩
      · exact ⟨_, rfl⟩

theorem foldl_setRatio (e : RatioId → Bool) (v : RatioId → Int) : ∀ (l : List RatioId) (s : State), l.Nodup →
    let t := l.foldl (fun t m => t.setRatio m (e m) (v m)) s
    t = { s with reference := t.reference, ratio := t.ratio, scan := t.scan, stores := t.stores } ∧
    t.reference = s.reference ∧ (∀ i, ∃ r, t.storeRec i = { s.storeRec i with reading := r }) ∧
    (∀ m ∈ l, RatioLoaded (t.ratioChannel m) (e m) (v m)) ∧ ∀ m, m ∉ l → t.ratioChannel m = s.ratioChannel m
  | [], s, _ => ⟨rfl, rfl, fun i => ⟨_, rfl⟩, fun m h => absurd h List.not_mem_nil, fun _ _ => rfl⟩
  | m :: l, s, once => by
    obtain ⟨away, rest⟩ := List.nodup_cons.mp once
    obtain ⟨frame, reference, stores, loaded, kept⟩ := foldl_setRatio e v l (s.setRatio m (e m) (v m)) rest
    have first := s.setRatio_frame m (e m) (v m)
    obtain ⟨own, readings⟩ := s.setRatio_loaded m (e m) (v m)
    have others := (s.setRatio_spec m (e m) (v m)).1
    rw [List.foldl_cons]
    generalize s.setRatio m (e m) (v m) = u at *
    generalize l.foldl (fun t m => t.setRatio m (e m) (v m)) u = t at *
    refine ⟨?_, reference.trans (congrArg State.reference first :), fun i => ?_, fun k member => ?_, fun k outside => ?_⟩
    · rw [first] at frame
      exact frame
    · obtain ⟨r, reading⟩ := stores i
      obtain ⟨r', reading'⟩ := readings i
      exact ⟨r, by rw [reading, reading']⟩
    · rcases List.mem_cons.mp member with rfl | behind
      · rw [kept k away]
        exact own
      · exact loaded k behind
    · obtain ⟨front, behind⟩ := not_or.mp (List.mem_cons.not.mp outside)
      rw [kept k behind, others k front]

/-! ## Loaded channels (R136) -/

/-- A channel that shows the safe pattern of an outlet's record, in the period and closed time of another. -/
def ChannelLoaded (o : Outlet) (c x : Channel) : Prop :=
  x = { grant := 0, trim := o.trim, ceiling := o.limits.ceiling, copy := o.struct, inUse := o.struct
        condition := o.condition, phase := .safePattern, applied := patternOf x false
        output := if patternOf x false = 0 then .off else .on
        position := c.position, closedTime := c.closedTime, closedTicks := c.closedTicks, dwellLeft := 0
        watchCount := 0, watchLatch := false, pendingAbsence := false, override := none, finding := none
        holdLeft := none, testTick := 0, heldDuty := 0, pendingSenseEnd := false }

theorem ChannelLoaded.inPattern {o : Outlet} {c x : Channel} (h : ChannelLoaded o c x) : InPattern x := by
  have line : x.applied = patternOf x false := congrArg Channel.applied h
  have copy : x.inUse = x.copy := (congrArg Channel.inUse h).trans (congrArg Channel.copy h).symm
  have held : x.heldDuty = 0 := congrArg Channel.heldDuty h
  refine ⟨congrArg Channel.phase h, ?_, ?_, held, congrArg Channel.override h, congrArg Channel.dwellLeft h,
    congrArg Channel.watchCount h, congrArg Channel.watchLatch h⟩
  · rw [line, patternOf, copy, held]
  · rw [line]
    exact congrArg Channel.output h

theorem reloadChannel_loaded (inSafe : Bool) (o : Outlet) (c : Channel) : ChannelLoaded o c (reloadChannel inSafe o c) := by
  have duty : ∀ d : Channel, d.heldDuty = 0 → d.patternDuty d.inUse inSafe = patternLine d.inUse d 0 false := fun d held => by
    rw [patternDuty_eq_patternLine, held, patternLine_unheld]
  have shown : (reloadChannel inSafe o c).applied = patternOf (reloadChannel inSafe o c) false := by
    refine (duty _ rfl).trans ?_
    rw [patternOf]
    exact patternLine_standby _ _ _ rfl rfl
  rw [ChannelLoaded, ← shown]
  rfl

theorem resetChannel_loaded (o : Outlet) : ChannelLoaded o (Channel.ofOutlet o) (resetChannel (Channel.ofOutlet o)) := by
  rw [resetChannel_eq, ChannelLoaded]
  have shown : resetDuty (Channel.ofOutlet o) = patternOf { Channel.ofOutlet o with
      grant := 0, inUse := (Channel.ofOutlet o).copy, phase := .safePattern, applied := resetDuty (Channel.ofOutlet o)
      output := if resetDuty (Channel.ofOutlet o) = 0 then .off else .on
      position := 0, closedTime := 0, closedTicks := 0, dwellLeft := 0, watchCount := 0, watchLatch := false
      pendingAbsence := false, override := none, finding := none, holdLeft := none, testTick := 0, heldDuty := 0
      pendingSenseEnd := false } false := patternLine_standby _ _ _ rfl rfl
  rw [← shown]
  rfl

/-! ## The values of a TABLE RESET's load (R23, R25, R51, R68, R99, R123, R154, R170) -/

/-- The records that take their values at once, before the drive and the measurement side do. -/
def recordsReloaded (s : State) (c : WorkingConfig) : State :=
  { s with
    outlets := tabulate fun n => Outlet.ofConfig c.outlets[n]
    profile := c.profile
    steam := { SteamPool.ofConfig c with lowpr := s.inputs.lowpr.asserted }
    water := WaterPool.ofConfig c
    stores := tabulate fun i => { settings := c.stores[i], reading := .notValid, lastRecharge := none }
    branches := tabulate fun b => { s.branches[b] with interval := c.settle[b] }
    ports := tabulate fun p => reloadPort c.ports[p] s.ports[p]
    arbiter := { s.arbiter with removals := [] } }

theorem tableResetValues_eq (s : State) (c : WorkingConfig) :
    s.tableResetValues c = ((s.recordsReloaded c).reloadDrive.reloadMeasure c).reformAll := rfl

theorem recordsReloaded_outlet (s : State) (c : WorkingConfig) (n : OutletId) :
    (s.recordsReloaded c).outlet n = Outlet.ofConfig c.outlets[n] := by
  simp [recordsReloaded, outlet]

theorem recordsReloaded_port (s : State) (c : WorkingConfig) (q : Port) :
    (s.recordsReloaded c).port q = reloadPort c.ports[q] (s.port q) := by
  simp [recordsReloaded, port]

theorem recordsReloaded_branch (s : State) (c : WorkingConfig) (b : BranchId) :
    (s.recordsReloaded c).branch b = { s.branch b with interval := c.settle[b] } := by
  simp [recordsReloaded, branch]

theorem recordsReloaded_storeRec (s : State) (c : WorkingConfig) (i : StoreId) :
    (s.recordsReloaded c).storeRec i = { settings := c.stores[i], reading := .notValid, lastRecharge := none } := by
  simp [recordsReloaded, storeRec]

theorem ofConfig_calm (c : OutletConfig) : isSensing (Outlet.ofConfig c).condition = false := by
  unfold Outlet.ofConfig
  cases c.start <;> rfl

/-- The drive after the reload of the structures. -/
theorem reloadDrive_records (s : State) (c : WorkingConfig) (holder : s.arbiter.holder = some .store) :
    let t := (s.recordsReloaded c).reloadDrive
    DriveOnly (s.recordsReloaded c) t ∧ Loading t ∧
    (∀ n, ChannelLoaded (Outlet.ofConfig c.outlets[n]) (s.channel n) (t.channel n)) ∧
    ∀ b, t.branch b = closes s (fun n => decide ((t.channel n).applied = 0)) b
      { interval := c.settle[b], timer := (s.branch b).timer, queue := [] } := by
  obtain ⟨drive, channels, branches⟩ := (s.recordsReloaded c).reloadDrive_spec
  have outlets := s.recordsReloaded_outlet c
  have records := s.recordsReloaded_branch c
  intro t
  change DriveOnly _ t at drive
  change ∀ n, t.channel n = _ at channels
  change ∀ b, t.branch b = _ at branches
  clear_value t
  have channel : ∀ n, (s.recordsReloaded c).channel n = s.channel n := fun _ => rfl
  have held : (s.recordsReloaded c).arbiter.holder = some .store := holder
  have steam : (s.recordsReloaded c).steam.timer = none := rfl
  have water : (s.recordsReloaded c).water.timer = none := rfl
  generalize s.recordsReloaded c = u at *
  have loaded : ∀ n, ChannelLoaded (Outlet.ofConfig c.outlets[n]) (s.channel n) (t.channel n) := fun n => by
    rw [channels]
    dsimp only
    rw [outlets, channel]
    exact reloadChannel_loaded _ _ _
  refine ⟨drive, ⟨?_, fun n => ?_, fun n => (loaded n).inPattern, fun b => ?_, ?_, ?_⟩, loaded, fun b => ?_⟩
  · rw [drive.get State.arbiter]
    exact held
  · rw [drive.get (State.outlet · n), outlets]
    exact ofConfig_calm _
  · rw [branches, closes]
    split <;> rfl
  · rw [drive.get State.steam]
    exact steam
  · rw [drive.get State.water]
    exact water
  · rw [branches, closes, closes, records]
    refine if_congr (exists_congr fun n => ?_) rfl rfl
    rw [channel, channels, channel]

/-- What the values of a load leave, whichever reset it follows; the branches, ports and engine apart. -/
structure ValuesLoaded (s : State) (c : WorkingConfig) (t : State) : Prop where
  outlets : ∀ n, t.outlet n = Outlet.ofConfig c.outlets[n]
  profile : t.profile = c.profile
  water : t.water = WaterPool.ofConfig c
  bursts : t.bursts = s.bursts
  action : t.reference.action = c.faultAction
  ratio : ∀ m, RatioLoaded (t.ratioChannel m) c.ratioEnable[m] c.ratioTrim[m]
  pulse : ∀ f, t.pulseChannel f = { s.pulseChannel f with weight := c.pulseWeight[f] }
  store : t.store = s.store
  pending : t.pending = s.pending

/-- The measurement side after a load, from a part whose drive has been reloaded. -/
theorem Loading.reloadMeasure {s : State} (h : Loading s) (c : WorkingConfig) :
    let t := (s.reloadMeasure c).reformAll
    LoadKept s { t with pulse := s.pulse } ∧ t.reference.action = c.faultAction ∧
    (t.engine.state = if s.reference.state = .refFault ∧ s.reference.action ≠ .safe ∧ c.faultAction = .safe
      then .safe else s.engine.state) ∧
    (∀ m, RatioLoaded (t.ratioChannel m) c.ratioEnable[m] c.ratioTrim[m]) ∧
    (∀ f, t.pulseChannel f = { s.pulseChannel f with weight := c.pulseWeight[f] }) ∧
    ∀ i, t.storeRec i = { s.storeRec i with reading := t.formReading (s.storeRec i).settings } := by
  obtain ⟨kept, action, state⟩ := h.setFaultAction c.faultAction
  obtain ⟨frame, reference, readings, loaded, -⟩ := foldl_setRatio (fun m => c.ratioEnable[m]) (fun m => c.ratioTrim[m])
    (List.finRange 6) (s.setFaultAction c.faultAction) (List.nodup_finRange 6)
  have shape : s.reloadMeasure c = ((List.finRange 6).foldl (fun t m => t.setRatio m c.ratioEnable[m] c.ratioTrim[m])
      (s.setFaultAction c.faultAction)).mapPulse fun f p => { p with weight := c.pulseWeight[f] } := rfl
  rw [shape]
  generalize s.setFaultAction c.faultAction = w at *
  dsimp only at frame reference readings loaded
  generalize (List.finRange 6).foldl (fun t m => t.setRatio m c.ratioEnable[m] c.ratioTrim[m]) w = x at *
  have both := kept.measure frame readings
  have formed : ∀ i, ((x.mapPulse fun f p => { p with weight := c.pulseWeight[f] }).reformAll).storeRec i =
      { x.storeRec i with reading :=
        ((x.mapPulse fun f p => { p with weight := c.pulseWeight[f] }).reformAll).formReading (x.storeRec i).settings } :=
    fun i => mapStores_storeRec _ _ i
  have settings : ∀ i, (x.storeRec i).settings = (s.storeRec i).settings := fun i => by
    obtain ⟨r, reading⟩ := both.stores i
    rw [reading]
  intro t
  have pulses : ∀ f, t.pulseChannel f = { x.pulseChannel f with weight := c.pulseWeight[f] } := fun f =>
    (mapPulse_pulseChannel x (fun f p => { p with weight := c.pulseWeight[f] }) f :)
  refine ⟨both.measure (u := { t with pulse := s.pulse }) ?_ fun i => ⟨_, formed i⟩, (congrArg (·.action) reference).trans action,
    (congrArg (·.engine.state) frame :).trans state, fun m => loaded m (List.mem_finRange m), fun f => ?_, fun i => ?_⟩
  · rw [← both.pulse]
    rfl
  · rw [pulses, pulseChannel, both.pulse]
    rfl
  · obtain ⟨r, reading⟩ := both.stores i
    rw [← settings]
    refine (formed i).trans ?_
    rw [reading]

/-- The values of a TABLE RESET's load. -/
theorem tableResetValues_spec {s : State} (c : WorkingConfig) (holder : s.arbiter.holder = some .store) :
    let t := s.tableResetValues c
    ValuesLoaded s c t ∧ t.steam = { SteamPool.ofConfig c with lowpr := s.inputs.lowpr.asserted } ∧
    t.engine = { s.engine with state := t.engine.state } ∧
    (t.engine.state = if s.reference.state = .refFault ∧ s.reference.action ≠ .safe ∧ c.faultAction = .safe
      then .safe else s.engine.state) ∧
    (∀ i, t.storeRec i = { settings := c.stores[i], lastRecharge := none, reading := t.formReading c.stores[i] }) ∧
    (∀ n, ChannelLoaded (Outlet.ofConfig c.outlets[n]) (s.channel n) (t.channel n)) ∧
    (∀ b, t.branch b = closes s (fun n => decide ((t.channel n).applied = 0)) b
      { interval := c.settle[b], timer := (s.branch b).timer, queue := [] }) ∧
    ∀ q, t.port q = { reloadPort c.ports[q] (s.port q) with flags := { (s.port q).flags with
      engineState := (s.port q).flags.engineState || decide (t.engine.state ≠ s.engine.state) } } := by
  intro t
  have shape : t = ((s.recordsReloaded c).reloadDrive.reloadMeasure c).reformAll := s.tableResetValues_eq c
  obtain ⟨drive, loading, channels, branches⟩ := s.reloadDrive_records c holder
  obtain ⟨kept, action, state, ratio, pulse, stores⟩ := loading.reloadMeasure c
  rw [← shape] at kept action state ratio pulse stores
  clear_value t
  have outlets := s.recordsReloaded_outlet c
  have ports := s.recordsReloaded_port c
  have storeRecs := s.recordsReloaded_storeRec c
  have reference : (s.recordsReloaded c).reloadDrive.reference = s.reference := drive.get State.reference
  have engine : (s.recordsReloaded c).reloadDrive.engine = s.engine := drive.get State.engine
  have pulses : ∀ f, (s.recordsReloaded c).reloadDrive.pulseChannel f = s.pulseChannel f := fun f =>
    drive.get (State.pulseChannel · f)
  generalize (s.recordsReloaded c).reloadDrive = v at *
  refine ⟨⟨fun n => ?_, ?_, ?_, ?_, action, ratio, fun f => ?_, ?_, ?_⟩, ?_, ?_, ?_, fun i => ?_, fun n => ?_, fun b => ?_,
    fun q => ?_⟩
  · exact (kept.outlets n).trans ((drive.get (State.outlet · n)).trans (outlets n))
  · exact kept.profile.trans (drive.get State.profile)
  · exact kept.water.trans (drive.get State.water)
  · exact kept.bursts.trans (drive.get State.bursts)
  · rw [pulse, pulses]
  · exact kept.rest.2.1.trans (drive.get State.store)
  · exact kept.rest.2.2.trans (drive.get State.pending)
  · exact kept.steam.trans (drive.get State.steam)
  · rw [← engine]
    exact kept.engine
  · rw [← engine, ← reference]
    exact state
  · rw [stores, show v.storeRec i = (s.recordsReloaded c).storeRec i from drive.get (State.storeRec · i), storeRecs]
  · rw [show t.channel n = v.channel n from kept.channels n]
    exact channels n
  · rw [show t.branch b = v.branch b from kept.branches b, branches]
    simp only [show ∀ n, t.channel n = v.channel n from kept.channels]
  · refine (kept.ports q).trans ?_
    rw [show v.port q = (s.recordsReloaded c).port q from drive.get (State.port · q), ports, engine]
    rfl

end State

end Sys2Proof.Machine
end

section
set_option Elab.async false
/-! PROOFS. Power-on, and the end of a load as a whole (R154, R165, R168, R170). -/

namespace Sys2Proof.Machine

open Sys2Proof.Statements

namespace State

/-! ## The end of the power-on sequence (R168) -/

theorem startupValues_spec (s : State) (c : WorkingConfig) :
    let t := s.startupValues c
    ValuesLoaded s c t ∧ t.steam = { SteamPool.ofConfig c with lowpr := s.steam.lowpr } ∧
    (∀ i, t.storeRec i = { settings := c.stores[i], lastRecharge := none, reading := .notValid }) ∧
    (∀ n, ChannelLoaded (Outlet.ofConfig c.outlets[n]) (Channel.ofOutlet (Outlet.ofConfig c.outlets[n])) (t.channel n)) ∧
    (∀ b, t.branch b = { interval := c.settle[b], timer := none, queue := [] }) ∧
    ∀ q, t.port q = { s.port q with receiver := .idle, outstanding := none, config := c.ports[q], link := .active
                                    silence := SilenceTimer.load c.ports[q].silence } := by
  intro t
  refine ⟨⟨fun n => ?_, rfl, rfl, rfl, rfl, fun m => ?_, fun f => ?_, rfl, rfl⟩, rfl, fun i => ?_, fun n => ?_, fun b => ?_,
    fun q => ?_⟩
  · simp [t, startupValues, outlet]
  · have channel : t.ratioChannel m = RatioChannel.ofConfig c.ratioEnable[m] c.ratioTrim[m] := by
      simp [t, startupValues, ratioChannel]
    rw [channel, RatioLoaded]
    cases c.ratioEnable[m] <;> simp [RatioChannel.ofConfig]
  · simp [t, startupValues, pulseChannel]
  · simp [t, startupValues, storeRec, Store.ofSettings]
  · have channel : t.channel n = resetChannel (Channel.ofOutlet (Outlet.ofConfig c.outlets[n])) := by
      simp [t, startupValues, channel]
    rw [channel]
    exact resetChannel_loaded _
  · simp [t, startupValues, branch]
  · simp [t, startupValues, port]

/-! ## Power-on and the reset line (R168 step 1) -/

/-- What the power-on reset leaves. -/
theorem powerUp_spec (s : State) (cause : ResetCause) :
    let t := s.powerUp cause
    (∀ n, (t.channel n).output = .neither ∧ (t.outlet n).grant = 0) ∧
    (∀ i, (t.input i).asserted = true ∧ (t.input i).debounce = .establishing 100 (s.input i).low) ∧
    ∀ p, (t.port p).flags = .clear ∧ (t.port p).outstanding = none ∧ (t.port p).mask = BitVec.allOnes 19 := by
  intro t
  refine ⟨fun n => ⟨?_, ?_⟩, fun i => ?_, fun p => ?_⟩
  · simp [t, powerUp, channel]
  · simp [t, powerUp, outlet, reset, Outlet.ofConfig]
  · cases i <;> exact ⟨rfl, rfl⟩
  · have unit : t.port p = PortUnit.ofConfig Config.defaults.ports[p] := by simp [t, powerUp, port, reset]
    rw [unit]
    exact ⟨rfl, rfl, rfl⟩

/-! ## The end of a load (R165, R168, R170) -/

theorem finishLoad_starting {s : State} (starting : s.engine.starting = true) :
    s.finishLoad = (s.startupValues s.loadedConfig).endLoad (!s.storedValid) := if_pos starting

theorem finishLoad_reload {s : State} (starting : s.engine.starting = false) :
    s.finishLoad = ((s.tableResetValues s.loadedConfig).postAll
      (.configDone (if s.storedValid then .loaded else .defaulted))).endLoad (!s.storedValid) :=
  if_neg (by rw [starting]; decide)

theorem loadedConfig_invalid {s : State} (h : s.storedValid = false) : s.loadedConfig = Config.defaults := by
  rw [loadedConfig, h]
  rfl

theorem loadedConfig_valid {s : State} (h : s.storedValid = true) : s.loadedConfig = clampConfig s.store.image := by
  rw [loadedConfig, h]
  rfl

end State

/-- Settles O60 (R23, R25, R51, R68, R99, R123, R136, R154, R165, R168, R170): power-on begins a load, whose end gives every block its part of the configuration. -/
theorem powerOnAndTheEndOfALoad : Obligations.PowerOnAndTheEndOfALoad := by
  intro s
  refine ⟨fun i which => ?_, fun op holder => ?_⟩
  · rcases which with rfl | rfl
    · obtain ⟨outlets, inputs, ports⟩ := s.powerUp_spec .powerOn
      exact ⟨s.powerUp .powerOn, rfl, rfl, rfl, rfl, rfl, rfl, rfl, rfl, rfl, rfl, rfl, outlets, inputs, ports⟩
    · obtain ⟨outlets, inputs, ports⟩ := s.powerUp_spec .resetLine
      exact ⟨s.powerUp .resetLine, rfl, rfl, rfl, rfl, rfl, rfl, rfl, rfl, rfl, rfl, rfl, outlets, inputs, ports⟩
  · intro cfg
    have row : exec .configLoadEnd s = .next s.finishLoad := congrArg Host.Outcome.next (if_pos ⟨op, holder⟩)
    have named : cfg = s.loadedConfig := rfl
    have invalid : s.storedValid = false → cfg = Config.defaults := fun h => named.trans (State.loadedConfig_invalid h)
    have valid : s.storedValid = true → cfg = State.clampConfig s.store.image := fun h =>
      named.trans (State.loadedConfig_valid h)
    cases starting : s.engine.starting with
    | true =>
      rw [State.finishLoad_starting starting, ← named] at row
      obtain ⟨loaded, steam, stores, channels, branches, ports⟩ := s.startupValues_spec cfg
      clear_value cfg
      have scan : (s.startupValues cfg).scan = s.scan := rfl
      have inputs : (s.startupValues cfg).inputs = s.inputs := rfl
      have state : (s.startupValues cfg).engine.state = s.engine.state := rfl
      generalize s.startupValues cfg = u at *
      obtain ⟨outlets, profile, water, bursts, action, ratio, pulse, store, pending⟩ := loaded
      refine ⟨_, row, rfl, rfl, rfl, rfl, rfl, store, pending, fun _ => ⟨scan, inputs, state, fun p => ?_⟩, nofun, fun bad => ?_,
        fun good => ?_, profile, fun p => ?_, ?_, ?_, fun i => ?_, action, ratio, pulse, bursts, fun n => ?_, fun b => ?_,
        fun n => ?_, fun n => ?_⟩
      · change (u.port p).flags = _ ∧ (u.port p).receiver = _ ∧ (u.port p).outstanding = _ ∧ (u.port p).link = _ ∧
          (u.port p).silence = SilenceTimer.load (u.port p).config.silence
        rw [ports]
        exact ⟨rfl, rfl, rfl, rfl, rfl⟩
      · refine ⟨profile.trans ?_, (congrArg SteamPool.margin steam).trans ?_, (congrArg (·.config.globalRights.admin) (ports 0)).trans ?_⟩
        · rw [invalid bad]
          rfl
        · rw [invalid bad]
          rfl
        · rw [invalid bad]
          simp [Config.defaults, Config.defaultPort]
      · refine ⟨profile.trans ?_, (congrArg SteamPool.margin steam).trans ?_⟩
        · rw [valid good]
          rfl
        · rw [valid good]
          rfl
      · exact congrArg PortUnit.config (ports p)
      · exact steam
      · exact water
      · exact stores i
      · change (u.outlet n).overStreak = _ ∧ (u.outlet n).underStreak = _ ∧ (u.outlet n).continuity = _ ∧ (u.outlet n).burstRef = _
        rw [outlets]
        exact ⟨rfl, rfl, rfl, rfl⟩
      · exact branches b
      · refine (channels n).trans ?_
        have condition : ((u.endLoad (!s.storedValid)).outlet n).condition = (Outlet.ofConfig cfg.outlets[n]).condition :=
          congrArg Outlet.condition (outlets n)
        rw [condition]
        rfl
      · change (u.outlet n).struct = _ ∧ (u.outlet n).limits = _ ∧ (u.outlet n).demand = _ ∧ (u.outlet n).grant = _ ∧
          (u.outlet n).status = _ ∧ (u.outlet n).trim = _ ∧ (u.outlet n).condition = _ ∧ (u.outlet n).owner = _
        rw [outlets]
        exact ⟨rfl, rfl, rfl, rfl, rfl, rfl, rfl, rfl⟩
    | false =>
      rw [State.finishLoad_reload starting, ← named] at row
      obtain ⟨loaded, steam, engine, state, stores, channels, branches, ports⟩ := State.tableResetValues_spec cfg holder
      clear_value cfg
      generalize s.tableResetValues cfg = u at *
      obtain ⟨outlets, profile, water, bursts, action, ratio, pulse, store, pending⟩ := loaded
      let e : Event := .configDone (if s.storedValid then .loaded else .defaulted)
      have units : ∀ p, ((u.postAll e).endLoad (!s.storedValid)).port p = withEvent (u.port p) e := fun p =>
        u.postAll_port e p
      refine ⟨_, row, rfl, rfl, rfl, rfl, rfl, store, pending, nofun, fun _ p => ?_, fun bad => ?_,
        fun good => ?_, profile, fun p => ?_, ?_, ?_, fun i => ?_, action, ratio, pulse, bursts, fun n => ?_, fun b => ?_,
        fun n => ?_, fun n => ?_⟩
      · have unit := (units p).trans (congrArg (withEvent · e) (ports p))
        rw [unit]
        exact ⟨rfl, rfl, state, rfl, rfl, rfl, rfl⟩
      · refine ⟨profile.trans ?_, (congrArg SteamPool.margin steam).trans ?_, ?_⟩
        · rw [invalid bad]
          rfl
        · rw [invalid bad]
          rfl
        · refine (congrArg (·.config.globalRights.admin) ((units 0).trans (congrArg (withEvent · e) (ports 0)))).trans ?_
          rw [invalid bad]
          simp [withEvent, State.reloadPort, Config.defaults, Config.defaultPort]
      · refine ⟨profile.trans ?_, (congrArg SteamPool.margin steam).trans ?_⟩
        · rw [valid good]
          rfl
        · rw [valid good]
          rfl
      · exact congrArg PortUnit.config ((units p).trans (congrArg (withEvent · e) (ports p)))
      · exact steam
      · exact water
      · exact stores i
      · change (u.outlet n).overStreak = _ ∧ (u.outlet n).underStreak = _ ∧ (u.outlet n).continuity = _ ∧ (u.outlet n).burstRef = _
        rw [outlets]
        exact ⟨rfl, rfl, rfl, rfl⟩
      · exact branches b
      · refine (channels n).trans ?_
        have condition : (((u.postAll e).endLoad (!s.storedValid)).outlet n).condition =
            (Outlet.ofConfig cfg.outlets[n]).condition := congrArg Outlet.condition (outlets n)
        rw [condition]
        rfl
      · change (u.outlet n).struct = _ ∧ (u.outlet n).limits = _ ∧ (u.outlet n).demand = _ ∧ (u.outlet n).grant = _ ∧
          (u.outlet n).status = _ ∧ (u.outlet n).trim = _ ∧ (u.outlet n).condition = _ ∧ (u.outlet n).owner = _
        rw [outlets]
        exact ⟨rfl, rfl, rfl, rfl, rfl, rfl, rfl, rfl⟩

end Sys2Proof.Machine
end

section
set_option Elab.async false
/-! PROOFS. The close of a round and the overdraw trim, outlet by outlet (R42, R45, R47, R78 to R81). -/

namespace Sys2Proof.Machine

open Sys2Proof.Statements

namespace State

/-! ## The close of one outlet (R42, R45, R47) -/

/-- The status a round gives an outlet. -/
def statusAfter (o : Outlet) (cleared : Bool) (g : Nat) : GrantStatus :=
  roundStatus o.condition cleared o.demand g o.limits.floor

/-- The close of an outlet that is in the pool of a round. -/
def closeOf (pool : Pool) (grantOf : OutletId → Nat) (n : OutletId) (s : State) : State :=
  if (s.outlet n).struct.pool = pool then s.closeOutlet n (grantOf n) else s

/-- An outlet record after the close. -/
def closedOutlet (pool : Pool) (cleared : Bool) (g : Nat) (o : Outlet) : Outlet :=
  if o.struct.pool = pool then { o with grant := g, status := statusAfter o cleared g } else o

/-- The channel of an outlet after the close. -/
def closedChannel (pool : Pool) (g : Nat) (o : Outlet) (c : Channel) : Channel :=
  if o.struct.pool = pool then { c with grant := g } else c

/-- An outlet comes into SHED at the close. -/
def sheds (pool : Pool) (cleared : Bool) (g : Nat) (o : Outlet) : Bool :=
  decide (o.struct.pool = pool ∧ o.status ≠ .shed ∧ statusAfter o cleared g = .shed)

/-- An outlet leaves SHED at the close. -/
def restores (pool : Pool) (cleared : Bool) (g : Nat) (o : Outlet) : Bool :=
  decide (o.struct.pool = pool ∧ o.status = .shed ∧ statusAfter o cleared g ≠ .shed)

/-- The record and the channel written, before an event is posted. -/
def closeWritten (s : State) (n : OutletId) (g : Nat) : State :=
  (s.modOutlet n fun o => { o with status := statusAfter (s.outlet n) (s.clearedAmount n).isSome g }).setGrant n g

theorem closeOutlet_eq (s : State) (n : OutletId) (g : Nat) :
    s.closeOutlet n g =
      if statusAfter (s.outlet n) (s.clearedAmount n).isSome g = .shed ∧ (s.outlet n).status ≠ .shed
      then (s.closeWritten n g).postOutlet n (.outletShed n)
      else if (s.outlet n).status = .shed ∧ statusAfter (s.outlet n) (s.clearedAmount n).isSome g ≠ .shed
      then (s.closeWritten n g).postOutlet n (.outletRestored n)
      else s.closeWritten n g := rfl

theorem closeOutlet_frame (s : State) (n : OutletId) (g : Nat) :
    s.closeOutlet n g = { s.closeWritten n g with ports := (s.closeOutlet n g).ports } := by
  rw [closeOutlet_eq]
  split
  · rfl
  · split <;> rfl

theorem closeOf_spec (pool : Pool) (grantOf : OutletId → Nat) (n : OutletId) (s : State) :
    let t := closeOf pool grantOf n s
    let cleared := (s.clearedAmount n).isSome
    besideSenses t = besideSenses s ∧ t.outlet n = closedOutlet pool cleared (grantOf n) (s.outlet n) ∧
    t.channel n = closedChannel pool (grantOf n) (s.outlet n) (s.channel n) ∧
    (∀ m, m ≠ n → t.outlet m = s.outlet m ∧ t.channel m = s.channel m) := by
  intro t cleared
  by_cases here : (s.outlet n).struct.pool = pool
  · have shape : t = { s.closeWritten n (grantOf n) with ports := t.ports } :=
      (if_pos here).trans (by rw [show t = s.closeOutlet n (grantOf n) from if_pos here]; exact closeOutlet_frame s n (grantOf n))
    rw [closedOutlet, closedChannel, if_pos here, if_pos here]
    clear_value t
    refine ⟨by rw [shape]; rfl, (congrArg (State.outlet · n) shape :).trans ?_,
      (congrArg (State.channel · n) shape :).trans ?_, fun m hm =>
      ⟨(congrArg (State.outlet · m) shape :).trans ?_, (congrArg (State.channel · m) shape :).trans ?_⟩⟩
    · change (s.closeWritten n (grantOf n)).outlet n = _
      rw [closeWritten, setGrant_outlet, modOutlet_outlet_self]
    · change (s.closeWritten n (grantOf n)).channel n = _
      rw [closeWritten, setGrant_channel]
      rfl
    · change (s.closeWritten n (grantOf n)).outlet m = _
      rw [closeWritten, setGrant_outlet_ne _ _ _ _ hm, modOutlet_outlet_ne _ _ hm]
    · change (s.closeWritten n (grantOf n)).channel m = _
      rw [closeWritten, setGrant_channel_ne _ _ _ _ hm]
      rfl
  · have shape : t = s := if_neg here
    rw [shape, closedOutlet, closedChannel, if_neg here, if_neg here]
    exact ⟨rfl, rfl, rfl, fun _ _ => ⟨rfl, rfl⟩⟩

theorem closeWritten_readEvent (s : State) (n : OutletId) (g : Nat) (e : Event) (q : Port) :
    ((s.closeWritten n g).postOutlet n e).port q = readEvent s n e q := by
  refine (postOutlet_port _ n e q).trans (readEvent_congr e rfl (rights_congr rfl rfl ?_))
  rw [closeWritten, setGrant_outlet, modOutlet_outlet_self]

/-- The flags of a port after the close of one outlet. -/
theorem closeOf_port (pool : Pool) (grantOf : OutletId → Nat) (n : OutletId) (s : State) (q : Port) :
    (closeOf pool grantOf n s).port q = { s.port q with flags := { (s.port q).flags with
      outletShed := if (sheds pool (s.clearedAmount n).isSome (grantOf n) (s.outlet n) && (s.rights q n).read) = true
        then lowerIndex (s.port q).flags.outletShed n else (s.port q).flags.outletShed
      outletRestored := if (restores pool (s.clearedAmount n).isSome (grantOf n) (s.outlet n) && (s.rights q n).read) = true
        then lowerIndex (s.port q).flags.outletRestored n else (s.port q).flags.outletRestored } } := by
  by_cases here : (s.outlet n).struct.pool = pool
  · rw [closeOf, if_pos here, closeOutlet_eq, sheds, restores]
    by_cases into : statusAfter (s.outlet n) (s.clearedAmount n).isSome (grantOf n) = .shed
    · by_cases was : (s.outlet n).status = .shed
      · rw [if_neg fun h => h.2 was, if_neg fun h => h.2 into]
        simp [into, was]
        rfl
      · rw [if_pos ⟨into, was⟩, closeWritten_readEvent, readEvent]
        by_cases reads : (s.rights q n).read = true
        · simp [into, was, here, reads]
          rfl
        · simp [into, was, reads]
    · by_cases was : (s.outlet n).status = .shed
      · rw [if_neg fun h => into h.1, if_pos ⟨was, into⟩, closeWritten_readEvent, readEvent]
        by_cases reads : (s.rights q n).read = true
        · simp [into, was, here, reads]
          rfl
        · simp [into, was, reads]
      · rw [if_neg fun h => into h.1, if_neg fun h => was h.1]
        simp [into, was]
        rfl
  · rw [closeOf, if_neg here, sheds, restores]
    simp [here]

theorem closeOf_view (pool : Pool) (grantOf : OutletId → Nat) (n : OutletId) (s : State) :
    viewOf n (closeOf pool grantOf n s) =
      (closedOutlet pool ((besideSenses s).clearedAmount n).isSome (grantOf n) (s.outlet n),
        closedChannel pool (grantOf n) (s.outlet n) (s.channel n), fun q => s.rights q n) := by
  obtain ⟨beside, outlet, channel, -⟩ := closeOf_spec pool grantOf n s
  refine Prod.ext outlet (Prod.ext channel (funext fun q => rights_congr (by rw [closeOf_port]) ?_ ?_))
  · exact (congrArg State.inputs beside :)
  · rw [outlet, closedOutlet]
    split <;> rfl

theorem closeOf_view_ne (pool : Pool) (grantOf : OutletId → Nat) {n m : OutletId} (s : State) (h : n ≠ m) :
    viewOf n (closeOf pool grantOf m s) = viewOf n s := by
  obtain ⟨beside, -, -, others⟩ := closeOf_spec pool grantOf m s
  obtain ⟨outlet, channel⟩ := others n h
  refine Prod.ext outlet (Prod.ext channel (funext fun q => rights_congr (by rw [closeOf_port]) ?_ (by rw [outlet])))
  exact (congrArg State.inputs beside :)

/-! ## The close of a round -/

theorem closeOutlets_eq (s : State) (pool : Pool) (grantOf : OutletId → Nat) :
    s.closeOutlets pool grantOf = s.forOutlets (closeOf pool grantOf) := rfl

/-- The close of every outlet of a pool: records, channels, and the events of SHED. -/
theorem closeOutlets_spec (s : State) (pool : Pool) (grantOf : OutletId → Nat) :
    let t := s.closeOutlets pool grantOf
    t = { s with outlets := t.outlets, channels := t.channels, ports := t.ports } ∧
    (∀ n, t.outlet n = closedOutlet pool (s.clearedAmount n).isSome (grantOf n) (s.outlet n) ∧
      t.channel n = closedChannel pool (grantOf n) (s.outlet n) (s.channel n)) ∧
    ∀ q, t.port q = { s.port q with flags := { (s.port q).flags with
      outletShed := lowestPosted s q (s.port q).flags.outletShed fun n =>
        sheds pool (s.clearedAmount n).isSome (grantOf n) (s.outlet n)
      outletRestored := lowestPosted s q (s.port q).flags.outletRestored fun n =>
        restores pool (s.clearedAmount n).isSome (grantOf n) (s.outlet n) } } := by
  rw [closeOutlets_eq]
  have beside : ∀ n u, besideSenses (closeOf pool grantOf n u) = besideSenses u := fun n u => (closeOf_spec pool grantOf n u).1
  have other : ∀ n m u, n ≠ m → viewOf n (closeOf pool grantOf m u) = viewOf n u := fun _ _ u h => closeOf_view_ne pool grantOf u h
  obtain ⟨kept, views⟩ := s.forOutlets_view (f := closeOf pool grantOf) (C := besideSenses) (g := viewOf)
    (φ := fun n c v => (closedOutlet pool (c.clearedAmount n).isSome (grantOf n) v.1, closedChannel pool (grantOf n) v.1 v.2.1, v.2.2))
    beside (closeOf_view pool grantOf) other
  have shed : ∀ q, ((s.forOutlets (closeOf pool grantOf)).port q).flags.outletShed =
      lowestPosted s q (s.port q).flags.outletShed fun n =>
        sheds pool (s.clearedAmount n).isSome (grantOf n) (s.outlet n) := fun q =>
    forOutlets_lowest (f := closeOf pool grantOf) (C := besideSenses) (g := viewOf) (F := fun u => (u.port q).flags.outletShed)
      (fun n c v => sheds pool (c.clearedAmount n).isSome (grantOf n) v.1 && (v.2.2 q).read) s q beside other
      (fun n u => by rw [closeOf_port]; rfl) fun _ => rfl
  have restored : ∀ q, ((s.forOutlets (closeOf pool grantOf)).port q).flags.outletRestored =
      lowestPosted s q (s.port q).flags.outletRestored fun n =>
        restores pool (s.clearedAmount n).isSome (grantOf n) (s.outlet n) := fun q =>
    forOutlets_lowest (f := closeOf pool grantOf) (C := besideSenses) (g := viewOf) (F := fun u => (u.port q).flags.outletRestored)
      (fun n c v => restores pool (c.clearedAmount n).isSome (grantOf n) v.1 && (v.2.2 q).read) s q beside other
      (fun n u => by rw [closeOf_port]; rfl) fun _ => rfl
  have others : ∀ q, (s.forOutlets (closeOf pool grantOf)).port q = { s.port q with flags := { (s.port q).flags with
      outletShed := ((s.forOutlets (closeOf pool grantOf)).port q).flags.outletShed
      outletRestored := ((s.forOutlets (closeOf pool grantOf)).port q).flags.outletRestored } } := fun q =>
    forOutlets_induct (fun u => u.port q = { s.port q with flags := { (s.port q).flags with
      outletShed := (u.port q).flags.outletShed, outletRestored := (u.port q).flags.outletRestored } }) _ s rfl fun n u same => by
        rw [closeOf_port, same]
  generalize s.forOutlets (closeOf pool grantOf) = t at *
  refine ⟨?_, fun n => ⟨congrArg Prod.fst (views n), congrArg (fun v => v.2.1) (views n)⟩, fun q => ?_⟩
  · have frame : t = { besideSenses t with outlets := t.outlets, channels := t.channels, ports := t.ports } := rfl
    rw [kept] at frame
    exact frame
  · rw [← shed, ← restored]
    exact others q

end State

end Sys2Proof.Machine
end

section
set_option Elab.async false
/-! PROOFS. The water round: the captured windows, the overdraw trim and the close (R43 to R45, R78 to R81, R94, R116). -/

namespace Sys2Proof.Machine

open Sys2Proof.Statements

namespace State

/-! ## The overdraw trim (R79 to R81) -/

/-- The captured flow that an outlet is compared with, if it is. -/
def flowOf (s : State) (o : Outlet) (c : Channel) : Option Nat :=
  match o.struct.pool, o.struct.meter with
  | .water, some f =>
    if c.phase = .cycling ∧ ¬ (s.pulseChannel f).lastSaturated = true then some (s.pulseChannel f).lastFlow else none
  | _, _ => none

/-- An outlet after the trim. -/
def trimmedBy (flow : Option Nat) (o : Outlet) : Outlet := flow.elim o fun m => (stepTrim o m).1

/-- Whether the trim posts OVERDRAW. -/
def overdraws (flow : Option Nat) (o : Outlet) : Bool := flow.any fun m => (stepTrim o m).2

theorem trimOutlet_eq (s : State) (n : OutletId) :
    s.trimOutlet n = match flowOf s (s.outlet n) (s.channel n) with
      | none => s
      | some m =>
        if (stepTrim (s.outlet n) m).2 = true then (s.modOutlet n fun _ => (stepTrim (s.outlet n) m).1).postOutlet n (.overdraw n)
        else s.modOutlet n fun _ => (stepTrim (s.outlet n) m).1 := by
  unfold trimOutlet flowOf
  dsimp only
  cases (s.outlet n).struct.pool with
  | water =>
    cases (s.outlet n).struct.meter with
    | none => rfl
    | some f =>
      dsimp only
      by_cases compared : (s.channel n).phase = .cycling ∧ ¬ (s.pulseChannel f).lastSaturated = true
      · rw [if_pos compared, if_pos compared]
      · rw [if_neg compared, if_neg compared]
  | unused | steam => rfl



theorem trimmedBy_struct (flow : Option Nat) (o : Outlet) : (trimmedBy flow o).struct = o.struct := by
  cases flow with
  | none => rfl
  | some m => exact stepTrim_struct o m

theorem trimOutlet_spec (n : OutletId) (s : State) :
    let t := s.trimOutlet n
    let flow := flowOf s (s.outlet n) (s.channel n)
    besideSenses t = besideSenses s ∧ t.outlet n = trimmedBy flow (s.outlet n) ∧ t.channels = s.channels ∧
    (∀ m, m ≠ n → t.outlet m = s.outlet m) ∧
    ∀ q, t.port q = { s.port q with flags := { (s.port q).flags with
      overdraw := if (overdraws flow (s.outlet n) && (s.rights q n).read) = true
        then lowerIndex (s.port q).flags.overdraw n else (s.port q).flags.overdraw } } := by
  have shape := s.trimOutlet_eq n
  dsimp only
  cases found : flowOf s (s.outlet n) (s.channel n) with
  | none =>
    rw [found] at shape
    rw [show s.trimOutlet n = s from shape]
    exact ⟨rfl, rfl, rfl, fun _ _ => rfl, fun _ => rfl⟩
  | some m =>
    rw [found] at shape
    dsimp only at shape
    have stepped : ∀ e q, ((s.modOutlet n fun _ => (stepTrim (s.outlet n) m).1).postOutlet n e).port q = readEvent s n e q :=
      fun e q => (postOutlet_port _ n e q).trans (readEvent_congr e rfl
        (rights_congr rfl rfl (by rw [modOutlet_outlet_self, stepTrim_struct])))
    have own : (s.modOutlet n fun _ => (stepTrim (s.outlet n) m).1).outlet n = (stepTrim (s.outlet n) m).1 :=
      modOutlet_outlet_self s n _
    have others : ∀ k, k ≠ n → (s.modOutlet n fun _ => (stepTrim (s.outlet n) m).1).outlet k = s.outlet k :=
      fun k hk => modOutlet_outlet_ne s _ hk
    by_cases posts : (stepTrim (s.outlet n) m).2 = true
    · rw [if_pos posts] at shape
      rw [shape]
      refine ⟨rfl, own, rfl, others, fun q => ?_⟩
      rw [stepped, readEvent, overdraws, Option.any_some, posts]
      by_cases reads : (s.rights q n).read = true
      · simp [reads]
        rfl
      · simp [reads]
    · rw [if_neg posts] at shape
      rw [shape]
      refine ⟨rfl, own, rfl, others, fun q => ?_⟩
      rw [overdraws, Option.any_some, Bool.eq_false_iff.mpr posts]
      rfl

theorem trimOutlet_view (n : OutletId) (s : State) :
    viewOf n (s.trimOutlet n) =
      (trimmedBy (flowOf (besideSenses s) (s.outlet n) (s.channel n)) (s.outlet n), s.channel n, fun q => s.rights q n) := by
  obtain ⟨beside, outlet, channels, -, ports⟩ := trimOutlet_spec n s
  have channel : (s.trimOutlet n).channel n = s.channel n := by rw [State.channel, channels, State.channel]
  refine Prod.ext outlet (Prod.ext channel (funext fun q => rights_congr (by rw [ports]) ?_ ?_))
  · exact (congrArg State.inputs beside :)
  · rw [outlet, trimmedBy_struct]

theorem trimOutlet_view_ne {n m : OutletId} (s : State) (h : n ≠ m) : viewOf n (s.trimOutlet m) = viewOf n s := by
  obtain ⟨beside, -, channels, others, ports⟩ := trimOutlet_spec m s
  have channel : (s.trimOutlet m).channel n = s.channel n := by rw [State.channel, channels, State.channel]
  refine Prod.ext (others n h) (Prod.ext channel (funext fun q => rights_congr (by rw [ports]) ?_ (by rw [others n h])))
  exact (congrArg State.inputs beside :)

/-- The trim of every outlet: the records and OVERDRAW. -/
theorem trimStage_spec (s : State) :
    let t := s.trimStage
    t = { s with outlets := t.outlets, ports := t.ports } ∧
    (∀ n, t.outlet n = trimmedBy (flowOf s (s.outlet n) (s.channel n)) (s.outlet n)) ∧
    ∀ q, t.port q = { s.port q with flags := { (s.port q).flags with
      overdraw := lowestPosted s q (s.port q).flags.overdraw fun n =>
        overdraws (flowOf s (s.outlet n) (s.channel n)) (s.outlet n) } } := by
  rw [show s.trimStage = s.forOutlets fun n t => t.trimOutlet n from rfl]
  have beside : ∀ n u, besideSenses (State.trimOutlet u n) = besideSenses u := fun n u => (trimOutlet_spec n u).1
  have other : ∀ n m u, n ≠ m → viewOf n (State.trimOutlet u m) = viewOf n u := fun _ _ u h => trimOutlet_view_ne u h
  obtain ⟨kept, views⟩ := s.forOutlets_view (f := fun n t => t.trimOutlet n) (C := besideSenses) (g := viewOf)
    (φ := fun _ c v => (trimmedBy (flowOf c v.1 v.2.1) v.1, v.2.1, v.2.2)) beside trimOutlet_view other
  have overdraw : ∀ q, ((s.forOutlets fun n t => t.trimOutlet n).port q).flags.overdraw =
      lowestPosted s q (s.port q).flags.overdraw fun n =>
        overdraws (flowOf s (s.outlet n) (s.channel n)) (s.outlet n) := fun q =>
    forOutlets_lowest (f := fun n t => t.trimOutlet n) (C := besideSenses) (g := viewOf) (F := fun u => (u.port q).flags.overdraw)
      (fun n c v => overdraws (flowOf c v.1 v.2.1) v.1 && (v.2.2 q).read) s q beside other
      (fun n u => by rw [(trimOutlet_spec n u).2.2.2.2]; rfl) fun _ => rfl
  have others : ∀ q, (s.forOutlets fun n t => t.trimOutlet n).port q = { s.port q with flags := { (s.port q).flags with
      overdraw := ((s.forOutlets fun n t => t.trimOutlet n).port q).flags.overdraw } } := fun q =>
    forOutlets_induct (fun u => u.port q = { s.port q with flags := { (s.port q).flags with
      overdraw := (u.port q).flags.overdraw } }) _ s rfl fun n u same => by
        rw [(trimOutlet_spec n u).2.2.2.2, same]
  have channels : (s.forOutlets fun n t => t.trimOutlet n).channels = s.channels :=
    forOutlets_kept State.channels _ s fun n u => (trimOutlet_spec n u).2.2.1
  generalize (s.forOutlets fun n t => t.trimOutlet n) = t at *
  refine ⟨?_, fun n => congrArg Prod.fst (views n), fun q => ?_⟩
  · have frame : t = { besideSenses t with outlets := t.outlets, channels := t.channels, ports := t.ports } := rfl
    rw [kept, channels] at frame
    exact frame
  · rw [← overdraw]
    exact others q

/-! ## What a water round compares (R78, R79) -/

theorem captureStage_pulseChannel (s : State) (f : PulseId) :
    s.captureStage.pulseChannel f = captureFlow (s.pulseChannel f) := mapPulse_pulseChannel s _ f

/-- After the capture an outlet is compared with the flow that its window measured, but in the first round of a RUN. -/
theorem flowOf_captureStage {s : State} (first : s.water.firstRound = false) (n : OutletId) :
    flowOf s.captureStage (s.outlet n) (s.channel n) = comparedFlow s n := by
  unfold flowOf comparedFlow
  cases (s.outlet n).struct.pool with
  | unused | steam => rfl
  | water =>
    cases (s.outlet n).struct.meter with
    | none => rfl
    | some f =>
      dsimp only
      rw [captureStage_pulseChannel]
      refine if_congr (and_congr_right fun _ => ?_) rfl rfl
      rw [Bool.not_eq_true, and_iff_left first]
      rfl

theorem comparedFlow_first {s : State} (first : s.water.firstRound = true) (n : OutletId) : comparedFlow s n = none := by
  unfold comparedFlow
  split
  · rw [if_neg fun h => Bool.noConfusion (first.symm.trans h.2.2)]
  · rfl

/-- The part as a water round's later stages find it: the windows captured, the trims stepped. -/
theorem waterInput_spec (s : State) :
    let t := s.waterInput
    t = { s with pulse := t.pulse, outlets := t.outlets, ports := t.ports } ∧
    (∀ f, t.pulseChannel f = captureFlow (s.pulseChannel f)) ∧
    (∀ n, t.outlet n = trimmedBy (comparedFlow s n) (s.outlet n)) ∧
    ∀ q, t.port q = { s.port q with flags := { (s.port q).flags with
      overdraw := lowestPosted s q (s.port q).flags.overdraw fun n => overdraws (comparedFlow s n) (s.outlet n) } } := by
  intro t
  cases first : s.water.firstRound with
  | true =>
    have shape : t = s.captureStage := if_pos first
    clear_value t
    subst shape
    refine ⟨rfl, s.captureStage_pulseChannel, fun n => ?_, fun q => ?_⟩
    · rw [comparedFlow_first first]
      rfl
    · have none : ∀ n, (overdraws (comparedFlow s n) (s.outlet n) && (s.rights q n).read) = false := fun n => by
        rw [comparedFlow_first first]
        rfl
      simp only [lowestPosted, none, List.filter_false]
      rfl
  | false =>
    have shape : t = s.captureStage.trimStage := if_neg (by rw [first]; decide)
    obtain ⟨frame, outlets, ports⟩ := s.captureStage.trimStage_spec
    rw [← shape] at frame outlets ports
    clear_value t
    have pulse : t.pulse = s.captureStage.pulse := (congrArg State.pulse frame :)
    refine ⟨?_, fun f => ?_, fun n => ?_, fun q => ?_⟩
    · rw [pulse]
      exact frame
    · exact (congrArg (State.pulseChannel · f) frame :).trans (s.captureStage_pulseChannel f)
    · exact (outlets n).trans (congrArg (trimmedBy · (s.outlet n)) (flowOf_captureStage first n))
    · have same : (fun n => overdraws (flowOf s.captureStage (s.captureStage.outlet n) (s.captureStage.channel n))
          (s.captureStage.outlet n)) = fun n => overdraws (comparedFlow s n) (s.outlet n) :=
        funext fun n => congrArg (overdraws · (s.outlet n)) (flowOf_captureStage first n)
      rw [ports, same]
      rfl

theorem trimmedBy_eq (flow : Option Nat) (o : Outlet) :
    trimmedBy flow o = { o with
      trim := (trimmedBy flow o).trim, overStreak := (trimmedBy flow o).overStreak
      underStreak := (trimmedBy flow o).underStreak } := by
  cases flow with
  | none => rfl
  | some m =>
    change (stepTrim o m).1 = { o with
      trim := (stepTrim o m).1.trim, overStreak := (stepTrim o m).1.overStreak, underStreak := (stepTrim o m).1.underStreak }
    unfold stepTrim
    split
    · split <;> rfl
    · split <;> rfl

/-! ## The whole round (R43 to R45) -/

/-- What a water round grants an outlet. -/
def waterGrantOf (s : State) (n : OutletId) : Nat :=
  waterGrant (s.waterInput.waterStages (s.water.flow * s.derate / 100)).1 n

theorem closedOutlet_struct (pool : Pool) (cleared : Bool) (g : Nat) (o : Outlet) :
    (closedOutlet pool cleared g o).struct = o.struct := by
  unfold closedOutlet
  split <;> rfl

theorem lowestPosted_congr {s t : State} {q : Port} (rights : ∀ n, s.rights q n = t.rights q n) (old : Option OutletId)
    (posts : OutletId → Bool) : lowestPosted s q old posts = lowestPosted t q old posts := by
  simp only [lowestPosted, rights]

/-- A water round from where its windows are captured and its trims stepped. -/
def waterRoundFrom (s : State) : State :=
  let uw := s.water.flow * s.derate / 100
  let t := (s.closeOutlets .water (waterGrant (s.waterStages uw).1)).handTrims
  { t with water := { t.water with
      lastDerate := s.derate, lastUsable := uw, sumGrants := t.sumGrants .water
      outcome := roundOutcome uw (s.waterStages uw).2, pointers := advancePointers t.water.pointers
      roundCount := t.water.roundCount + 1, firstRound := false } }

theorem runWaterRound_eq (s : State) : s.runWaterRound = s.waterInput.waterRoundFrom := by
  simp only [runWaterRound, waterRoundFrom, waterInput]

theorem waterRoundFrom_eq {s c : State} {uw d : Nat} (derated : s.derate = d) (usable : s.water.flow * d / 100 = uw)
    (closed : s.closeOutlets .water (waterGrant (s.waterStages uw).1) = c) :
    s.waterRoundFrom = { c.handTrims with water := { c.handTrims.water with
      lastDerate := d, lastUsable := uw, sumGrants := c.handTrims.sumGrants .water
      outcome := roundOutcome uw (s.waterStages uw).2, pointers := advancePointers c.handTrims.water.pointers
      roundCount := c.handTrims.water.roundCount + 1, firstRound := false } } := by
  subst derated usable closed
  simp only [waterRoundFrom]

/-- What a water round does to each outlet, its channel and the ports. -/
theorem runWaterRound_spec (s : State) :
    let t := s.runWaterRound
    t = { s with pulse := t.pulse, outlets := t.outlets, channels := t.channels, ports := t.ports, water := t.water } ∧
    t.water = { s.water with
      lastDerate := s.derate, lastUsable := s.water.flow * s.derate / 100, sumGrants := t.sumGrants .water
      outcome := roundOutcome (s.water.flow * s.derate / 100)
        (s.waterInput.waterStages (s.water.flow * s.derate / 100)).2
      pointers := advancePointers s.water.pointers, roundCount := s.water.roundCount + 1, firstRound := false } ∧
    (∀ f, t.pulseChannel f = captureFlow (s.pulseChannel f)) ∧
    (∀ n, t.outlet n = closedOutlet .water (s.clearedAmount n).isSome (s.waterGrantOf n)
      (trimmedBy (comparedFlow s n) (s.outlet n))) ∧
    (∀ n, t.channel n = if (s.outlet n).struct.pool = .water
      then { s.channel n with grant := s.waterGrantOf n, trim := (t.outlet n).trim } else s.channel n) ∧
    ∀ q, t.port q = { s.port q with flags := { (s.port q).flags with
      overdraw := lowestPosted s q (s.port q).flags.overdraw fun n => overdraws (comparedFlow s n) (s.outlet n)
      outletShed := lowestPosted s q (s.port q).flags.outletShed fun n =>
        sheds .water (s.clearedAmount n).isSome (s.waterGrantOf n) (s.outlet n)
      outletRestored := lowestPosted s q (s.port q).flags.outletRestored fun n =>
        restores .water (s.clearedAmount n).isSome (s.waterGrantOf n) (s.outlet n) } } := by
  intro t
  obtain ⟨input, pulses, trimmed, overdrawn⟩ := s.waterInput_spec
  obtain ⟨closed, units, ports⟩ := s.waterInput.closeOutlets_spec .water s.waterGrantOf
  have water : s.waterInput.water = s.water := (congrArg State.water input :)
  have shape := s.runWaterRound_eq.trans (waterRoundFrom_eq s.waterInput_derate
    (uw := s.water.flow * s.derate / 100) (by rw [water]) (c := s.waterInput.closeOutlets .water s.waterGrantOf) rfl)
  change t = _ at shape
  clear_value t
  generalize s.waterInput.closeOutlets .water s.waterGrantOf = c at *
  generalize s.waterInput = i at *
  have outlets : t.outlets = c.outlets := (congrArg State.outlets shape :)
  have outlet : ∀ n, t.outlet n = c.outlet n := fun n => congrArg (·[n.val]) outlets
  have amounts : ∀ n, i.clearedAmount n = s.clearedAmount n := fun n => by
    unfold clearedAmount entryOf
    rw [(congrArg State.bursts input :)]
  have struct : ∀ n, (i.outlet n).struct = (s.outlet n).struct := fun n => by rw [trimmed, trimmedBy_struct]
  have status : ∀ n, (i.outlet n).status = (s.outlet n).status := fun n => by rw [trimmed, trimmedBy_eq]
  have after : ∀ n cleared g, statusAfter (i.outlet n) cleared g = statusAfter (s.outlet n) cleared g := fun n cleared g => by
    rw [trimmed, trimmedBy_eq]
    rfl
  have rights : ∀ q n, i.rights q n = s.rights q n := fun q n =>
    rights_congr (by rw [overdrawn]) (congrArg State.inputs input :) (congrArg OutletStructure.pool (struct n))
  refine ⟨?_, ?_, fun f => ?_, fun n => ?_, fun n => ?_, fun q => ?_⟩
  · have frame : t = { c with channels := t.channels, water := t.water } := by
      rw [shape]
      rfl
    have pulse : t.pulse = i.pulse := (congrArg State.pulse frame :).trans (congrArg State.pulse closed :)
    have portsKept : t.ports = c.ports := (congrArg State.ports frame :)
    rw [closed, input] at frame
    rw [pulse, outlets, portsKept]
    exact frame
  · have sums : t.sumGrants .water = c.sumGrants .water := by
      rw [sumGrants, outlets]
      rfl
    have kept : c.handTrims.water = s.water := (congrArg State.water closed :).trans water
    have written := (congrArg State.water shape :)
    rw [written, sums]
    dsimp only
    rw [kept]
    rfl
  · have pulse : t.pulse = i.pulse := (congrArg State.pulse shape :).trans (congrArg State.pulse closed :)
    exact (congrArg (·[f.val]) pulse : t.pulseChannel f = i.pulseChannel f).trans (pulses f)
  · rw [outlet, (units n).1, amounts, trimmed]
  · have handed : t.channel n = if (c.outlet n).struct.pool = .water then { c.channel n with trim := (c.outlet n).trim }
        else c.channel n := (congrArg (State.channel · n) shape :).trans (mapChannels_channel c _ n)
    have same : i.channel n = s.channel n := (congrArg (State.channel · n) input :)
    have pool : (c.outlet n).struct.pool = (s.outlet n).struct.pool := by rw [(units n).1, closedOutlet_struct, struct]
    rw [handed, outlet, (units n).2, closedChannel, pool, struct, same]
    by_cases here : (s.outlet n).struct.pool = .water
    · rw [if_pos here, if_pos here, if_pos here]
    · rw [if_neg here, if_neg here, if_neg here]
  · have same : t.port q = c.port q := (congrArg (State.port · q) shape :)
    have shed : (fun n => sheds .water (i.clearedAmount n).isSome (s.waterGrantOf n) (i.outlet n)) =
        fun n => sheds .water (s.clearedAmount n).isSome (s.waterGrantOf n) (s.outlet n) := funext fun n => by
      rw [sheds, sheds, struct, status, after, amounts]
    have restored : (fun n => restores .water (i.clearedAmount n).isSome (s.waterGrantOf n) (i.outlet n)) =
        fun n => restores .water (s.clearedAmount n).isSome (s.waterGrantOf n) (s.outlet n) := funext fun n => by
      rw [restores, restores, struct, status, after, amounts]
    rw [same, ports, shed, restored, lowestPosted_congr (rights q), lowestPosted_congr (rights q), overdrawn]

end State

end Sys2Proof.Machine
end

section
set_option Elab.async false
/-! PROOFS. The pulse windows and the close of a water round (R43 to R45, R78 to R81, R94, R95). -/

namespace Sys2Proof.Machine

open Sys2Proof.Statements

namespace State

/-! ## What a round records -/

theorem roundOutcome_noCapacity_iff (u : Nat) (overloaded : Bool) : roundOutcome u overloaded = .noCapacity ↔ u = 0 := by
  unfold roundOutcome
  by_cases none : u = 0
  · simp [none]
  · rw [if_neg none]
    cases overloaded <;> simp [none]

theorem advancePointers_val (v : Vector OutletId 4) (k : Tier) : ((advancePointers v)[k]).val = (v[k].val + 1) % 24 := by
  have advanced : (advancePointers v)[k] = v[k] + 1 := tabulate_getElem _ _ _
  rw [advanced, Fin.val_add]
  rfl

theorem waterStages_zero (s : State) : s.waterStages 0 = (s.shares .water, false) := by simp [waterStages]

theorem waterGrantOf_zero {s : State} (none : s.water.flow * s.derate / 100 = 0) (n : OutletId) : s.waterGrantOf n = 0 := by
  rw [waterGrantOf, none, waterStages_zero, waterGrant_eq]
  cases found : (s.waterInput.shares .water).find? fun x => decide (x.outlet = n) with
  | none => rfl
  | some x => exact s.waterInput.shares_grant .water x (List.mem_of_find?_eq_some found)

/-! ## The cases of the trim (R80, R81) -/

theorem stepTrim_over {o : Outlet} {m : Nat} (exceeds : overdrawn o m = true) :
    stepTrim o m = if 2 ≤ o.overStreak
      then ({ o with overStreak := 0, underStreak := 0, trim := max 50 (o.trim - 5) }, true)
      else ({ o with overStreak := o.overStreak + 1, underStreak := 0 }, false) := by
  rw [stepTrim, if_pos (of_decide_eq_true exceeds)]
  exact if_congr (by omega) rfl rfl

theorem stepTrim_within {o : Outlet} {m : Nat} (within : overdrawn o m = false) :
    stepTrim o m = if 9 ≤ o.underStreak
      then ({ o with overStreak := 0, underStreak := 0, trim := min 100 (o.trim + 5) }, false)
      else ({ o with overStreak := 0, underStreak := o.underStreak + 1 }, false) := by
  rw [stepTrim, if_neg (of_decide_eq_false within)]
  exact if_congr (by omega) rfl rfl

theorem stepTrim_posts (o : Outlet) (m : Nat) : (stepTrim o m).2 = (overdrawn o m && decide (2 ≤ o.overStreak)) := by
  cases exceeds : overdrawn o m with
  | true =>
    rw [stepTrim_over exceeds]
    by_cases third : 2 ≤ o.overStreak <;> simp [third]
  | false =>
    rw [stepTrim_within exceeds]
    split <;> rfl

theorem overdraws_eq (flow : Option Nat) (o : Outlet) :
    overdraws flow o = (flow.any (overdrawn o) && decide (2 ≤ o.overStreak)) := by
  cases flow with
  | none => rfl
  | some m => exact stepTrim_posts o m

theorem comparedFlow_ne_water {s : State} {n : OutletId} (other : (s.outlet n).struct.pool ≠ .water) : comparedFlow s n = none := by
  unfold comparedFlow
  split
  · exact absurd ‹_› other
  · rfl

/-! ## The close of an outlet -/

theorem closedOutlet_eq (pool : Pool) (cleared : Bool) (g : Nat) (o : Outlet) :
    closedOutlet pool cleared g o = { o with
      grant := (closedOutlet pool cleared g o).grant, status := (closedOutlet pool cleared g o).status } := by
  unfold closedOutlet
  split <;> rfl

theorem closedOutlet_other {pool : Pool} {o : Outlet} (other : o.struct.pool ≠ pool) (cleared : Bool) (g : Nat) :
    closedOutlet pool cleared g o = o := if_neg other

/-- SHED is entered as the statements say it. -/
theorem sheds_eq {pool : Pool} {cleared : Bool} {g : Nat} {o : Outlet} {k : GrantStatus}
    (status : o.struct.pool = pool → k = statusAfter o cleared g) :
    sheds pool cleared g o = decide (o.struct.pool = pool ∧ o.status ≠ .shed ∧ k = .shed) :=
  decide_eq_decide.mpr (and_congr_right fun here => by rw [status here])

theorem restores_eq {pool : Pool} {cleared : Bool} {g : Nat} {o : Outlet} {k : GrantStatus}
    (status : o.struct.pool = pool → k = statusAfter o cleared g) :
    restores pool cleared g o = decide (o.struct.pool = pool ∧ o.status = .shed ∧ k ≠ .shed) :=
  decide_eq_decide.mpr (and_congr_right fun here => by rw [status here])

/-- The trims and streaks that a water round leaves are those of its trim stage. -/
theorem trimsStepped_of {s t : State}
    (outlets : ∀ n, (t.outlet n).trim = (trimmedBy (comparedFlow s n) (s.outlet n)).trim ∧
      (t.outlet n).overStreak = (trimmedBy (comparedFlow s n) (s.outlet n)).overStreak ∧
      (t.outlet n).underStreak = (trimmedBy (comparedFlow s n) (s.outlet n)).underStreak)
    (ports : ∀ q, (t.port q).flags.overdraw = lowestPosted s q (s.port q).flags.overdraw fun n =>
      overdraws (comparedFlow s n) (s.outlet n)) : TrimsStepped s t := by
  refine ⟨fun n none => ?_, fun n m some exceeds => ?_, fun n m some within => ?_, fun q => ?_⟩
  · obtain ⟨trim, overs, unders⟩ := outlets n
    rw [none] at trim overs unders
    exact ⟨trim, overs, unders⟩
  · obtain ⟨trim, overs, unders⟩ := outlets n
    rw [some, trimmedBy, Option.elim_some, stepTrim_over exceeds] at trim overs unders
    rw [trim, overs, unders]
    by_cases third : 2 ≤ (s.outlet n).overStreak
    · simp only [if_pos third]
      exact ⟨trivial, fun few => absurd third (by omega), fun _ => ⟨trivial, trivial⟩⟩
    · simp only [if_neg third]
      exact ⟨trivial, fun _ => ⟨trivial, trivial⟩, fun enough => absurd enough third⟩
  · obtain ⟨trim, overs, unders⟩ := outlets n
    rw [some, trimmedBy, Option.elim_some, stepTrim_within within] at trim overs unders
    rw [trim, overs, unders]
    by_cases tenth : 9 ≤ (s.outlet n).underStreak
    · simp only [if_pos tenth]
      exact ⟨trivial, fun few => absurd tenth (by omega), fun _ => ⟨trivial, trivial⟩⟩
    · simp only [if_neg tenth]
      exact ⟨trivial, fun _ => ⟨trivial, trivial⟩, fun enough => absurd enough tenth⟩
  · rw [ports, funext fun n => overdraws_eq (comparedFlow s n) (s.outlet n)]

/-! ## The pulses (R94, R95) -/

theorem countPulse_below {c : PulseChannel} (room : c.count < 4095) :
    countPulse c = { c with count := c.count + 1, overflow := c.overflow || decide (c.count + 1 = 4095) } := if_pos room

theorem countPulse_full {c : PulseChannel} (full : 4095 ≤ c.count) : countPulse c = c := if_neg (by omega)

end State

theorem exec_waterRound {s : State} (holder : s.arbiter.holder = some .wpe) :
    exec .waterRound s = .next s.runWaterRound.release := by
  change execWaterRound s = _
  rw [execWaterRound, if_pos holder]

/-- Settles O53 (R94, R95): a pulse is one step of the count, and a first round captures the windows without comparing them. -/
theorem pulsesAreCountedToSaturation : Obligations.PulsesAreCountedToSaturation := by
  refine ⟨fun s f => ⟨s.modPulse f State.countPulse, rfl, ?_⟩, fun s holder first =>
    ⟨s.runWaterRound.release, exec_waterRound holder, ?_⟩⟩
  · rw [State.modPulse_pulseChannel_self]
    refine ⟨fun room => ?_, fun full => ?_, fun room => ?_, fun last => ?_, fun exceeds => ?_, ?_,
      fun k other => State.modPulse_pulseChannel_ne s _ other, rfl⟩
    · rw [State.countPulse_below room]
    · rw [State.countPulse_full full]
    · have short : (s.pulseChannel f).count + 1 ≠ 4095 := by omega
      rw [State.countPulse_below (by omega), decide_eq_false short, Bool.or_false]
    · have reached : (s.pulseChannel f).count + 1 = 4095 := by omega
      rw [State.countPulse_below (by omega), decide_eq_true reached, Bool.or_true]
    · by_cases room : (s.pulseChannel f).count < 4095
      · rw [State.countPulse_below room, exceeds]
        rfl
      · rw [State.countPulse_full (by omega), exceeds]
    · unfold State.countPulse
      split <;> rfl
  · obtain ⟨-, -, pulses, outlets, -⟩ := s.runWaterRound_spec
    generalize s.runWaterRound = t at *
    refine ⟨fun f => ?_, fun n => ?_⟩
    · rw [show t.release.pulseChannel f = State.captureFlow (s.pulseChannel f) from pulses f]
      exact ⟨rfl, rfl⟩
    · rw [show t.release.outlet n = t.outlet n from rfl, outlets, State.closedOutlet_eq, State.comparedFlow_first first]
      rfl

/-- Settles O49 (R43 to R45, R78 to R81, R116): the stages of a water round, read off its close. -/
theorem waterRoundCloses : Obligations.WaterRoundCloses := by
  intro s holder
  obtain ⟨frame, water, pulses, outlets, channels, ports⟩ := s.runWaterRound_spec
  refine ⟨s.runWaterRound.release, exec_waterRound holder, ?_⟩
  have released : s.runWaterRound.release = { s.runWaterRound with arbiter := { s.runWaterRound.arbiter with holder := none } } := rfl
  generalize s.runWaterRound.release = u at *
  generalize s.runWaterRound = t at *
  have unit : ∀ n, u.outlet n = t.outlet n := fun n => (congrArg (State.outlet · n) released :)
  have channel : ∀ n, u.channel n = t.channel n := fun n => (congrArg (State.channel · n) released :)
  have waterKept : u.water = t.water := (congrArg State.water released :)
  have sums : t.sumGrants .water = u.sumGrants .water := by rw [released, State.sumGrants, State.sumGrants]
  have port : ∀ q, u.port q = t.port q := fun q => (congrArg (State.port · q) released :)
  rw [sums, ← waterKept] at water
  have used : u.water.lastUsable = s.water.flow * s.derate / 100 := (congrArg WaterPool.lastUsable water :)
  have derated : u.water.lastDerate = s.derate := (congrArg WaterPool.lastDerate water :)
  have outcome := (congrArg WaterPool.outcome water :)
  have pointers := (congrArg WaterPool.pointers water :)
  have closed : ∀ n, u.outlet n = State.closedOutlet .water (s.clearedAmount n).isSome (s.waterGrantOf n)
      (State.trimmedBy (comparedFlow s n) (s.outlet n)) := fun n => (unit n).trans (outlets n)
  have comparedOther : ∀ n, (s.outlet n).struct.pool ≠ .water → comparedFlow s n = none := fun n => State.comparedFlow_ne_water
  have rest : t = { s with pulse := t.pulse, outlets := t.outlets, channels := t.channels, ports := t.ports, water := t.water } := frame
  have status : ∀ n, (s.outlet n).struct.pool = .water → (u.outlet n).grant = s.waterGrantOf n ∧
      (u.outlet n).status = State.statusAfter (s.outlet n) (s.clearedAmount n).isSome (s.waterGrantOf n) := fun n here => by
    rw [closed, State.closedOutlet, if_pos (by rw [State.trimmedBy_struct, here]), State.trimmedBy_eq]
    exact ⟨rfl, rfl⟩
  refine ⟨by rw [used, derated], fun flow derate => ?_, fun none => ⟨?_, fun n here => ?_⟩, fun some => ?_, ?_, fun k => ?_,
    fun f => ?_, fun first n => ?_, ?_, fun q => ⟨?_, ?_⟩, fun q => ?_, fun n here => ?_, fun n here => ⟨?_, ?_⟩,
    fun n other => ⟨?_, ?_⟩, ?_⟩
  · rw [used]
    rw [derated] at derate
    exact Nat.div_le_of_le_mul ((Nat.mul_le_mul flow derate).trans (by decide))
  · rw [outcome, State.roundOutcome_noCapacity_iff, ← used, none]
  · rw [(status n here).1]
    exact State.waterGrantOf_zero (used ▸ none) n
  · rw [outcome, Ne, State.roundOutcome_noCapacity_iff, ← used]
    exact some
  · rw [used, derated, outcome, pointers]
    exact water
  · rw [pointers, State.advancePointers_val]
  · exact (congrArg (State.pulseChannel · f) released :).trans (pulses f)
  · rw [closed, State.closedOutlet_eq, State.comparedFlow_first first]
    exact ⟨rfl, rfl, rfl⟩
  · refine State.trimsStepped_of (fun n => ?_) fun q => ?_
    · rw [closed, State.closedOutlet_eq]
      exact ⟨rfl, rfl, rfl⟩
    · rw [port, ports]
  · rw [port, ports]
    exact congrArg (lowestPosted s q _) (funext fun n => (State.sheds_eq fun here => (status n here).2))
  · rw [port, ports]
    exact congrArg (lowestPosted s q _) (funext fun n => (State.restores_eq fun here => (status n here).2))
  · rw [port, ports]
  · rw [(status n here).1, (status n here).2]
    rfl
  · rw [channel, channels, if_pos here, (status n here).1, unit]
  · rw [closed, State.closedOutlet_eq, State.trimmedBy_eq]
  · rw [closed, comparedOther n other, State.closedOutlet_other (by exact other)]
    rfl
  · rw [channel, channels, if_neg other]
  · rw [released]
    rw [rest]
    exact ⟨rfl, rfl, rfl, rfl, rfl, rfl, rfl, rfl, rfl, ⟨rfl, rfl, rfl⟩, rfl⟩

end Sys2Proof.Machine
end

section
set_option Elab.async false
/-! PROOFS. A steam round's work on the burst list, its recharge stage and its close (R37 to R42, R47, R57, R58, R74, R75). -/

namespace Sys2Proof.Machine

open Sys2Proof.Statements

namespace State

/-! ## What the work on the burst list leaves alone (R39, R40, R112) -/

theorem unlisted_eq (entry : Option BurstEntry) (o : Outlet) : unlisted entry o = { o with
    grant := (unlisted entry o).grant, burstRef := (unlisted entry o).burstRef } := by
  cases entry <;> rfl

theorem unlistedChannel_eq (entry : Option BurstEntry) (o : Outlet) (c : Channel) :
    unlistedChannel entry o c = { c with grant := (unlistedChannel entry o c).grant } := by
  cases entry with
  | none => rfl
  | some e =>
    unfold unlistedChannel loweredChannel
    dsimp only
    split
    · split <;> rfl
    · rfl

/-- A state after entries were cleared or revoked: the grants and burst references of outlets with an entry, the list and the flags of both events may have changed. -/
structure BurstWork (s t : State) : Prop where
  frame : t = { s with outlets := t.outlets, channels := t.channels, bursts := t.bursts, ports := t.ports }
  outlet : ∀ n, t.outlet n = { s.outlet n with grant := (t.outlet n).grant, burstRef := (t.outlet n).burstRef }
  channel : ∀ n, t.channel n = { s.channel n with grant := (t.channel n).grant }
  unlisted : ∀ n, s.entryOf n = none → t.outlet n = s.outlet n ∧ t.channel n = s.channel n ∧ t.entryOf n = none
  port : ∀ q, t.port q = { s.port q with flags := { (s.port q).flags with
    burstCleared := (t.port q).flags.burstCleared, burstRevoked := (t.port q).flags.burstRevoked } }

theorem BurstWork.refl (s : State) : BurstWork s s :=
  ⟨rfl, fun _ => rfl, fun _ => rfl, fun _ none => ⟨rfl, rfl, none⟩, fun _ => rfl⟩

theorem BurstWork.trans {s t u : State} (h : BurstWork s t) (k : BurstWork t u) : BurstWork s u where
  frame := by
    have frame := k.frame
    rw [h.frame] at frame
    exact frame
  outlet n := by
    have outlet := k.outlet n
    rw [h.outlet n] at outlet
    exact outlet
  channel n := by
    have channel := k.channel n
    rw [h.channel n] at channel
    exact channel
  unlisted n none := by
    obtain ⟨o, c, e⟩ := h.unlisted n none
    obtain ⟨o', c', e'⟩ := k.unlisted n e
    exact ⟨o'.trans o, c'.trans c, e'⟩
  port q := by
    have port := k.port q
    rw [h.port q] at port
    exact port

theorem removeEntry_burstWork (s : State) (n : OutletId) (c : BurstCause) : BurstWork s (s.removeEntry n (revoked c)) where
  frame := s.removeEntry_frame n _
  outlet m := by
    by_cases own : m = n
    · rw [own, (s.removeEntry_unlisted n (revoked c)).1]
      exact unlisted_eq _ _
    · rw [(s.removeEntry_others n m _ own).1]
  channel m := by
    by_cases own : m = n
    · rw [own, (s.removeEntry_unlisted n (revoked c)).2]
      exact unlistedChannel_eq _ _ _
    · rw [(s.removeEntry_others n m _ own).2]
  unlisted m none := by
    by_cases own : m = n
    · rw [removeEntry_none s n _ (own ▸ none)]
      exact ⟨rfl, rfl, none⟩
    · obtain ⟨k, -, entry⟩ := s.removeEntry_entryOf_ne (revoked c) own
      exact ⟨(s.removeEntry_others n m _ own).1, (s.removeEntry_others n m _ own).2, by rw [entry, none, Option.map_none]⟩
  port q := by
    rw [removeEntry_revoked_port]

theorem lockoutRevocation_burstWork (s : State) : BurstWork s s.lockoutRevocation := by
  unfold lockoutRevocation
  split
  · exact revokeWhere_induct (BurstWork s) s _ _ (.refl s) fun n t work => work.trans (t.removeEntry_burstWork n .lockout)
  · exact .refl s

theorem revokeUntilFits_burstWork (r : Nat) : ∀ (fuel : Nat) (s : State), BurstWork s (revokeUntilFits fuel r s)
  | 0, s => .refl s
  | fuel + 1, s => by
    unfold revokeUntilFits
    split
    · exact .refl s
    · split
      · exact .refl s
      · exact (s.removeEntry_burstWork _ .capacity).trans (revokeUntilFits_burstWork r fuel _)

theorem clearEntry_frame (s : State) (e : BurstEntry) :
    s.clearEntry e = { s with bursts := (s.clearEntry e).bursts, ports := (s.clearEntry e).ports } := rfl

theorem clearEntry_port (s : State) (e : BurstEntry) (q : Port) :
    (s.clearEntry e).port q = if q = e.requester then withEvent (s.port q) (.burstCleared e.outlet) else s.port q := by
  rw [clearEntry, postTo, modPort_port]
  by_cases own : q = e.requester
  · rw [if_pos own, if_pos own, own]
    rfl
  · rw [if_neg own, if_neg own]
    rfl

theorem clearEntry_burstWork (s : State) (e : BurstEntry) : BurstWork s (s.clearEntry e) where
  frame := rfl
  outlet _ := rfl
  channel _ := rfl
  unlisted n none := by
    refine ⟨rfl, rfl, List.find?_eq_none.mpr fun x member => ?_⟩
    obtain ⟨y, listed, same⟩ := List.mem_map.mp member
    have other := List.find?_eq_none.mp none y listed
    rw [← same]
    by_cases own : y.outlet = e.outlet
    · rw [if_pos own]
      exact other
    · rw [if_neg own]
      exact other
  port q := by
    rw [clearEntry_port]
    split <;> rfl

theorem admitHeads_burstWork : ∀ (fuel : Nat) (s : State) (xs : List Share) (r : Nat), BurstWork s (admitHeads fuel s xs r).1
  | 0, s, _, _ => .refl s
  | fuel + 1, s, xs, r => by
    unfold admitHeads
    split
    · exact .refl s
    · dsimp only
      split
      · exact (s.clearEntry_burstWork _).trans (admitHeads_burstWork fuel _ _ _)
      · exact .refl s

theorem steamStages_burstWork (s : State) (u : Nat) : BurstWork s (s.steamStages u).1 :=
  s.lockoutRevocation_burstWork.trans ((revokeUntilFits_burstWork _ _ _).trans (admitHeads_burstWork _ _ _ _))

/-! ## The recharge stage (R38, R73 to R75) -/

theorem boundStore_eq_some (st : OutletStructure) (i : StoreId) : boundStore st = some i ↔ st.role = .recharge i := by
  unfold boundStore
  cases st.role <;> simp

theorem rechargeOutlet_eq (s : State) (o : Outlet) : s.rechargeOutlet o = { o with
    demand := (s.rechargeOutlet o).demand, owner := (s.rechargeOutlet o).owner } := by
  unfold rechargeOutlet
  split <;> rfl

theorem rechargeOutlet_bound (s : State) {o : Outlet} {i : StoreId} (pool : o.struct.pool = .steam)
    (role : o.struct.role = .recharge i) :
    s.rechargeOutlet o = { o with demand := (s.rechargeOf i o.limits.ceiling).1, owner := .engine } := by
  rw [rechargeOutlet, pool, (boundStore_eq_some _ _).mpr role]

theorem rechargeOutlet_other (s : State) {o : Outlet} (other : o.struct.pool ≠ .steam ∨ o.struct.role = .plain) :
    s.rechargeOutlet o = o := by
  unfold rechargeOutlet
  split
  next i pool bound =>
    rw [boundStore_eq_some] at bound
    rcases other with other | plain
    · exact absurd pool other
    · exact nomatch bound.symm.trans plain
  · rfl

/-- The demand that a reading asks for (R74). -/
theorem rechargeOf_reading {s : State} {i : StoreId} {x : Int} (reading : (s.storeRec i).reading.value? = some x) (ceiling : Nat) :
    (s.rechargeOf i ceiling).2 = .reading ∧ ((s.rechargeOf i ceiling).1 : Int) = min (ceiling : Int)
      (((s.storeRec i).settings.gain : Int) * max 0 ((s.storeRec i).settings.setpoint - x) / 10) := by
  simp only [rechargeOf, reading, rechargeDemand]
  refine ⟨trivial, ?_⟩
  push_cast
  rw [Int.toNat_of_nonneg (le_max_left _ _)]

/-- The demand without a reading (R75). -/
theorem rechargeOf_fallback {s : State} {i : StoreId} (reading : (s.storeRec i).reading.value? = none) (ceiling : Nat) :
    s.rechargeOf i ceiling = (min (s.storeRec i).settings.fallback ceiling, .fallback) := by
  simp only [rechargeOf, reading]

theorem rechargeOf_origin (s : State) (i : StoreId) (ceiling : Nat) :
    (s.rechargeOf i ceiling).2 = if (s.storeRec i).reading.value? = none then .fallback else .reading := by
  cases reading : (s.storeRec i).reading.value? with
  | none => rw [rechargeOf_fallback reading, if_pos rfl]
  | some x => rw [(rechargeOf_reading reading ceiling).1, if_neg (by simp)]

/-- The outlet bound to a store is the lowest one. -/
theorem rechargeOutletOf_eq_some {s : State} {i : StoreId} {n : OutletId}
    (bound : (s.outlet n).struct.pool = .steam ∧ (s.outlet n).struct.role = .recharge i)
    (lowest : ∀ k, k < n → ¬ ((s.outlet k).struct.pool = .steam ∧ (s.outlet k).struct.role = .recharge i)) :
    s.rechargeOutletOf i = some n := by
  obtain ⟨before, after, order⟩ := List.append_of_mem (List.mem_finRange n)
  refine List.find?_eq_some_iff_append.mpr ⟨?_, before, after, order, fun k earlier => ?_⟩
  · simp [bound.1, (boundStore_eq_some _ _).mpr bound.2]
  · have sorted := List.pairwise_lt_finRange 24
    rw [order, List.pairwise_append] at sorted
    have no := not_and_or.mp (lowest k (sorted.2.2 k earlier n List.mem_cons_self))
    simpa [boundStore_eq_some] using no

theorem rechargeOutletOf_eq_none {s : State} {i : StoreId}
    (free : ∀ n, ¬ ((s.outlet n).struct.pool = .steam ∧ (s.outlet n).struct.role = .recharge i)) : s.rechargeOutletOf i = none :=
  List.find?_eq_none.mpr fun n _ => by simpa [boundStore_eq_some] using free n

/-- The recharge stage writes the outlets and what the stores note of it. -/
theorem rechargeStage_spec (s : State) :
    let t := s.rechargeStage
    t = { s with outlets := t.outlets, stores := t.stores } ∧ (∀ n, t.outlet n = s.rechargeOutlet (s.outlet n)) ∧
    ∀ i, t.storeRec i = { s.storeRec i with
      lastRecharge := (s.rechargeOutletOf i).map fun n =>
        { outlet := n, demand := (s.rechargeOf i (s.outlet n).limits.ceiling).1
          origin := (s.rechargeOf i (s.outlet n).limits.ceiling).2 } } :=
  ⟨rfl, fun n => mapOutlets_outlet s _ n, fun i => mapStores_storeRec _ _ i⟩

/-! ## The whole round (R37 to R42) -/

/-- The usable capacity of a steam round. -/
def steamUsable (s : State) : Nat := usableCapacity s.rawCapacity s.steam.margin

/-- The part at the close of a steam round. -/
def steamInput (s : State) : State := (s.rechargeStage.steamStages s.steamUsable).1

/-- What a steam round grants an outlet. -/
def steamGrantOf (s : State) (n : OutletId) : Nat :=
  s.steamInput.steamGrant (s.rechargeStage.steamStages s.steamUsable).2.1 n

theorem runSteamRound_eq {s c : State} (closed : s.steamInput.closeOutlets .steam s.steamGrantOf = c) :
    s.runSteamRound = { c with steam := { c.steam with
      lastC := s.rawCapacity, lastU := s.steamUsable, sumGrants := c.sumGrants .steam
      outcome := roundOutcome s.steamUsable (s.rechargeStage.steamStages s.steamUsable).2.2
      pointers := advancePointers c.steam.pointers, roundCount := c.steam.roundCount + 1 } } := by
  have grants : s.steamGrantOf = s.steamInput.steamGrant (s.rechargeStage.steamStages s.steamUsable).2.1 := rfl
  subst closed
  rw [grants]
  simp only [runSteamRound, steamUsable, steamInput]

/-- What the close of a steam round finds. -/
theorem steamInput_spec (s : State) :
    let t := s.steamInput
    t = { s with outlets := t.outlets, channels := t.channels, bursts := t.bursts, ports := t.ports, stores := t.stores } ∧
    (∀ n, t.outlet n = { s.rechargeOutlet (s.outlet n) with grant := (t.outlet n).grant, burstRef := (t.outlet n).burstRef } ∧
      t.channel n = { s.channel n with grant := (t.channel n).grant }) ∧
    (∀ n, s.entryOf n = none → t.outlet n = s.rechargeOutlet (s.outlet n) ∧ t.channel n = s.channel n) ∧
    (∀ q, t.port q = { s.port q with flags := { (s.port q).flags with
      burstCleared := (t.port q).flags.burstCleared, burstRevoked := (t.port q).flags.burstRevoked } }) ∧
    ∀ i, t.storeRec i = { s.storeRec i with
      lastRecharge := (s.rechargeOutletOf i).map fun n =>
        { outlet := n, demand := (s.rechargeOf i (s.outlet n).limits.ceiling).1
          origin := (s.rechargeOf i (s.outlet n).limits.ceiling).2 } } := by
  intro t
  obtain ⟨recharged, outlets, stores⟩ := s.rechargeStage_spec
  have work : BurstWork s.rechargeStage t := s.rechargeStage.steamStages_burstWork s.steamUsable
  clear_value t
  generalize s.rechargeStage = r at *
  have frame := work.frame
  have storesKept : t.stores = r.stores := (congrArg State.stores frame :)
  have channel : ∀ n, r.channel n = s.channel n := fun n => by rw [recharged]; rfl
  have port : ∀ q, r.port q = s.port q := fun q => by rw [recharged]; rfl
  have entry : ∀ n, r.entryOf n = s.entryOf n := fun n => by rw [recharged]; rfl
  refine ⟨?_, fun n => ⟨?_, ?_⟩, fun n none => ⟨?_, ?_⟩, fun q => ?_, fun i => ?_⟩
  · rw [recharged] at frame
    rw [storesKept]
    exact frame
  · rw [← outlets]
    exact work.outlet n
  · rw [← channel]
    exact work.channel n
  · rw [← outlets]
    exact (work.unlisted n ((entry n).trans none)).1
  · rw [← channel]
    exact (work.unlisted n ((entry n).trans none)).2.1
  · rw [← port]
    exact work.port q
  · rw [← stores]
    exact congrArg (·[i.val]) storesKept

end State

end Sys2Proof.Machine
end

section
set_option Elab.async false
/-! PROOFS. The close of a steam round (R37 to R42, R47). -/

namespace Sys2Proof.Machine

open Sys2Proof.Statements

namespace State

theorem getLsbD_zero_succ {w : Nat} (x : BitVec (w + 1)) : (x + 1).getLsbD 0 = !x.getLsbD 0 := by
  rw [BitVec.getLsbD_add (Nat.succ_pos w)]
  simp

theorem contribution_eq (s : State) (b : BoilerId) :
    s.contribution b = if (s.boiler b).armed = true ∧ s.tripAsserted b = false then (s.boiler b).postedKw else 0 := by
  unfold contribution
  exact if_congr (by simp) rfl rfl

theorem rawCapacity_eq (s : State) :
    let posted := fun b => if (s.boiler b).armed = true ∧ s.tripAsserted b = false then (s.boiler b).postedKw else 0
    s.rawCapacity =
      if s.steam.lowpr then (posted 0 + posted 1) * s.steam.lowFraction / 100 else posted 0 + posted 1 := by
  simp only [rawCapacity, contribution_eq]

/-- What a steam round does to each outlet, its channel, the stores and the ports. -/
theorem runSteamRound_spec (s : State) :
    let t := s.runSteamRound
    t = { s with outlets := t.outlets, channels := t.channels, bursts := t.bursts, ports := t.ports, stores := t.stores
                 steam := t.steam } ∧
    t.steam = { s.steam with
      lastC := s.rawCapacity, lastU := s.steamUsable, sumGrants := t.sumGrants .steam
      outcome := roundOutcome s.steamUsable (s.rechargeStage.steamStages s.steamUsable).2.2
      pointers := advancePointers s.steam.pointers, roundCount := s.steam.roundCount + 1 } ∧
    t.bursts = s.steamInput.bursts ∧
    (∀ n, t.outlet n = closedOutlet .steam (t.clearedAmount n).isSome (s.steamGrantOf n) (s.steamInput.outlet n) ∧
      t.channel n = closedChannel .steam (s.steamGrantOf n) (s.steamInput.outlet n) (s.steamInput.channel n)) ∧
    (∀ i, t.storeRec i = s.steamInput.storeRec i) ∧
    ∀ q, t.port q = { s.steamInput.port q with flags := { (s.steamInput.port q).flags with
      outletShed := lowestPosted s q (s.port q).flags.outletShed fun n =>
        sheds .steam (t.clearedAmount n).isSome (s.steamGrantOf n) (s.steamInput.outlet n)
      outletRestored := lowestPosted s q (s.port q).flags.outletRestored fun n =>
        restores .steam (t.clearedAmount n).isSome (s.steamGrantOf n) (s.steamInput.outlet n) } } := by
  intro t
  obtain ⟨input, outlets, -, inputPorts, -⟩ := s.steamInput_spec
  obtain ⟨closed, units, ports⟩ := s.steamInput.closeOutlets_spec .steam s.steamGrantOf
  have shape := s.runSteamRound_eq rfl
  change t = _ at shape
  clear_value t
  generalize s.steamInput.closeOutlets .steam s.steamGrantOf = c at *
  generalize s.steamInput = i at *
  have steam : c.steam = s.steam := (congrArg State.steam closed :).trans (congrArg State.steam input :)
  have bursts : t.bursts = i.bursts := (congrArg State.bursts shape :).trans (congrArg State.bursts closed :)
  have amounts : ∀ n, t.clearedAmount n = i.clearedAmount n := fun n => by
    unfold clearedAmount entryOf
    rw [bursts]
  have rights : ∀ q n, i.rights q n = s.rights q n := fun q n =>
    rights_congr (by rw [inputPorts]) (congrArg State.inputs input :) (by rw [(outlets n).1, rechargeOutlet_eq])
  refine ⟨?_, ?_, bursts, fun n => ?_, fun k => ?_, fun q => ?_⟩
  · have frame : t = { c with steam := t.steam } := by rw [shape]
    have outletsKept : t.outlets = c.outlets := (congrArg State.outlets frame :)
    have channelsKept : t.channels = c.channels := (congrArg State.channels frame :)
    have portsKept : t.ports = c.ports := (congrArg State.ports frame :)
    have storesKept : t.stores = i.stores := (congrArg State.stores frame :).trans (congrArg State.stores closed :)
    rw [closed, input] at frame
    rw [bursts, outletsKept, channelsKept, portsKept, storesKept]
    exact frame
  · have sums : t.sumGrants .steam = c.sumGrants .steam := by
      rw [shape]
      rfl
    rw [sums, ← steam]
    exact (congrArg State.steam shape :)
  · rw [amounts]
    exact ⟨(congrArg (State.outlet · n) shape :).trans (units n).1, (congrArg (State.channel · n) shape :).trans (units n).2⟩
  · exact (congrArg (State.storeRec · k) shape :).trans (congrArg (State.storeRec · k) closed :)
  · have same : t.port q = c.port q := (congrArg (State.port · q) shape :)
    simp only [amounts]
    rw [same, ports, lowestPosted_congr (rights q), lowestPosted_congr (rights q), inputPorts]

end State

theorem exec_steamRound {s : State} (holder : s.arbiter.holder = some .spe) :
    exec .steamRound s = .next s.runSteamRound.release := by
  change execSteamRound s = _
  rw [execSteamRound, if_pos holder]

/-- Settles O46 (R37 to R42, R47, R57, R58, R74, R75): the stages of a steam round, read off its close. -/
theorem steamRoundCloses : Obligations.SteamRoundCloses := by
  intro s holder posted c
  obtain ⟨input, inputs, others, inputPorts, stores⟩ := s.steamInput_spec
  obtain ⟨frame, steam, bursts, units, storeKept, ports⟩ := s.runSteamRound_spec
  have capacity : s.rawCapacity = c := s.rawCapacity_eq
  clear_value c
  have usable : s.steamUsable = c - c * s.steam.margin / 100 := by rw [← capacity]; rfl
  refine ⟨s.runSteamRound.release, exec_steamRound holder, ?_⟩
  have released : s.runSteamRound.release = { s.runSteamRound with arbiter := { s.runSteamRound.arbiter with holder := none } } := rfl
  generalize s.runSteamRound.release = u at *
  generalize s.runSteamRound = t at *
  generalize s.steamInput = i at *
  have outlet : ∀ n, u.outlet n = t.outlet n := fun n => (congrArg (State.outlet · n) released :)
  have channel : ∀ n, u.channel n = t.channel n := fun n => (congrArg (State.channel · n) released :)
  have port : ∀ q, u.port q = t.port q := fun q => (congrArg (State.port · q) released :)
  have store : ∀ k, u.storeRec k = t.storeRec k := fun k => (congrArg (State.storeRec · k) released :)
  have amount : ∀ n, u.clearedAmount n = t.clearedAmount n := fun n => by rw [released]; rfl
  have sums : u.sumGrants .steam = t.sumGrants .steam := by rw [released]; rfl
  have steamKept : u.steam = t.steam := (congrArg State.steam released :)
  rw [← sums, ← steamKept] at steam
  have lastU : u.steam.lastU = s.steamUsable := (congrArg SteamPool.lastU steam :)
  have outcome := (congrArg SteamPool.outcome steam :)
  have pointers := (congrArg SteamPool.pointers steam :)
  have rounds : u.steam.roundCount = s.steam.roundCount + 1 := (congrArg SteamPool.roundCount steam :)
  have boundDemand : ∀ n k, (s.outlet n).struct.pool = .steam → (s.outlet n).struct.role = .recharge k →
      (u.outlet n).owner = .engine ∧ (u.outlet n).demand = (s.rechargeOf k (s.outlet n).limits.ceiling).1 := fun n k pool role => by
    rw [outlet, (units n).1, State.closedOutlet_eq, (inputs n).1, s.rechargeOutlet_bound pool role]
    exact ⟨rfl, rfl⟩
  have pools : ∀ n, (i.outlet n).struct = (s.outlet n).struct := fun n => by
    rw [(inputs n).1, State.rechargeOutlet_eq]
  have status : ∀ n, (i.outlet n).status = (s.outlet n).status := fun n => by
    rw [(inputs n).1, State.rechargeOutlet_eq]
  have after : ∀ n, (s.outlet n).struct.pool = .steam → (u.outlet n).grant = s.steamGrantOf n ∧
      (u.outlet n).status = State.statusAfter (i.outlet n) (t.clearedAmount n).isSome (s.steamGrantOf n) := fun n pool => by
    rw [outlet, (units n).1, State.closedOutlet, if_pos (by rw [pools, pool])]
    exact ⟨rfl, rfl⟩
  have inputOf : ∀ n, (i.outlet n).condition = (s.outlet n).condition ∧ (i.outlet n).limits = (s.outlet n).limits ∧
      (u.outlet n).demand = (i.outlet n).demand := fun n => by
    rw [outlet, (units n).1, State.closedOutlet_eq]
    dsimp only
    rw [(inputs n).1, State.rechargeOutlet_eq]
    exact ⟨rfl, rfl, rfl⟩
  refine ⟨?_, ?_, ?_, ?_, fun k => ?_, ?_, ?_, fun n k pool role => ⟨(boundDemand n k pool role).1, fun x reading => ?_, fun reading => ?_⟩,
    fun n other => ?_, fun n pool => ⟨?_, ?_⟩, fun n other none => ⟨?_, ?_⟩, fun n => ?_, fun q => ⟨?_, ?_⟩, fun q => ?_,
    fun k => ⟨?_, fun n bound lowest => ?_, fun free => ?_⟩, ?_⟩
  · rw [steam, capacity]
  · rw [steam, usable]
  · rw [lastU, outcome, pointers, ← capacity]
    exact steam
  · rw [outcome, lastU, State.roundOutcome_noCapacity_iff]
  · rw [pointers, State.advancePointers_val]
  · rw [State.parity, State.parity, rounds]
    exact State.getLsbD_zero_succ _
  · rw [released]
    exact congrArg (fun a : Arbiter => { a with holder := none }) (congrArg State.arbiter frame :)
  · rw [(boundDemand n k pool role).2, (State.rechargeOf_reading reading _).2]
  · rw [(boundDemand n k pool role).2, State.rechargeOf_fallback reading]
  · rw [outlet, (units n).1, State.closedOutlet_eq, (inputs n).1, s.rechargeOutlet_other other]
    exact ⟨rfl, rfl⟩
  · rw [(after n pool).1, channel, (units n).2, State.closedChannel, if_pos (by rw [pools, pool])]
  · rw [(after n pool).2, (after n pool).1, amount, (inputOf n).2.2, State.statusAfter, (inputOf n).1, (inputOf n).2.1]
  · rw [outlet, (units n).1, State.closedOutlet_other (by rw [pools]; exact other), (others n none).1,
      s.rechargeOutlet_other (.inl other)]
  · rw [channel, (units n).2, State.closedChannel, if_neg (by rw [pools]; exact other), (others n none).2]
  · rw [outlet, (units n).1, State.closedOutlet_eq, (inputs n).1, State.rechargeOutlet_eq]
    exact ⟨rfl, rfl, rfl, rfl⟩
  · rw [port, ports]
    refine congrArg (lowestPosted s q _) (funext fun n => ?_)
    rw [State.sheds_eq fun here => (after n ((pools n) ▸ here)).2, pools, status]
  · rw [port, ports]
    refine congrArg (lowestPosted s q _) (funext fun n => ?_)
    rw [State.restores_eq fun here => (after n ((pools n) ▸ here)).2, pools, status]
  · rw [port, ports, inputPorts]
  · rw [store, storeKept, stores]
  · rw [store, storeKept, stores, State.rechargeOutletOf_eq_some bound lowest, Option.map_some,
      (boundDemand n k bound.1 bound.2).2, State.rechargeOf_origin]
  · rw [store, storeKept, stores, State.rechargeOutletOf_eq_none free]
    rfl
  · rw [released]
    rw [frame]
    exact ⟨rfl, rfl, rfl, rfl, rfl, rfl, rfl, ⟨rfl, rfl, rfl⟩, rfl⟩

end Sys2Proof.Machine
end

section
set_option Elab.async false
/-! PROOFS. The eligible outlets of a round and the floor stage (R31 to R33). -/

namespace Sys2Proof.Machine

open Sys2Proof.Statements

namespace State

/-! ## The eligible outlets (R31) -/

/-- An outlet takes part in a round of a pool. -/
def Eligible (s : State) (pool : Pool) (n : OutletId) : Prop :=
  (s.outlet n).struct.pool = pool ∧ (s.outlet n).condition = .active ∧ (pool = .steam → s.clearedAmount n = none)

/-- The share that an outlet enters a round with. -/
def startShare (s : State) (n : OutletId) : Share :=
  { outlet := n, demand := (s.outlet n).demand, floor := (s.outlet n).limits.floor, weight := (s.outlet n).limits.weight
    tier := (s.outlet n).limits.tiers[s.profile], grant := 0 }

theorem mem_shares (s : State) (pool : Pool) (x : Share) :
    x ∈ s.shares pool ↔ s.Eligible pool x.outlet ∧ x = s.startShare x.outlet := by
  rw [shares, List.mem_filterMap]
  constructor
  · rintro ⟨n, -, taken⟩
    obtain ⟨eligible, start⟩ := Option.ite_none_right_eq_some.mp taken
    obtain rfl := Option.some.inj start
    exact ⟨eligible, rfl⟩
  · rintro ⟨eligible, start⟩
    exact ⟨x.outlet, List.mem_finRange _, (if_pos eligible).trans (congrArg some start.symm)⟩

theorem shares_ascending (s : State) (pool : Pool) : (s.shares pool).Pairwise (fun x y => x.outlet < y.outlet) := by
  refine List.pairwise_filterMap.mpr ((List.pairwise_lt_finRange 24).imp fun {n m} earlier x fromN y fromM => ?_)
  obtain ⟨-, first⟩ := Option.ite_none_right_eq_some.mp fromN
  obtain ⟨-, second⟩ := Option.ite_none_right_eq_some.mp fromM
  obtain rfl := Option.some.inj first
  obtain rfl := Option.some.inj second
  exact earlier

end State

/-! ## The floor stage (R32, R33) -/

/-- What the tiers of a list that come before a tier are owed. -/
def owedBefore (xs : List Share) (k : Tier) : List Tier → Nat
  | [] => 0
  | t :: ts => if t = k then 0 else owedIn t xs + owedBefore xs k ts

/-- What the tiers of a list are owed. -/
def owedOf (xs : List Share) (ts : List Tier) : Nat := (ts.map fun t => owedIn t xs).sum

/-- A share after the floor stage: paid where its tier is covered, its part where its tier is the overloaded one. -/
def flooredBy (ts : List Tier) (r : Nat) (xs : List Share) (x : Share) : Share :=
  if x.tier ∈ ts then
    if owedBefore xs x.tier ts + owedIn x.tier xs ≤ r then { x with grant := x.owed }
    else if owedBefore xs x.tier ts ≤ r then
      { x with grant := x.owed * (r - owedBefore xs x.tier ts) / owedIn x.tier xs }
    else x
  else x

/-- A share whose tier's turn comes pays what it is owed. -/
def paidIn (t : Tier) (x : Share) : Share := if x.tier = t then { x with grant := x.owed } else x

theorem paidIn_kept (t : Tier) (x : Share) : (paidIn t x).tier = x.tier ∧ (paidIn t x).owed = x.owed := by
  unfold paidIn
  split <;> exact ⟨rfl, rfl⟩

theorem owedIn_paidIn (k t : Tier) (xs : List Share) : owedIn k (xs.map (paidIn t)) = owedIn k xs := by
  unfold owedIn
  rw [List.filter_map, List.map_map]
  have tiers : (fun x : Share => decide (x.tier = k)) ∘ paidIn t = fun x => decide (x.tier = k) :=
    funext fun x => by rw [Function.comp_apply, (paidIn_kept t x).1]
  have owes : Share.owed ∘ paidIn t = Share.owed := funext fun x => (paidIn_kept t x).2
  rw [tiers, owes]

theorem owedBefore_paidIn (k t : Tier) (xs : List Share) : ∀ ts, owedBefore (xs.map (paidIn t)) k ts = owedBefore xs k ts
  | [] => rfl
  | u :: ts => by rw [owedBefore, owedBefore, owedIn_paidIn, owedBefore_paidIn k t xs ts]

/-- The turn of a tier that is covered, for a share of that tier and for one of a later tier. -/
theorem flooredBy_covered {t : Tier} {ts : List Tier} {r : Nat} {xs : List Share} (away : t ∉ ts)
    (fits : owedIn t xs ≤ r) (x : Share) :
    flooredBy ts (r - owedIn t xs) (xs.map (paidIn t)) (paidIn t x) = flooredBy (t :: ts) r xs x := by
  obtain ⟨tier, owed⟩ := paidIn_kept t x
  unfold flooredBy
  rw [tier, owed, owedBefore_paidIn, owedIn_paidIn, owedBefore]
  by_cases own : x.tier = t
  · subst own
    rw [if_neg away, if_pos List.mem_cons_self, if_pos rfl, if_pos (by omega), paidIn, if_pos rfl]
  · have later : x.tier ∈ t :: ts ↔ x.tier ∈ ts := by rw [List.mem_cons, or_iff_right own]
    rw [if_neg (Ne.symm own), paidIn, if_neg own]
    refine (if_congr later.symm ?_ rfl)
    have full : owedBefore xs x.tier ts + owedIn x.tier xs ≤ r - owedIn t xs ↔
        owedIn t xs + owedBefore xs x.tier ts + owedIn x.tier xs ≤ r := by omega
    have part : owedBefore xs x.tier ts ≤ r - owedIn t xs ↔ owedIn t xs + owedBefore xs x.tier ts ≤ r := by omega
    rw [Nat.sub_sub]
    exact if_congr full rfl (if_congr part rfl rfl)

/-- The turn of a tier that is overloaded. -/
theorem flooredBy_overloaded {t : Tier} {ts : List Tier} {r : Nat} {xs : List Share} (exceeds : r < owedIn t xs) (x : Share) :
    (if x.tier = t then { x with grant := x.owed * r / owedIn t xs } else x) = flooredBy (t :: ts) r xs x := by
  unfold flooredBy
  rw [owedBefore]
  by_cases own : x.tier = t
  · subst own
    rw [if_pos rfl, if_pos List.mem_cons_self, if_pos rfl, if_neg (by omega), if_pos (Nat.zero_le r), Nat.sub_zero]
  · have full : ¬ owedIn t xs + owedBefore xs x.tier ts + owedIn x.tier xs ≤ r := by omega
    have part : ¬ owedIn t xs + owedBefore xs x.tier ts ≤ r := by omega
    rw [if_neg own, if_neg (Ne.symm own), if_neg full, if_neg part, ite_self]

theorem floorStage_eq : ∀ (ts : List Tier) (r : Nat) (xs : List Share), ts.Nodup →
    floorStage ts r xs = (xs.map (flooredBy ts r xs), r - owedOf xs ts, decide (r < owedOf xs ts))
  | [], r, xs, _ => by
    have same : (fun x : Share => flooredBy [] r xs x) = id := funext fun x => if_neg List.not_mem_nil
    rw [show xs.map (flooredBy [] r xs) = xs.map id from congrArg xs.map same, List.map_id]
    simp [floorStage, owedOf]
  | t :: ts, r, xs, once => by
    obtain ⟨away, rest⟩ := List.nodup_cons.mp once
    have total : owedOf xs (t :: ts) = owedIn t xs + owedOf xs ts := by simp [owedOf]
    rw [floorStage, total]
    by_cases fits : owedIn t xs ≤ r
    · have left : owedOf (xs.map (paidIn t)) ts = owedOf xs ts := by
        rw [owedOf, owedOf, funext fun k => owedIn_paidIn k t xs]
      have shares : (xs.map (paidIn t)).map (flooredBy ts (r - owedIn t xs) (xs.map (paidIn t))) =
          xs.map (flooredBy (t :: ts) r xs) := by
        rw [List.map_map]
        exact List.map_congr_left fun x _ => flooredBy_covered away fits x
      refine (if_pos fits).trans ((floorStage_eq ts (r - owedIn t xs) (xs.map (paidIn t)) rest).trans ?_)
      rw [shares, left, Nat.sub_sub]
      exact congrArg (fun b => (_, _, b)) (decide_eq_decide.mpr (by omega))
    · have short : r < owedIn t xs + owedOf xs ts := by omega
      refine (if_neg fits).trans ?_
      rw [decide_eq_true short, Nat.sub_eq_zero_of_le short.le]
      exact congrArg (fun l => (l, _, _)) (List.map_congr_left fun x _ => flooredBy_overloaded (by omega) x)

/-! ## What the tiers before a tier are owed -/

/-- What the shares of some tiers are owed. -/
def owedWhere (xs : List Share) (keep : Tier → Bool) : Nat := ((xs.filter fun x => keep x.tier).map Share.owed).sum

theorem owedOf_eq {ts : List Tier} (once : ts.Nodup) (xs : List Share) : owedOf xs ts = owedWhere xs fun k => decide (k ∈ ts) := by
  induction ts with
  | nil => simp [owedOf, owedWhere]
  | cons t ts ih =>
    obtain ⟨away, rest⟩ := List.nodup_cons.mp once
    have split : owedOf xs (t :: ts) = owedIn t xs + owedOf xs ts := by simp [owedOf]
    rw [split, ih rest]
    clear ih split
    unfold owedIn owedWhere
    induction xs with
    | nil => rfl
    | cons x xs ih =>
      by_cases own : x.tier = t
      · simp only [List.filter_cons, own, away, List.mem_cons, true_or, decide_true, decide_false, if_true,
          Bool.false_eq_true, if_false, List.map_cons, List.sum_cons]
        simp only [List.mem_cons] at ih
        omega
      · simp only [List.filter_cons, own, List.mem_cons, false_or, decide_false, Bool.false_eq_true, if_false]
        simp only [List.mem_cons] at ih
        split
        · simp only [List.map_cons, List.sum_cons]
          omega
        · exact ih

theorem owedBefore_eq (xs : List Share) (k : Tier) : ∀ ts, owedBefore xs k ts = owedOf xs (ts.takeWhile fun t => decide (t ≠ k))
  | [] => rfl
  | t :: ts => by
    rw [owedBefore]
    by_cases here : t = k
    · rw [if_pos here, List.takeWhile_cons_of_neg (by simp [here])]
      rfl
    · rw [if_neg here, List.takeWhile_cons_of_pos (by simp [here]), owedBefore_eq xs k ts]
      simp [owedOf]

/-- The tiers before a tier are the lower ones. -/
theorem mem_tiers_before : ∀ k j : Tier, j ∈ ([0, 1, 2, 3] : List Tier).takeWhile (fun t => decide (t ≠ k)) ↔ j < k := by decide

theorem owedBefore_tiers (xs : List Share) (k : Tier) :
    owedBefore xs k [0, 1, 2, 3] = owedWhere xs fun j => decide (j < k) := by
  rw [owedBefore_eq, owedOf_eq ((List.takeWhile_sublist _).nodup (by decide))]
  exact congrArg (owedWhere xs) (funext fun j => decide_eq_decide.mpr (mem_tiers_before k j))

theorem owedOf_tiers (xs : List Share) : owedOf xs [0, 1, 2, 3] = owedWhere xs fun _ => true := by
  rw [owedOf_eq (by decide)]
  exact congrArg (owedWhere xs) (funext fun j => decide_eq_true (by revert j; decide))

/-- The floor stage, in one step: each tier from what the tiers before it leave (R32, R33). -/
theorem floorStage_tiers (r : Nat) (xs : List Share) :
    let before := fun k : Tier => owedWhere xs fun j => decide (j < k)
    let f := fun k : Tier => owedWhere xs fun j => decide (j = k)
    let total := owedWhere xs fun _ => true
    floorStage [0, 1, 2, 3] r xs =
      (xs.map fun x =>
        if before x.tier + f x.tier ≤ r then { x with grant := x.owed }
        else if before x.tier ≤ r then { x with grant := x.owed * (r - before x.tier) / f x.tier } else x,
       r - total, decide (r < total)) := by
  intro before f total
  rw [floorStage_eq _ r xs (by decide), owedOf_tiers]
  refine congrArg (fun l => (l, _, _)) (List.map_congr_left fun x _ => ?_)
  have listed : x.tier ∈ ([0, 1, 2, 3] : List Tier) := by
    generalize x.tier = k
    revert k
    decide
  rw [flooredBy, if_pos listed, owedBefore_tiers]
  rfl

end Sys2Proof.Machine
end

section
set_option Elab.async false
/-! PROOFS. The fill of a tier (R34, R35). -/

namespace Sys2Proof.Machine

open Sys2Proof.Statements

/-! ## A pass -/

/-- The members of S in a tier. -/
def fillMembers (t : Tier) (xs : List Share) : List Share := xs.filter (Share.inFill t)

/-- What a pass offers a member. -/
def quota (t : Tier) (r : Nat) (xs : List Share) (x : Share) : Nat :=
  r * x.weight / ((fillMembers t xs).map Share.weight).sum

/-- A pass offers a member all that it needs. -/
def capped (t : Tier) (r : Nat) (xs : List Share) (x : Share) : Bool := x.inFill t && decide (x.need ≤ quota t r xs x)

/-- The shares after a pass that caps members. -/
def capPass (t : Tier) (r : Nat) (xs : List Share) : List Share :=
  xs.map fun x => if capped t r xs x then { x with grant := x.demand } else x

/-- What a pass that caps members gives out. -/
def capSum (t : Tier) (r : Nat) (xs : List Share) : Nat := ((xs.filter (capped t r xs)).map Share.need).sum

/-- The outlets that a last pass gives one unit of the remainder. -/
def unitOutlets (t : Tier) (ptr : OutletId) (r : Nat) (xs : List Share) : List OutletId :=
  (handOrder ptr (fillMembers t xs)).take (r - ((fillMembers t xs).map (quota t r xs)).sum)

/-- The shares after a last pass. -/
def lastPass (t : Tier) (ptr : OutletId) (r : Nat) (xs : List Share) : List Share :=
  xs.map fun x =>
    if x.inFill t then { x with grant := x.grant + quota t r xs x + bit ((unitOutlets t ptr r xs).contains x.outlet) } else x

/-- The passes of a fill: nothing to do, a last pass, or a pass that caps members. -/
theorem fillPasses_succ (fuel : Nat) (t : Tier) (ptr : OutletId) (r : Nat) (xs : List Share) :
    fillPasses (fuel + 1) t ptr r xs =
      if fillMembers t xs = [] ∨ r = 0 then (xs, r)
      else if xs.any (capped t r xs) = false then (lastPass t ptr r xs, 0)
      else fillPasses fuel t ptr (r - capSum t r xs) (capPass t r xs) := by
  have inside : (fillMembers t xs).filter (fun x => decide (x.need ≤ quota t r xs x)) = xs.filter (capped t r xs) := by
    rw [fillMembers, List.filter_filter]
    exact List.filter_congr fun x _ => Bool.and_comm _ _
  have none : (xs.filter (capped t r xs)).isEmpty = true ↔ xs.any (capped t r xs) = false := by
    rw [List.isEmpty_iff, List.filter_eq_nil_iff, List.any_eq_false]
  rw [fillPasses]
  change (if (fillMembers t xs).isEmpty = true ∨ r = 0 then (xs, r)
    else if ((fillMembers t xs).filter fun x => decide (x.need ≤ quota t r xs x)).isEmpty = true then (lastPass t ptr r xs, 0)
    else fillPasses fuel t ptr
      (r - (((fillMembers t xs).filter fun x => decide (x.need ≤ quota t r xs x)).map Share.need).sum) (capPass t r xs)) = _
  rw [inside]
  exact if_congr (or_congr_left List.isEmpty_iff) rfl (if_congr none rfl rfl)

/-- A capped member leaves S, every other share stays as it is. -/
theorem fillMembers_capPass (t : Tier) (r : Nat) (xs : List Share) :
    fillMembers t (capPass t r xs) = (fillMembers t xs).filter fun x => !capped t r xs x := by
  have leaves : ∀ x : Share, Share.inFill t (if capped t r xs x then { x with grant := x.demand } else x) =
      (x.inFill t && !capped t r xs x) := fun x => by
    cases full : capped t r xs x with
    | true => simp [Share.inFill]
    | false => simp
  rw [fillMembers, capPass, List.filter_map, fillMembers, List.filter_filter,
    show (Share.inFill t ∘ fun x => if capped t r xs x then { x with grant := x.demand } else x) =
      fun x => x.inFill t && !capped t r xs x from funext leaves]
  refine Eq.trans (List.map_congr_left fun x member => ?_) ?_ (b := (xs.filter fun x => x.inFill t && !capped t r xs x).map id)
  · have stays := (List.mem_filter.mp member).2
    rw [Bool.and_eq_true, Bool.not_eq_true'] at stays
    rw [stays.2]
    rfl
  · rw [List.map_id]
    exact List.filter_congr fun x _ => Bool.and_comm _ _

theorem fillMembers_capPass_lt {t : Tier} {r : Nat} {xs : List Share} (some : xs.any (capped t r xs) = true) :
    (fillMembers t (capPass t r xs)).length < (fillMembers t xs).length := by
  rw [fillMembers_capPass]
  obtain ⟨x, member, full⟩ := List.any_eq_true.mp some
  have inside : x.inFill t = true := ((Bool.and_eq_true _ _).mp full).1
  exact List.length_filter_lt_length_iff_exists.mpr ⟨x, List.mem_filter.mpr ⟨member, inside⟩, by simp [full]⟩

/-- More passes than members change nothing. -/
theorem fillPasses_fuel (t : Tier) (ptr : OutletId) : ∀ (n m r : Nat) (xs : List Share), (fillMembers t xs).length < n →
    (fillMembers t xs).length < m → fillPasses n t ptr r xs = fillPasses m t ptr r xs
  | 0, _, _, _, h, _ => absurd h (Nat.not_lt_zero _)
  | _ + 1, 0, _, _, _, h => absurd h (Nat.not_lt_zero _)
  | n + 1, m + 1, r, xs, hn, hm => by
    rw [fillPasses_succ, fillPasses_succ]
    refine if_congr Iff.rfl rfl ?_
    by_cases some : xs.any (capped t r xs) = false
    · rw [if_pos some, if_pos some]
    · have fewer := fillMembers_capPass_lt ((Bool.not_eq_false _).mp some)
      rw [if_neg some, if_neg some]
      exact fillPasses_fuel t ptr n m _ _ (by omega) (by omega)

theorem fillMembers_length_lt (t : Tier) (xs : List Share) : (fillMembers t xs).length < xs.length + 1 :=
  Nat.lt_succ_of_le (List.length_filter_le _ _)

theorem fillTier_idle {ptrs : Vector OutletId 4} {t : Tier} {xs : List Share} {r : Nat} (idle : fillMembers t xs = [] ∨ r = 0) :
    fillTier ptrs t (xs, r) = (xs, r) := by
  rw [fillTier, fillPasses_succ, if_pos idle]

theorem fillTier_last {ptrs : Vector OutletId 4} {t : Tier} {xs : List Share} {r : Nat} (some : fillMembers t xs ≠ [])
    (left : r ≠ 0) (none : xs.any (capped t r xs) = false) : fillTier ptrs t (xs, r) = (lastPass t ptrs[t] r xs, 0) := by
  rw [fillTier, fillPasses_succ, if_neg (not_or.mpr ⟨some, left⟩), if_pos none]

theorem fillTier_capped {ptrs : Vector OutletId 4} {t : Tier} {xs : List Share} {r : Nat}
    (left : r ≠ 0) (some : xs.any (capped t r xs) = true) :
    fillTier ptrs t (xs, r) = fillTier ptrs t (capPass t r xs, r - capSum t r xs) := by
  obtain ⟨x, member, full⟩ := List.any_eq_true.mp some
  have inside : x ∈ fillMembers t xs := List.mem_filter.mpr ⟨member, ((Bool.and_eq_true _ _).mp full).1⟩
  have fewer := fillMembers_capPass_lt some
  have length : (capPass t r xs).length = xs.length := List.length_map _
  rw [fillTier, fillPasses_succ, if_neg (not_or.mpr ⟨List.ne_nil_of_mem inside, left⟩), if_neg (by rw [some]; decide), fillTier]
  exact fillPasses_fuel t _ _ _ _ _ (fewer.trans_le (List.length_filter_le _ _)) (fillMembers_length_lt t _)

/-! ## The fill gives out what it takes (R48) -/

theorem grantTotal_regrant_eq (p : Share → Prop) [DecidablePred p] (g gain : Share → Nat) : ∀ (xs : List Share),
    (∀ x ∈ xs, p x → g x = x.grant + gain x) →
    grantTotal (xs.map fun x => if p x then { x with grant := g x } else x) =
      grantTotal xs + ((xs.filter fun x => decide (p x)).map gain).sum
  | [], _ => rfl
  | x :: xs, h => by
    have tail := grantTotal_regrant_eq p g gain xs fun y hy => h y (List.mem_cons_of_mem _ hy)
    have head := h x List.mem_cons_self
    by_cases hp : p x
    · have gained := head hp
      simp only [List.map_cons, List.filter_cons, grantTotal_cons, hp, if_true, decide_true, List.sum_cons]
      omega
    · simp only [List.map_cons, List.filter_cons, grantTotal_cons, hp, if_false, decide_false, Bool.false_eq_true]
      omega

/-- The quotients of a split leave less than one unit for each part. -/
theorem sum_quotients_gt {α : Type} (f : α → Nat) (r w : Nat) (pos : 0 < w) : ∀ l : List α, l ≠ [] →
    r * (l.map f).sum < ((l.map fun x => r * f x / w).sum + l.length) * w
  | [], h => absurd rfl h
  | x :: l, _ => by
    have head : r * f x < (r * f x / w + 1) * w := by
      rw [Nat.add_mul, Nat.one_mul, Nat.mul_comm _ w]
      have parts := Nat.div_add_mod (r * f x) w
      have small := Nat.mod_lt (r * f x) pos
      omega
    by_cases last : l = []
    · subst last
      simpa using head
    · have tail := sum_quotients_gt f r w pos l last
      simp only [List.map_cons, List.sum_cons, List.length_cons]
      have shape : (r * f x / w + (l.map fun x => r * f x / w).sum + (l.length + 1)) * w =
          (r * f x / w + 1) * w + ((l.map fun x => r * f x / w).sum + l.length) * w := by ring
      rw [shape, Nat.mul_add]
      omega

theorem handOrder_perm (ptr : OutletId) (l : List Share) : (handOrder ptr l).Perm (l.map Share.outlet) := by
  have split := (List.filter_append_perm (fun x : Share => decide (ptr ≤ x.outlet)) l).map Share.outlet
  have rest : (l.filter fun x => decide (x.outlet < ptr)) = l.filter fun x => !decide (ptr ≤ x.outlet) :=
    List.filter_congr fun x _ => by rw [← decide_not, decide_eq_decide, not_le]
  rw [handOrder, rest, ← List.map_append]
  exact split

/-- Units handed out by outlet reach as many shares as there are units. -/
theorem sum_units_eq (l : List Share) (units : List OutletId) (once : (l.map Share.outlet).Nodup) (distinct : units.Nodup)
    (within : units ⊆ l.map Share.outlet) : (l.map fun x => bit (units.contains x.outlet)).sum = units.length := by
  have count : (l.map fun x => bit (units.contains x.outlet)).sum =
      ((l.map Share.outlet).filter fun n => units.contains n).length := by
    clear once within
    induction l with
    | nil => rfl
    | cons x l ih => by_cases hx : x.outlet ∈ units <;> simp_all [bit, Nat.add_comm]
  rw [count]
  refine ((List.perm_ext_iff_of_nodup (once.filter _) distinct).mpr fun n => ?_).length_eq
  rw [List.mem_filter, List.contains_iff_mem]
  exact ⟨And.right, fun h => ⟨within h, h⟩⟩

/-- A round's shares: no outlet has two, and every weight is positive. -/
def FairShares (xs : List Share) : Prop := (xs.map Share.outlet).Nodup ∧ ∀ x ∈ xs, 1 ≤ x.weight

theorem FairShares.capPass {xs : List Share} (fair : FairShares xs) (t : Tier) (r : Nat) : FairShares (capPass t r xs) := by
  obtain ⟨once, weights⟩ := fair
  refine ⟨by rwa [Machine.capPass, map_outlet_regrant], fun y member => ?_⟩
  obtain ⟨x, inside, rfl⟩ := List.mem_map.mp member
  have weight := weights x inside
  split <;> exact weight

/-- The quotas of a pass are within what is left, and short of it by less than one unit for each member. -/
theorem quotas_bounds {t : Tier} {xs : List Share} (fair : FairShares xs) (some : fillMembers t xs ≠ []) (r : Nat) :
    ((fillMembers t xs).map (quota t r xs)).sum ≤ r ∧
    r < ((fillMembers t xs).map (quota t r xs)).sum + (fillMembers t xs).length := by
  obtain ⟨x, member⟩ := List.exists_mem_of_ne_nil _ some
  have weight := fair.2 x (List.mem_filter.mp member).1
  have listed : x.weight ∈ (fillMembers t xs).map Share.weight := List.mem_map_of_mem member
  have pos : 0 < ((fillMembers t xs).map Share.weight).sum := weight.trans (List.single_le_sum (fun _ _ => Nat.zero_le _) _ listed)
  refine ⟨?_, Nat.lt_of_mul_lt_mul_right (sum_quotients_gt Share.weight r _ pos _ some)⟩
  have quotients := sum_quotients_le (fillMembers t xs) Share.weight r
  simp only [Nat.mul_comm _ r] at quotients
  exact quotients

/-- A last pass gives out exactly what is left. -/
theorem grantTotal_lastPass {t : Tier} {xs : List Share} (fair : FairShares xs) (some : fillMembers t xs ≠ []) (ptr : OutletId)
    (r : Nat) : grantTotal (lastPass t ptr r xs) = grantTotal xs + r := by
  obtain ⟨covered, short⟩ := quotas_bounds fair some r
  have perm := handOrder_perm ptr (fillMembers t xs)
  have once : ((fillMembers t xs).map Share.outlet).Nodup := fair.1.sublist (List.filter_sublist.map _)
  have units := sum_units_eq (fillMembers t xs) (unitOutlets t ptr r xs) once
    ((List.take_sublist _ _).nodup (perm.nodup_iff.mpr once)) (fun n member => perm.subset (List.mem_of_mem_take member))
  have length : (unitOutlets t ptr r xs).length = r - ((fillMembers t xs).map (quota t r xs)).sum := by
    rw [unitOutlets, List.length_take, perm.length_eq, List.length_map]
    omega
  have paid := grantTotal_regrant_eq (fun x => x.inFill t = true)
    (fun x => x.grant + quota t r xs x + bit ((unitOutlets t ptr r xs).contains x.outlet))
    (fun x => quota t r xs x + bit ((unitOutlets t ptr r xs).contains x.outlet)) xs fun x _ _ => Nat.add_assoc ..
  simp only [Bool.decide_eq_true, List.sum_map_add] at paid
  change _ = _ + (((fillMembers t xs).map _).sum + ((fillMembers t xs).map _).sum) at paid
  rw [lastPass, paid, units, length]
  exact congrArg _ (Nat.add_sub_cancel' covered)

/-- A pass that caps members gives out what they need. -/
theorem grantTotal_capPass {t : Tier} {xs : List Share} (r : Nat) :
    capSum t r xs ≤ r ∧ grantTotal (capPass t r xs) = grantTotal xs + capSum t r xs := by
  have quotients := sum_quotients_le (fillMembers t xs) Share.weight r
  simp only [Nat.mul_comm _ r] at quotients
  constructor
  · have inside : xs.filter (capped t r xs) = (fillMembers t xs).filter fun x => decide (x.need ≤ quota t r xs x) := by
      rw [fillMembers, List.filter_filter]
      exact List.filter_congr fun x _ => Bool.and_comm _ _
    rw [capSum, inside]
    calc
      _ ≤ (((fillMembers t xs).filter fun x => decide (x.need ≤ quota t r xs x)).map (quota t r xs)).sum :=
        List.sum_le_sum fun x hx => of_decide_eq_true (List.mem_filter.mp hx).2
      _ ≤ ((fillMembers t xs).map (quota t r xs)).sum := (List.filter_sublist.map _).sum_le_sum fun _ _ => Nat.zero_le _
      _ ≤ r := quotients
  · have paid := grantTotal_regrant_eq (fun x => capped t r xs x = true) Share.demand Share.need xs fun x _ full => by
      have inside : x.inFill t = true := ((Bool.and_eq_true _ _).mp full).1
      have needs := of_decide_eq_true ((Bool.and_eq_true _ _).mp inside).2
      rw [Share.need]
      omega
    simp only [Bool.decide_eq_true] at paid
    exact paid

theorem fillPasses_gives (t : Tier) (ptr : OutletId) : ∀ (fuel r : Nat) (xs : List Share), FairShares xs →
    (fillPasses fuel t ptr r xs).2 + grantTotal (fillPasses fuel t ptr r xs).1 = r + grantTotal xs
  | 0, _, _, _ => rfl
  | fuel + 1, r, xs, fair => by
    rw [fillPasses_succ]
    by_cases idle : fillMembers t xs = [] ∨ r = 0
    · rw [if_pos idle]
    · rw [if_neg idle]
      by_cases none : xs.any (capped t r xs) = false
      · rw [if_pos none]
        dsimp only
        rw [grantTotal_lastPass fair (not_or.mp idle).1]
        omega
      · rw [if_neg none, fillPasses_gives t ptr fuel _ _ (fair.capPass t r)]
        obtain ⟨within, paid⟩ := grantTotal_capPass (t := t) (xs := xs) r
        omega

/-- A fill ends with nothing left or with nobody in the tier who needs more. -/
theorem fillPasses_ends (t : Tier) (ptr : OutletId) : ∀ (fuel r : Nat) (xs : List Share), (fillMembers t xs).length < fuel →
    (fillPasses fuel t ptr r xs).2 = 0 ∨ fillMembers t (fillPasses fuel t ptr r xs).1 = []
  | 0, _, _, h => absurd h (Nat.not_lt_zero _)
  | fuel + 1, r, xs, enough => by
    rw [fillPasses_succ]
    by_cases idle : fillMembers t xs = [] ∨ r = 0
    · rw [if_pos idle]
      exact idle.symm
    · rw [if_neg idle]
      by_cases none : xs.any (capped t r xs) = false
      · rw [if_pos none]
        exact .inl rfl
      · have fewer := fillMembers_capPass_lt ((Bool.not_eq_false _).mp none)
        rw [if_neg none]
        exact fillPasses_ends t ptr fuel _ _ (by omega)

theorem fillMembers_eq_nil (t : Tier) (xs : List Share) : fillMembers t xs = [] ↔ ∀ x ∈ xs, x.tier = t → x.demand ≤ x.grant := by
  rw [fillMembers, List.filter_eq_nil_iff]
  simp [Share.inFill]

/-! ## Who gets a unit of the remainder (R35) -/

/-- In a list that ascends by a key, the first ones are those with few before them. -/
theorem mem_take_of_ascending {α : Type*} {key : α → Nat} : ∀ {l : List α}, l.Pairwise (fun x y => key x < key y) →
    ∀ {x : α}, x ∈ l → ∀ k, x ∈ l.take k ↔ (l.filter fun y => decide (key y < key x)).length < k
  | [], _, _, h, _ => absurd h List.not_mem_nil
  | a :: l, sorted, x, member, k => by
    obtain ⟨least, rest⟩ := List.pairwise_cons.mp sorted
    cases k with
    | zero => simp
    | succ k =>
      rw [List.take_succ_cons, List.mem_cons]
      rcases List.mem_cons.mp member with rfl | later
      · have none : (x :: l).filter (fun y => decide (key y < key x)) = [] := by
          refine List.filter_eq_nil_iff.mpr fun y inside => ?_
          rcases List.mem_cons.mp inside with rfl | behind
          · simp
          · simpa using (least y behind).le
        simp [none]
      · have before := least x later
        have other : x ≠ a := fun same => absurd before (by rw [same]; omega)
        rw [or_iff_right other, mem_take_of_ascending rest later, List.filter_cons_of_pos (by simpa using before), List.length_cons]
        omega

theorem handPlace_of_le {ptr n : OutletId} (h : ptr ≤ n) : handPlace ptr n = n.val - ptr.val := by
  unfold handPlace
  have := n.isLt
  have : ptr.val ≤ n.val := h
  omega

theorem handPlace_of_lt {ptr n : OutletId} (h : n < ptr) : handPlace ptr n = n.val + 24 - ptr.val := by
  unfold handPlace
  have := ptr.isLt
  have : n.val < ptr.val := h
  omega

/-- The remainder is handed out from the rotation pointer on. -/
theorem handOrder_ascending (ptr : OutletId) {l : List Share} (sorted : l.Pairwise (fun x y => x.outlet < y.outlet)) :
    (handOrder ptr l).Pairwise (fun n m => handPlace ptr n < handPlace ptr m) := by
  rw [handOrder, List.pairwise_append]
  refine ⟨?_, ?_, fun n fromPtr m below => ?_⟩
  · refine List.pairwise_map.mpr ((List.Pairwise.filter _ sorted).imp_of_mem fun {x y} hx hy earlier => ?_)
    have ascending : x.outlet.val < y.outlet.val := earlier
    have before : ptr ≤ x.outlet := of_decide_eq_true (List.mem_filter.mp hx).2
    have before' : ptr ≤ y.outlet := of_decide_eq_true (List.mem_filter.mp hy).2
    have above : ptr.val ≤ x.outlet.val := before
    rw [handPlace_of_le before, handPlace_of_le before']
    omega
  · refine List.pairwise_map.mpr ((List.Pairwise.filter _ sorted).imp_of_mem fun {x y} hx hy earlier => ?_)
    have ascending : x.outlet.val < y.outlet.val := earlier
    have after : x.outlet < ptr := of_decide_eq_true (List.mem_filter.mp hx).2
    have after' : y.outlet < ptr := of_decide_eq_true (List.mem_filter.mp hy).2
    rw [handPlace_of_lt after, handPlace_of_lt after']
    omega
  · obtain ⟨x, hx, rfl⟩ := List.mem_map.mp fromPtr
    obtain ⟨y, hy, rfl⟩ := List.mem_map.mp below
    have before : ptr ≤ x.outlet := of_decide_eq_true (List.mem_filter.mp hx).2
    have after : y.outlet < ptr := of_decide_eq_true (List.mem_filter.mp hy).2
    rw [handPlace_of_le before, handPlace_of_lt after]
    omega

/-- A member gets a unit where fewer members stand before it than there are units. -/
theorem unitOutlets_contains {t : Tier} (ptr : OutletId) (r : Nat) {xs : List Share}
    (sorted : xs.Pairwise (fun x y => x.outlet < y.outlet)) {x : Share} (member : x ∈ fillMembers t xs) :
    (unitOutlets t ptr r xs).contains x.outlet = decide
      (((fillMembers t xs).filter fun y => decide (handPlace ptr y.outlet < handPlace ptr x.outlet)).length <
        r - ((fillMembers t xs).map (quota t r xs)).sum) := by
  have perm := handOrder_perm ptr (fillMembers t xs)
  have listed : x.outlet ∈ handOrder ptr (fillMembers t xs) := perm.mem_iff.mpr (List.mem_map_of_mem member)
  have place := mem_take_of_ascending (handOrder_ascending ptr (l := fillMembers t xs) (List.Pairwise.filter _ sorted)) listed
  have count : ((handOrder ptr (fillMembers t xs)).filter fun n => decide (handPlace ptr n < handPlace ptr x.outlet)).length =
      ((fillMembers t xs).filter fun y => decide (handPlace ptr y.outlet < handPlace ptr x.outlet)).length := by
    rw [(perm.filter _).length_eq, List.filter_map, List.length_map]
    rfl
  rw [Bool.eq_iff_iff, List.contains_iff_mem, decide_eq_true_iff, unitOutlets, place, count]

end Sys2Proof.Machine
end

section
set_option Elab.async false
/-! PROOFS. The stages of a round (R31 to R35, R39, R40, R104, R111, R112). -/

namespace Sys2Proof.Machine

open Sys2Proof.Statements

/-! ## The fill, as the statements say it -/

theorem fillTier_spec (ptrs : Vector OutletId 4) (k : Tier) (xs : List Share) (r : Nat)
    (sorted : xs.Pairwise (fun x y => x.outlet < y.outlet)) (weights : ∀ x ∈ xs, 1 ≤ x.weight) :
    (fillMembers k xs = [] ∨ r = 0 → fillTier ptrs k (xs, r) = (xs, r)) ∧
    (fillMembers k xs ≠ [] → r ≠ 0 → xs.any (capped k r xs) = false →
      fillTier ptrs k (xs, r) = (xs.map fun x =>
        if x.inFill k then
          { x with grant := x.grant + quota k r xs x +
              if ((fillMembers k xs).filter fun y => decide (handPlace ptrs[k] y.outlet < handPlace ptrs[k] x.outlet)).length <
                r - ((fillMembers k xs).map (quota k r xs)).sum then 1 else 0 }
        else x, 0)) ∧
    (r ≠ 0 → xs.any (capped k r xs) = true →
      fillTier ptrs k (xs, r) = fillTier ptrs k (capPass k r xs, r - capSum k r xs)) ∧
    (fillTier ptrs k (xs, r)).2 + grantTotal (fillTier ptrs k (xs, r)).1 = r + grantTotal xs ∧
    ((fillTier ptrs k (xs, r)).2 = 0 ∨ ∀ x ∈ (fillTier ptrs k (xs, r)).1, x.tier = k → x.demand ≤ x.grant) := by
  have once : (xs.map Share.outlet).Nodup := List.pairwise_map.mpr (sorted.imp fun earlier => ne_of_lt earlier)
  refine ⟨fillTier_idle, fun some left none => ?_, fillTier_capped, ?_, ?_⟩
  · rw [fillTier_last some left none, lastPass]
    refine congrArg (fun l => (l, 0)) (List.map_congr_left fun x member => ?_)
    by_cases inside : x.inFill k = true
    · rw [if_pos inside, if_pos inside, unitOutlets_contains ptrs[k] r sorted (List.mem_filter.mpr ⟨member, inside⟩), bit]
      simp only [decide_eq_true_eq]
    · rw [if_neg inside, if_neg inside]
  · exact fillPasses_gives k ptrs[k] (xs.length + 1) r xs ⟨once, weights⟩
  · rw [← fillMembers_eq_nil]
    exact fillPasses_ends k ptrs[k] (xs.length + 1) r xs (fillMembers_length_lt k xs)

namespace State

/-! ## The reservation of the cleared bursts (R39, R111) -/

/-- The step of the search for the entry last cleared. -/
def laterCleared (best : Option BurstEntry) (e : BurstEntry) : Option BurstEntry :=
  match best with
  | none => some e
  | some b => if b.rank < e.rank then some e else some b

theorem foldl_laterCleared {e : BurstEntry} : ∀ (l : List BurstEntry) (best : Option BurstEntry),
    (∀ x ∈ l, x ≠ e → x.rank < e.rank) → (∀ b ∈ best, b ≠ e → b.rank < e.rank) → e ∈ l ∨ best = some e →
    l.foldl laterCleared best = some e
  | [], _, _, _, found => found.resolve_left List.not_mem_nil
  | x :: l, best, last, before, found => by
    refine foldl_laterCleared l (laterCleared best x) (fun y h => last y (List.mem_cons_of_mem x h)) ?_ ?_
    · intro b held
      cases best with
      | none => exact Option.some.inj held ▸ last x List.mem_cons_self
      | some a =>
        unfold laterCleared at held
        dsimp only at held
        split at held
        · exact Option.some.inj held ▸ last x List.mem_cons_self
        · exact Option.some.inj held ▸ before a rfl
    · by_cases here : x = e
      · subst here
        right
        cases best with
        | none => rfl
        | some a =>
          by_cases same : a = x
          · rw [same, laterCleared, ite_self]
          · exact if_pos (before a rfl same)
      · rcases found with inside | held
        · exact .inl ((List.mem_cons.mp inside).resolve_left (Ne.symm here))
        · rw [held]
          exact .inr (if_neg (last x List.mem_cons_self here).not_gt)

theorem lastCleared_of_max {s : State} {e : BurstEntry} (listed : e ∈ s.bursts) (cleared : e.isCleared = true)
    (last : ∀ x ∈ s.bursts, x.isCleared = true → x ≠ e → x.rank < e.rank) : s.lastCleared = some e :=
  foldl_laterCleared _ _ (fun x h => last x (List.mem_filter.mp h).1 (List.mem_filter.mp h).2) (fun _ h => nomatch h)
    (.inl (List.mem_filter.mpr ⟨listed, cleared⟩))

theorem revokeUntilFits_of_fits {r : Nat} {s : State} (fits : s.clearedTotal ≤ r) : ∀ fuel, revokeUntilFits fuel r s = s
  | 0 => rfl
  | _ + 1 => if_pos fits

/-- More steps than entries change nothing. -/
theorem revokeUntilFits_fuel (r : Nat) : ∀ (n m : Nat) (s : State), s.bursts.length ≤ n → s.bursts.length ≤ m →
    revokeUntilFits n r s = revokeUntilFits m r s
  | 0, m, s, empty, _ => by
    have none : s.bursts = [] := List.length_eq_zero_iff.mp (Nat.le_zero.mp empty)
    have fits : s.clearedTotal ≤ r := by simp [clearedTotal, none]
    rw [revokeUntilFits_of_fits fits, revokeUntilFits_of_fits fits]
  | n + 1, 0, s, _, empty => by
    have none : s.bursts = [] := List.length_eq_zero_iff.mp (Nat.le_zero.mp empty)
    have fits : s.clearedTotal ≤ r := by simp [clearedTotal, none]
    rw [revokeUntilFits_of_fits fits, revokeUntilFits_of_fits fits]
  | n + 1, m + 1, s, hn, hm => by
    rw [revokeUntilFits, revokeUntilFits]
    refine if_congr Iff.rfl rfl ?_
    cases last : s.lastCleared with
    | none => rfl
    | some e =>
      have shorter := s.removeEntry_shortens e (revoked .capacity) (s.lastCleared_mem e last)
      exact revokeUntilFits_fuel r n m _ (by omega) (by omega)

theorem revokeUntilFits_step {r : Nat} {s : State} {e : BurstEntry} (exceeds : r < s.clearedTotal) (last : s.lastCleared = some e) :
    let t := s.removeEntry e.outlet (revoked .capacity)
    revokeUntilFits s.bursts.length r s = revokeUntilFits t.bursts.length r t := by
  intro t
  have listed := s.lastCleared_mem e last
  have shorter : t.bursts.length < s.bursts.length := s.removeEntry_shortens e (revoked .capacity) listed
  obtain ⟨k, length⟩ : ∃ k, s.bursts.length = k + 1 := ⟨s.bursts.length - 1, by omega⟩
  rw [length, revokeUntilFits, if_neg (Nat.not_le.mpr exceeds), last]
  exact revokeUntilFits_fuel r k _ t (by omega) le_rfl

/-! ## Admission (R40, R104) -/

/-- The entries still QUEUED. -/
def queuedCount (s : State) : Nat := (s.bursts.filter fun e => !e.isCleared).length

theorem clearEntry_bursts (s : State) (e : BurstEntry) :
    (s.clearEntry e).bursts = s.bursts.map fun x => if x.outlet = e.outlet
      then { x with state := .cleared (x.duration * 1000) (s.clearedCount + 1) } else x := rfl

theorem clearEntry_queuedCount {s : State} {e : BurstEntry} (head : s.headEntry = some e) :
    (s.clearEntry e).queuedCount < s.queuedCount := by
  have leaves : ∀ x : BurstEntry, (!(if x.outlet = e.outlet
      then { x with state := .cleared (x.duration * 1000) (s.clearedCount + 1) } else x : BurstEntry).isCleared) =
      (decide (x.outlet ≠ e.outlet) && !x.isCleared) := fun x => by
    by_cases own : x.outlet = e.outlet
    · simp [own, BurstEntry.isCleared]
    · simp [own]
  have queued := List.find?_some head
  rw [queuedCount, clearEntry_bursts, List.filter_map, List.length_map,
    show ((fun x : BurstEntry => !x.isCleared) ∘ fun x : BurstEntry => if x.outlet = e.outlet
      then { x with state := .cleared (x.duration * 1000) (s.clearedCount + 1) } else x) =
      fun x => decide (x.outlet ≠ e.outlet) && !x.isCleared from funext leaves, ← List.filter_filter]
  exact List.length_filter_lt_length_iff_exists.mpr
    ⟨e, List.mem_filter.mpr ⟨List.mem_of_find?_eq_some head, queued⟩, by simp⟩

theorem admitHeads_none {s : State} (none : s.headEntry = none) (xs : List Share) (r : Nat) : ∀ fuel, admitHeads fuel s xs r = (s, xs, r)
  | 0 => rfl
  | _ + 1 => by rw [admitHeads, none]

theorem headEntry_none_iff (s : State) : s.headEntry = none ↔ ∀ e ∈ s.bursts, e.isCleared = true := by
  simp [headEntry]

theorem headEntry_of_queuedCount {s : State} (empty : s.queuedCount = 0) : s.headEntry = none := by
  refine (headEntry_none_iff s).mpr fun e member => ?_
  have left := List.filter_eq_nil_iff.mp (List.length_eq_zero_iff.mp empty) e member
  simpa using left

/-- What an entry's outlet gives back at its admission. -/
def givenBack (xs : List Share) (e : BurstEntry) : Nat := ((xs.filter fun x => decide (x.outlet = e.outlet)).map Share.grant).sum

theorem admitHeads_some {s : State} {e : BurstEntry} (head : s.headEntry = some e) (fuel : Nat) (xs : List Share) (r : Nat) :
    admitHeads (fuel + 1) s xs r =
      if e.amount ≤ r + givenBack xs e then
        admitHeads fuel (s.clearEntry e) (xs.filter fun x => decide (x.outlet ≠ e.outlet)) (r + givenBack xs e - e.amount)
      else (s, xs, r) := by
  rw [admitHeads, head]
  rfl

/-- More steps than QUEUED entries change nothing. -/
theorem admitHeads_fuel : ∀ (n m : Nat) (s : State) (xs : List Share) (r : Nat), s.queuedCount ≤ n → s.queuedCount ≤ m →
    admitHeads n s xs r = admitHeads m s xs r
  | 0, m, s, xs, r, empty, _ => by
    have free := headEntry_of_queuedCount (Nat.le_zero.mp empty)
    rw [admitHeads_none free, admitHeads_none free]
  | n + 1, 0, s, xs, r, _, empty => by
    have free := headEntry_of_queuedCount (Nat.le_zero.mp empty)
    rw [admitHeads_none free, admitHeads_none free]
  | n + 1, m + 1, s, xs, r, hn, hm => by
    cases head : s.headEntry with
    | none => rw [admitHeads_none head, admitHeads_none head]
    | some e =>
      have fewer := clearEntry_queuedCount head
      rw [admitHeads_some head, admitHeads_some head, admitHeads_fuel n m _ _ _ (by omega) (by omega)]

/-- Admission with as many steps as there are entries. -/
def admission (s : State) (xs : List Share) (r : Nat) : State × List Share × Nat := admitHeads s.bursts.length s xs r

theorem admission_some {s : State} {e : BurstEntry} (head : s.headEntry = some e) (xs : List Share) (r : Nat) :
    admission s xs r =
      if e.amount ≤ r + givenBack xs e then
        admission (s.clearEntry e) (xs.filter fun x => decide (x.outlet ≠ e.outlet)) (r + givenBack xs e - e.amount)
      else (s, xs, r) := by
  have listed : 0 < s.bursts.length := List.length_pos_of_mem (List.mem_of_find?_eq_some head)
  obtain ⟨k, length⟩ : ∃ k, s.bursts.length = k + 1 := ⟨s.bursts.length - 1, by omega⟩
  have same : (s.clearEntry e).bursts.length = k + 1 := by rw [clearEntry_bursts, List.length_map, length]
  have queued : s.queuedCount ≤ s.bursts.length := List.length_filter_le _ _
  have fewer := clearEntry_queuedCount head
  rw [admission, admission, length, same, admitHeads_some head,
    admitHeads_fuel k (k + 1) (s.clearEntry e) _ _ (by omega) (by omega)]

end State

/-- Settles O28 (R31 to R35, R39, R40, R104, R111, R112): each stage by its own recursion. -/
theorem stagesOfARound : Obligations.StagesOfARound := by
  refine ⟨fun s pool => ⟨s.shares_ascending pool, s.mem_shares pool⟩, fun r xs => floorStage_tiers r xs,
    fun ptrs k xs r sorted weights => ?_, fun s kept => ⟨fun free => ?_, fun locked => ?_, fun r fits => ?_,
      fun r e exceeds listed cleared last => ?_⟩, fun s xs r kept => ⟨fun cleared => ?_, fun e head => ⟨fun short => ?_,
      fun fits => ?_, rfl, s.clearEntry_port e, s.clearEntry_frame e⟩⟩⟩
  · simp only [Bool.decide_and]
    exact fillTier_spec ptrs k xs r sorted weights
  · rw [State.lockoutRevocation, if_neg (by rw [free]; decide)]
  · intro lacks
    rw [State.lockoutRevocation, if_pos locked]
    obtain ⟨bursts, ports, -⟩ := s.revokeWhere_spec kept.2 lacks .lockout
    exact ⟨bursts, s.revokeWhere_outlets kept.2 lacks .lockout, fun q => by rw [ports]⟩
  · exact State.revokeUntilFits_of_fits fits _
  · intro t
    refine ⟨State.revokeUntilFits_step exceeds (State.lastCleared_of_max listed cleared last), ?_, fun q => ?_⟩
    · rw [removeEntry_withoutOutlet, withoutOutlet, (State.find?_outlet_of_mem kept.2 listed :)]
    · have entry : s.entryOf e.outlet = some e := State.find?_outlet_of_mem kept.2 listed
      rw [State.removeEntry_port, entryEvent, entry]
      exact if_congr eq_comm rfl rfl
  · exact State.admitHeads_none ((State.headEntry_none_iff s).mpr cleared) xs r _
  · exact (State.admission_some head xs r).trans (if_neg (Nat.not_le.mpr short))
  · exact (State.admission_some head xs r).trans (if_pos fits)

end Sys2Proof.Machine
end

section
set_option Elab.async false
/-! PROOFS. What the stages of a round keep of its shares, and the order of the tiers at the close (R49). -/

namespace Sys2Proof.Machine

open Sys2Proof.Statements

/-! ## Stages change grants alone -/

/-- The shares of one list are those of another, in order, with other grants where a test allows it. -/
def Regranted (may : Share → Prop) (xs ys : List Share) : Prop :=
  ∃ f : Share → Share, ys = xs.map f ∧ ∀ x, f x = { x with grant := (f x).grant } ∧ (¬ may x → f x = x)

theorem Regranted.refl (may : Share → Prop) (xs : List Share) : Regranted may xs xs :=
  ⟨id, (List.map_id _).symm, fun _ => ⟨rfl, fun _ => rfl⟩⟩

theorem Regranted.trans {may : Share → Prop} {xs ys zs : List Share} (h : Regranted may xs ys) (k : Regranted may ys zs) : Regranted may xs zs := by
  obtain ⟨f, rfl, hf⟩ := h
  obtain ⟨g, rfl, hg⟩ := k
  refine ⟨g ∘ f, List.map_map, fun x => ⟨?_, fun no => ?_⟩⟩
  · have first := (hf x).1
    have second := (hg (f x)).1
    rw [Function.comp_apply]
    generalize f x = y at first second ⊢
    rw [first] at second ⊢
    exact second
  · rw [Function.comp_apply, (hf x).2 no, (hg x).2 no]

theorem regranted_map (may : Share → Prop) (p : Share → Prop) [DecidablePred p] (g : Share → Nat) (xs : List Share)
    (h : ∀ x, p x → may x) : Regranted may xs (xs.map fun x => if p x then { x with grant := g x } else x) := by
  refine ⟨_, rfl, fun x => ⟨?_, fun no => if_neg fun hp => no (h x hp)⟩⟩
  split <;> rfl

theorem Regranted.mem {may : Share → Prop} {xs ys : List Share} (h : Regranted may xs ys) {y : Share} (member : y ∈ ys) :
    ∃ x ∈ xs, y = { x with grant := y.grant } ∧ (¬ may x → y = x) := by
  obtain ⟨f, rfl, hf⟩ := h
  obtain ⟨x, inside, rfl⟩ := List.mem_map.mp member
  exact ⟨x, inside, hf x⟩

theorem fillPasses_regranted (t : Tier) (ptr : OutletId) : ∀ (fuel r : Nat) (xs : List Share),
    Regranted (fun x => x.tier = t) xs (fillPasses fuel t ptr r xs).1
  | 0, _, xs => .refl _ xs
  | fuel + 1, r, xs => by
    have tier : ∀ x : Share, x.inFill t = true → x.tier = t := fun x inside => of_decide_eq_true ((Bool.and_eq_true _ _).mp inside).1
    rw [fillPasses_succ]
    split
    · exact .refl _ xs
    · split
      · exact regranted_map _ _ _ xs tier
      · exact .trans (regranted_map _ _ _ xs fun x full => tier x ((Bool.and_eq_true _ _).mp full).1)
          (fillPasses_regranted t ptr fuel _ _)

theorem fillTier_regranted (ptrs : Vector OutletId 4) (t : Tier) (w : List Share × Nat) :
    Regranted (fun x => x.tier = t) w.1 (fillTier ptrs t w).1 := fillPasses_regranted t _ _ _ _

theorem floorStage_regranted : ∀ (ts : List Tier) (r : Nat) (xs : List Share), Regranted (fun _ => True) xs (floorStage ts r xs).1
  | [], _, xs => .refl _ xs
  | t :: ts, r, xs => by
    simp only [floorStage]
    split
    · exact .trans (regranted_map _ _ _ xs fun _ _ => trivial) (floorStage_regranted ts _ _)
    · exact regranted_map _ _ _ xs fun _ _ => trivial

/-! ## The order of the tiers (R49) -/

/-- No share of a tier holds more than the floor stage owes it. -/
def AtFloor (t : Tier) (xs : List Share) : Prop := ∀ x ∈ xs, x.tier = t → x.grant ≤ x.owed

/-- Where a tier has a member that is short, the later tiers are at their floors. -/
def InOrder (xs : List Share) : Prop := ∀ k m : Tier, k < m → fillMembers k xs = [] ∨ AtFloor m xs

/-- A round after the fills of the tiers before one. -/
structure FilledTo (t : Nat) (w : List Share × Nat) : Prop where
  floors : ∀ m : Tier, t ≤ m.val → AtFloor m w.1
  order : InOrder w.1
  left : w.2 = 0 ∨ ∀ k : Tier, k.val < t → fillMembers k w.1 = []

theorem atFloor_sublist {t : Tier} {xs ys : List Share} (h : AtFloor t xs) (sub : ys.Sublist xs) : AtFloor t ys :=
  fun y member => h y (sub.subset member)

theorem inOrder_sublist {xs ys : List Share} (h : InOrder xs) (sub : ys.Sublist xs) : InOrder ys := fun k m earlier => by
  have members : (fillMembers k ys).Sublist (fillMembers k xs) := sub.filter (Share.inFill k)
  refine (h k m earlier).imp (fun none => ?_) fun floor => atFloor_sublist floor sub
  rw [none] at members
  exact List.sublist_nil.mp members

/-- The fill of another tier leaves a tier's shares alone. -/
theorem Regranted.atFloor {t m : Tier} {xs ys : List Share} (h : Regranted (fun x => x.tier = t) xs ys) (other : m ≠ t)
    (floor : AtFloor m xs) : AtFloor m ys := fun y member tier => by
  obtain ⟨x, inside, shape, kept⟩ := h.mem member
  have same : y.tier = x.tier := by rw [shape]
  have unchanged := kept fun here => other (tier.symm.trans (same.trans here))
  exact unchanged ▸ floor x inside (same ▸ tier)

theorem Regranted.fillMembers {t k : Tier} {xs ys : List Share} (h : Regranted (fun x => x.tier = t) xs ys) (other : k ≠ t)
    (none : fillMembers k xs = []) : fillMembers k ys = [] := by
  rw [fillMembers_eq_nil] at none ⊢
  intro y member tier
  obtain ⟨x, inside, shape, kept⟩ := h.mem member
  have same : y.tier = x.tier := by rw [shape]
  have unchanged := kept fun here => other (tier.symm.trans (same.trans here))
  exact unchanged ▸ none x inside (same ▸ tier)

/-- The fill of the next tier. -/
theorem FilledTo.fill {t : Tier} {w : List Share × Nat} (h : FilledTo t.val w) (ptrs : Vector OutletId 4) :
    FilledTo (t.val + 1) (fillTier ptrs t w) := by
  obtain ⟨floors, order, left⟩ := h
  obtain ⟨xs, r⟩ := w
  rcases left with none | upper
  · rw [fillTier_idle (.inr none)]
    exact ⟨fun m later => floors m (by omega), order, .inl none⟩
  · have change := fillTier_regranted ptrs t (xs, r)
    have ends : (fillTier ptrs t (xs, r)).2 = 0 ∨ fillMembers t (fillTier ptrs t (xs, r)).1 = [] :=
      fillPasses_ends t _ _ r xs (fillMembers_length_lt t xs)
    have higher : ∀ m : Tier, t.val + 1 ≤ m.val → AtFloor m (fillTier ptrs t (xs, r)).1 := fun m later =>
      change.atFloor (fun same => by subst same; omega) (floors m (by omega))
    refine ⟨higher, fun k m earlier => ?_, ends.imp id fun filled k before => ?_⟩
    · have before : k.val < m.val := earlier
      rcases Nat.lt_trichotomy m.val t.val with below | here | above
      · have notK : k ≠ t := fun same => by subst same; omega
        exact .inl (change.fillMembers notK (upper k (by omega)))
      · have notK : k ≠ t := fun same => by subst same; omega
        exact .inl (change.fillMembers notK (upper k (by omega)))
      · exact .inr (higher m above)
    · by_cases here : k = t
      · exact here ▸ filled
      · have before' : k.val < t.val := by
          have differ : k.val ≠ t.val := fun same => here (Fin.ext same)
          omega
        exact change.fillMembers here (upper k before')

/-- After the floor stage every share is at its floor. -/
theorem floorStage_filledTo (r : Nat) (xs : List Share) (start : ∀ x ∈ xs, x.grant = 0) :
    FilledTo 0 ((floorStage [0, 1, 2, 3] r xs).1, (floorStage [0, 1, 2, 3] r xs).2.1) := by
  have floors : ∀ m : Tier, AtFloor m (floorStage [0, 1, 2, 3] r xs).1 := fun m y member _ => by
    rw [floorStage_eq _ r xs (by decide)] at member
    obtain ⟨x, inside, rfl⟩ := List.mem_map.mp member
    unfold flooredBy
    split
    · split
      · exact le_rfl
      · split
        · refine Nat.div_le_of_le_mul ?_
          rw [Nat.mul_comm (owedIn x.tier xs)]
          exact Nat.mul_le_mul_left _ (by omega)
        · rw [start x inside]
          exact Nat.zero_le _
    · rw [start x inside]
      exact Nat.zero_le _
  exact ⟨fun m _ => floors m, fun k m _ => .inr (floors m), .inr fun k none => absurd none (Nat.not_lt_zero _)⟩

/-- A floor stage without capacity leaves the shares with nothing. -/
theorem floorStage_zero {xs : List Share} (start : ∀ x ∈ xs, x.grant = 0) :
    (floorStage [0, 1, 2, 3] 0 xs).1 = xs ∧ (floorStage [0, 1, 2, 3] 0 xs).2.1 = 0 := by
  rw [floorStage_eq _ 0 xs (by decide)]
  refine ⟨?_, Nat.zero_sub _⟩
  refine Eq.trans (List.map_congr_left fun x inside => ?_) (List.map_id xs)
  have nothing := start x inside
  have paid : owedIn x.tier xs = 0 → x.owed = 0 := fun none => by
    have listed : x.owed ∈ (xs.filter fun y => decide (y.tier = x.tier)).map Share.owed :=
      List.mem_map_of_mem (List.mem_filter.mpr ⟨inside, by simp⟩)
    exact Nat.le_zero.mp (none ▸ List.single_le_sum (fun _ _ => Nat.zero_le _) _ listed)
  have same : ∀ g, g = 0 → { x with grant := g } = x := fun g none => by rw [none, ← nothing]
  unfold flooredBy
  split
  · split
    next covered => exact same _ (paid (by omega))
    next =>
      split
      next => exact same _ (by rw [Nat.zero_sub, Nat.mul_zero, Nat.zero_div])
      next => rfl
  · rfl

end Sys2Proof.Machine
end

section
set_option Elab.async false
/-! PROOFS. What a round grants, and to whom (R41, R42, R45, R49). -/

namespace Sys2Proof.Machine

open Sys2Proof.Statements

namespace State

/-! ## The shares of a round -/

/-- Shares that an eligible outlet each entered the round with, but for their grants. -/
def Traces (s : State) (pool : Pool) (xs : List Share) : Prop :=
  ∀ x ∈ xs, s.Eligible pool x.outlet ∧ x = { s.startShare x.outlet with grant := x.grant }

theorem traces_shares (s : State) (pool : Pool) : Traces s pool (s.shares pool) := fun x member => by
  obtain ⟨eligible, start⟩ := (s.mem_shares pool x).mp member
  refine ⟨eligible, start.trans ?_⟩
  rw [show x.grant = 0 by rw [start]; rfl]
  rfl

theorem Traces.regranted {s : State} {pool : Pool} {may : Share → Prop} {xs ys : List Share} (h : Traces s pool xs)
    (k : Regranted may xs ys) : Traces s pool ys := fun y member => by
  obtain ⟨x, inside, shape, -⟩ := k.mem member
  obtain ⟨eligible, start⟩ := h x inside
  have outlet : y.outlet = x.outlet := by rw [shape]
  refine ⟨outlet ▸ eligible, ?_⟩
  rw [start] at shape
  rw [outlet]
  exact shape

theorem Traces.sublist {s : State} {pool : Pool} {xs ys : List Share} (h : Traces s pool xs) (sub : ys.Sublist xs) :
    Traces s pool ys := fun y member => h y (sub.subset member)

theorem Regranted.outlets {may : Share → Prop} {xs ys : List Share} (h : Regranted may xs ys) :
    ys.map Share.outlet = xs.map Share.outlet := by
  obtain ⟨f, rfl, hf⟩ := h
  rw [List.map_map]
  refine List.map_congr_left fun x _ => ?_
  rw [Function.comp_apply, (hf x).1]

theorem mem_shares_outlets (s : State) (pool : Pool) (n : OutletId) : n ∈ (s.shares pool).map Share.outlet ↔ s.Eligible pool n := by
  rw [List.mem_map]
  constructor
  · rintro ⟨x, member, rfl⟩
    exact ((s.mem_shares pool x).mp member).1
  · exact fun eligible => ⟨s.startShare n, (s.mem_shares pool _).mpr ⟨eligible, rfl⟩, rfl⟩

/-- The share of an outlet is found where no outlet has two. -/
theorem find?_share {xs : List Share} (once : (xs.map Share.outlet).Nodup) {x : Share} (member : x ∈ xs) :
    (xs.find? fun y => decide (y.outlet = x.outlet)) = some x := by
  induction xs with
  | nil => exact absurd member List.not_mem_nil
  | cons a l ih =>
    obtain ⟨away, rest⟩ := List.nodup_cons.mp once
    rcases List.mem_cons.mp member with rfl | behind
    · exact List.find?_cons_of_pos (by simp)
    · have differs : a.outlet ≠ x.outlet := fun same => away (same ▸ List.mem_map_of_mem behind)
      rw [List.find?_cons_of_neg (by simpa using differs)]
      exact ih rest behind

theorem waterGrant_of_mem {xs : List Share} (once : (xs.map Share.outlet).Nodup) {x : Share} (member : x ∈ xs) :
    waterGrant xs x.outlet = x.grant := by
  rw [waterGrant, find?_share once member]

theorem waterGrant_of_absent {xs : List Share} {n : OutletId} (absent : ∀ x ∈ xs, x.outlet ≠ n) : waterGrant xs n = 0 := by
  rw [waterGrant, List.find?_eq_none.mpr fun x member => by simpa using absent x member]

theorem steamGrant_of_mem (s : State) {xs : List Share} (once : (xs.map Share.outlet).Nodup) {x : Share} (member : x ∈ xs) :
    s.steamGrant xs x.outlet = x.grant := by
  rw [steamGrant, find?_share once member]

theorem steamGrant_of_absent (s : State) {xs : List Share} {n : OutletId} (absent : ∀ x ∈ xs, x.outlet ≠ n) :
    s.steamGrant xs n = (s.clearedAmount n).getD 0 := by
  rw [steamGrant, List.find?_eq_none.mpr fun x member => by simpa using absent x member]

/-! ## Admission (R40, R104) -/

theorem admitHeads_sublist : ∀ (fuel : Nat) (s : State) (xs : List Share) (r : Nat), (admitHeads fuel s xs r).2.1.Sublist xs
  | 0, _, xs, _ => .refl xs
  | fuel + 1, s, xs, r => by
    cases head : s.headEntry with
    | none => rw [admitHeads_none head]
    | some e =>
      rw [admitHeads_some head]
      split
      · exact (admitHeads_sublist fuel _ _ _).trans List.filter_sublist
      · exact .refl xs

theorem clearEntry_entryOf (s : State) (e : BurstEntry) (n : OutletId) :
    (s.clearEntry e).entryOf n = (s.entryOf n).map fun x => if x.outlet = e.outlet
      then { x with state := .cleared (x.duration * 1000) (s.clearedCount + 1) } else x := by
  rw [entryOf, clearEntry_bursts, List.find?_map, entryOf]
  congr 2
  funext x
  rw [Function.comp_apply]
  split <;> rfl

theorem clearedAmount_ne_none_iff (s : State) (n : OutletId) :
    s.clearedAmount n ≠ none ↔ ∃ e, s.entryOf n = some e ∧ e.isCleared = true := by
  unfold clearedAmount
  cases s.entryOf n with
  | none => simp
  | some e => cases h : e.isCleared <;> simp [h]

/-- A cleared burst stays cleared when another entry is cleared. -/
theorem clearEntry_keeps_cleared (s : State) (e : BurstEntry) {n : OutletId} (cleared : s.clearedAmount n ≠ none) :
    (s.clearEntry e).clearedAmount n ≠ none := by
  obtain ⟨x, entry, state⟩ := (clearedAmount_ne_none_iff s n).mp cleared
  refine (clearedAmount_ne_none_iff _ n).mpr ⟨_, by rw [clearEntry_entryOf, entry, Option.map_some], ?_⟩
  split
  · rfl
  · exact state

theorem clearEntry_clears {s : State} {e : BurstEntry} (head : s.headEntry = some e) : (s.clearEntry e).clearedAmount e.outlet ≠ none := by
  have listed : (s.entryOf e.outlet).isSome = true :=
    List.find?_isSome.mpr ⟨e, List.mem_of_find?_eq_some head, by simp⟩
  obtain ⟨x, entry⟩ := Option.isSome_iff_exists.mp listed
  refine (clearedAmount_ne_none_iff _ _).mpr ⟨_, by rw [clearEntry_entryOf, entry, Option.map_some], ?_⟩
  rw [if_pos (entryOf_outlet entry)]
  rfl

theorem admitHeads_keeps_cleared {n : OutletId} : ∀ (fuel : Nat) (s : State) (xs : List Share) (r : Nat),
    s.clearedAmount n ≠ none → (admitHeads fuel s xs r).1.clearedAmount n ≠ none
  | 0, _, _, _, cleared => cleared
  | fuel + 1, s, xs, r, cleared => by
    cases head : s.headEntry with
    | none => rw [admitHeads_none head]; exact cleared
    | some e =>
      rw [admitHeads_some head]
      split
      · exact admitHeads_keeps_cleared fuel _ _ _ (s.clearEntry_keeps_cleared e cleared)
      · exact cleared

/-- An outlet loses its share at the admission of its burst alone. -/
theorem admitHeads_keeps_share {n : OutletId} : ∀ (fuel : Nat) (s : State) (xs : List Share) (r : Nat),
    n ∈ xs.map Share.outlet → (admitHeads fuel s xs r).1.clearedAmount n = none →
    n ∈ (admitHeads fuel s xs r).2.1.map Share.outlet
  | 0, _, _, _, member, _ => member
  | fuel + 1, s, xs, r, member, free => by
    cases head : s.headEntry with
    | none => rw [admitHeads_none head]; exact member
    | some e =>
      rw [admitHeads_some head] at free ⊢
      split
      next fits =>
        rw [if_pos fits] at free
        have other : n ≠ e.outlet := fun same =>
          admitHeads_keeps_cleared fuel _ _ _ (same ▸ clearEntry_clears head) free
        refine admitHeads_keeps_share fuel _ _ _ ?_ free
        obtain ⟨x, inside, rfl⟩ := List.mem_map.mp member
        exact List.mem_map_of_mem (List.mem_filter.mpr ⟨inside, by simpa using other⟩)
      next => exact member

/-- Without capacity admission gives nothing back. -/
theorem admitHeads_nothing : ∀ (fuel : Nat) (s : State) (xs : List Share), (∀ x ∈ xs, x.grant = 0) →
    (admitHeads fuel s xs 0).2.2 = 0
  | 0, _, _, _ => rfl
  | fuel + 1, s, xs, start => by
    cases head : s.headEntry with
    | none => rw [admitHeads_none head]
    | some e =>
      have back : givenBack xs e = 0 := List.sum_eq_zero fun g listed => by
        obtain ⟨x, inside, rfl⟩ := List.mem_map.mp listed
        exact start x (List.mem_filter.mp inside).1
      rw [admitHeads_some head, back, Nat.zero_add, Nat.zero_sub]
      split
      · exact admitHeads_nothing fuel _ _ fun x inside => start x (List.mem_filter.mp inside).1
      · rfl

/-! ## The stages of a steam round (R37, R39 to R41) -/

/-- The floor stage and the fills of tiers 0 and 1. -/
def upperStages (s : State) (u : Nat) : List Share × Nat :=
  let fl := floorStage [0, 1, 2, 3] u (s.shares .steam)
  fillTier s.steam.pointers 1 (fillTier s.steam.pointers 0 (fl.1, fl.2.1))

/-- The reservation of the cleared bursts. -/
def reservation (s : State) (r : Nat) : State := revokeUntilFits s.lockoutRevocation.bursts.length r s.lockoutRevocation

/-- The reservation and the admission. -/
def burstStages (s : State) (w : List Share × Nat) : State × List Share × Nat :=
  admitHeads (s.reservation w.2).bursts.length (s.reservation w.2) w.1 (w.2 - (s.reservation w.2).clearedTotal)

/-- The fills of tiers 2 and 3, where the tiers above hold their demand. -/
def lowerStages (ptrs : Vector OutletId 4) (w : List Share × Nat) : List Share × Nat :=
  if w.1.all (fun x => decide (2 ≤ x.tier.val ∨ x.demand ≤ x.grant)) then fillTier ptrs 3 (fillTier ptrs 2 w) else w

theorem fillTier_nothing (ptrs : Vector OutletId 4) (t : Tier) (xs : List Share) : fillTier ptrs t (xs, 0) = (xs, 0) :=
  fillTier_idle (.inr rfl)

theorem upperStages_zero (s : State) : s.upperStages 0 = (s.shares .steam, 0) := by
  obtain ⟨shares, left⟩ := floorStage_zero (s.shares_grant .steam)
  rw [upperStages, shares, left, fillTier_nothing, fillTier_nothing]

/-- The stages of a steam round, as the statements name them. -/
theorem steamStages_eq (s : State) (u : Nat) :
    (s.steamStages u).1 = (s.burstStages (s.upperStages u)).1 ∧
    (s.steamStages u).2.1 = (lowerStages s.steam.pointers (s.burstStages (s.upperStages u)).2).1 ∧
    (u ≠ 0 → (s.steamStages u).2.2 = (floorStage [0, 1, 2, 3] u (s.shares .steam)).2.2) := by
  by_cases none : u = 0
  · subst none
    have left : (s.burstStages (s.shares .steam, 0)).2.2 = 0 := by
      rw [burstStages, Nat.zero_sub]
      exact admitHeads_nothing _ _ _ (s.shares_grant .steam)
    rw [upperStages_zero]
    refine ⟨rfl, ?_, fun some => absurd rfl some⟩
    have idle : lowerStages s.steam.pointers (s.burstStages (s.shares .steam, 0)).2 = (s.burstStages (s.shares .steam, 0)).2 := by
      generalize (s.burstStages (s.shares .steam, 0)).2 = w at left ⊢
      obtain ⟨xs, r⟩ := w
      subst left
      rw [lowerStages, fillTier_nothing, fillTier_nothing, ite_self]
    rw [idle]
    rfl
  · have met : ∀ xs : List Share, upperTiersMet xs = xs.all fun x => decide (2 ≤ x.tier.val ∨ x.demand ≤ x.grant) := fun xs => by
      simp only [upperTiersMet, Bool.decide_or]
    simp only [steamStages, burstStages, reservation, upperStages, lowerStages, met, ne_eq, none, not_false_eq_true,
      true_and, implies_true, and_true, if_false, Prod.mk.eta]
    rfl

end State

end Sys2Proof.Machine
end

section
set_option Elab.async false
/-! PROOFS. The grants of the two rounds (R37, R41 to R45, R49). -/

namespace Sys2Proof.Machine

open Sys2Proof.Statements

namespace State

/-! ## The stages of both rounds (R41, R43, R49) -/

theorem regranted_weaken {may : Share → Prop} {xs ys : List Share} (h : Regranted may xs ys) : Regranted (fun _ => True) xs ys := by
  obtain ⟨f, shape, hf⟩ := h
  exact ⟨f, shape, fun x => ⟨(hf x).1, fun no => absurd trivial no⟩⟩

theorem upperStages_spec (s : State) (u : Nat) :
    Regranted (fun _ => True) (s.shares .steam) (s.upperStages u).1 ∧ FilledTo 2 (s.upperStages u) := by
  have floors := floorStage_filledTo u (s.shares .steam) (s.shares_grant .steam)
  constructor
  · exact ((floorStage_regranted _ _ _).trans (regranted_weaken (fillTier_regranted _ 0 _))).trans
      (regranted_weaken (fillTier_regranted _ 1 _))
  · exact (floors.fill (t := 0) s.steam.pointers).fill (t := 1) s.steam.pointers

theorem lowerStages_regranted (ptrs : Vector OutletId 4) (w : List Share × Nat) :
    Regranted (fun _ => True) w.1 (lowerStages ptrs w).1 := by
  unfold lowerStages
  split
  · exact (regranted_weaken (fillTier_regranted _ 2 _)).trans (regranted_weaken (fillTier_regranted _ 3 _))
  · exact .refl _ _

/-- The fills of tiers 2 and 3 keep the order of the tiers. -/
theorem lowerStages_inOrder {ptrs : Vector OutletId 4} {w : List Share × Nat} (floors : ∀ m : Tier, 2 ≤ m.val → AtFloor m w.1)
    (order : InOrder w.1) : InOrder (lowerStages ptrs w).1 := by
  unfold lowerStages
  split
  next met =>
    have upper : ∀ k : Tier, k.val < 2 → fillMembers k w.1 = [] := fun k high => by
      rw [fillMembers_eq_nil]
      intro x member tier
      have held := of_decide_eq_true (List.all_eq_true.mp met x member)
      exact held.resolve_left (by rw [tier]; omega)
    have start : FilledTo (2 : Tier).val w := ⟨floors, order, .inr upper⟩
    exact ((start.fill (t := 2) ptrs).fill (t := 3) ptrs).order
  next => exact order

/-- The shares at the end of a steam round. -/
def steamEnd (s : State) (u : Nat) : List Share := (lowerStages s.steam.pointers (s.burstStages (s.upperStages u)).2).1

theorem burstStages_sublist (s : State) (w : List Share × Nat) : (s.burstStages w).2.1.Sublist w.1 := admitHeads_sublist _ _ _ _

theorem steamEnd_spec (s : State) (u : Nat) :
    Traces s .steam (s.steamEnd u) ∧ ((s.steamEnd u).map Share.outlet).Nodup ∧ InOrder (s.steamEnd u) ∧
    ∀ n, s.Eligible .steam n → (s.burstStages (s.upperStages u)).1.clearedAmount n = none →
      n ∈ (s.steamEnd u).map Share.outlet := by
  obtain ⟨upper, filled⟩ := s.upperStages_spec u
  have sub := s.burstStages_sublist (s.upperStages u)
  have lower := lowerStages_regranted s.steam.pointers (s.burstStages (s.upperStages u)).2
  refine ⟨(((s.traces_shares .steam).regranted upper).sublist sub).regranted lower, ?_,
    lowerStages_inOrder (fun m low => atFloor_sublist (filled.floors m low) sub) (inOrder_sublist filled.order sub),
    fun n eligible free => ?_⟩
  · rw [steamEnd, Regranted.outlets lower]
    refine List.Nodup.sublist (sub.map _) ?_
    rw [Regranted.outlets upper]
    exact s.shares_outlets_nodup .steam
  · rw [steamEnd, Regranted.outlets lower]
    refine admitHeads_keeps_share _ _ _ _ ?_ free
    rw [Regranted.outlets upper]
    exact (s.mem_shares_outlets .steam n).mpr eligible

/-- The floor stage and the fills of a water round. -/
def waterEnd (s : State) (u : Nat) : List Share :=
  let fl := floorStage [0, 1, 2, 3] u (s.shares .water)
  let p := s.water.pointers
  (fillTier p 3 (fillTier p 2 (fillTier p 1 (fillTier p 0 (fl.1, fl.2.1))))).1

theorem waterStages_eq (s : State) (u : Nat) :
    (s.waterStages u).1 = s.waterEnd u ∧ (u ≠ 0 → (s.waterStages u).2 = (floorStage [0, 1, 2, 3] u (s.shares .water)).2.2) := by
  by_cases none : u = 0
  · subst none
    obtain ⟨shares, left⟩ := floorStage_zero (s.shares_grant .water)
    refine ⟨?_, fun some => absurd rfl some⟩
    rw [waterStages_zero, waterEnd, shares, left, fillTier_nothing, fillTier_nothing, fillTier_nothing, fillTier_nothing]
  · simp only [waterStages, waterEnd, none, if_false, ne_eq, not_false_eq_true, true_and, implies_true]

theorem waterEnd_spec (s : State) (u : Nat) :
    Traces s .water (s.waterEnd u) ∧ ((s.waterEnd u).map Share.outlet).Nodup ∧ InOrder (s.waterEnd u) ∧
    ∀ n, s.Eligible .water n → n ∈ (s.waterEnd u).map Share.outlet := by
  have floors := floorStage_filledTo u (s.shares .water) (s.shares_grant .water)
  have change : Regranted (fun _ => True) (s.shares .water) (s.waterEnd u) :=
    ((((floorStage_regranted _ _ _).trans (regranted_weaken (fillTier_regranted _ 0 _))).trans
      (regranted_weaken (fillTier_regranted _ 1 _))).trans (regranted_weaken (fillTier_regranted _ 2 _))).trans
      (regranted_weaken (fillTier_regranted _ 3 _))
  refine ⟨(s.traces_shares .water).regranted change, ?_,
    ((((floors.fill (t := 0) s.water.pointers).fill (t := 1) s.water.pointers).fill (t := 2) s.water.pointers).fill (t := 3)
      s.water.pointers).order, fun n eligible => ?_⟩
  · rw [Regranted.outlets change]
    exact s.shares_outlets_nodup .water
  · rw [Regranted.outlets change]
    exact (s.mem_shares_outlets .water n).mpr eligible

/-- The order of the tiers at the close follows from that of the shares. -/
theorem tiersInOrder_of {s r t : State} {pool : Pool} {w : List Share} (order : InOrder w) (traces : Traces r pool w)
    (grants : ∀ x ∈ w, (t.outlet x.outlet).grant = x.grant)
    (members : ∀ n, (s.outlet n).struct.pool = pool → (s.outlet n).condition = .active → s.clearedAmount n = none →
      t.clearedAmount n = none → n ∈ w.map Share.outlet)
    (limits : ∀ n, (r.outlet n).limits = (s.outlet n).limits) (profile : r.profile = s.profile)
    (demands : ∀ n, (t.outlet n).demand = (r.outlet n).demand) : TiersInOrder s t pool := by
  intro n m eligible earlier short
  obtain ⟨poolN, activeN, beforeN, afterN⟩ := eligible n (.inl rfl)
  obtain ⟨poolM, activeM, beforeM, afterM⟩ := eligible m (.inr rfl)
  obtain ⟨x, inside, rfl⟩ := List.mem_map.mp (members n poolN activeN beforeN afterN)
  obtain ⟨y, listed, rfl⟩ := List.mem_map.mp (members m poolM activeM beforeM afterM)
  have startX := (traces x inside).2
  have startY := (traces y listed).2
  have tierX : x.tier = (s.outlet x.outlet).limits.tiers[s.profile] := by
    rw [startX]
    simp only [startShare, limits, profile]
  have tierY : y.tier = (s.outlet y.outlet).limits.tiers[s.profile] := by
    rw [startY]
    simp only [startShare, limits, profile]
  have demandX : x.demand = (t.outlet x.outlet).demand := by rw [startX, demands]; rfl
  have owed : y.owed = min (s.outlet y.outlet).limits.floor (t.outlet y.outlet).demand := by
    rw [startY, demands, ← limits]
    rfl
  rw [← tierX, ← tierY] at earlier
  rw [grants x inside, ← demandX] at short
  rw [grants y listed, ← owed]
  have member : x ∈ fillMembers x.tier w := List.mem_filter.mpr ⟨inside, by simp [Share.inFill, short]⟩
  rcases order x.tier y.tier earlier with none | floor
  · rw [none] at member
    exact absurd member List.not_mem_nil
  · exact floor y listed rfl

theorem roundOutcome_of {u : Nat} {flag flag' : Bool} (same : u ≠ 0 → flag = flag') :
    roundOutcome u flag = if u = 0 then .noCapacity else if flag' then .floorOverload else .normal := by
  unfold roundOutcome
  by_cases none : u = 0
  · rw [if_pos none, if_pos none]
  · rw [if_neg none, if_neg none, same none]

theorem shares_congr {s t : State} {pool : Pool} (profile : t.profile = s.profile) (bursts : t.bursts = s.bursts)
    (outlets : ∀ n, (t.outlet n).struct = (s.outlet n).struct ∧ (t.outlet n).condition = (s.outlet n).condition ∧
      (t.outlet n).demand = (s.outlet n).demand ∧ (t.outlet n).limits = (s.outlet n).limits) : t.shares pool = s.shares pool := by
  have amounts : ∀ n, t.clearedAmount n = s.clearedAmount n := fun n => by rw [clearedAmount, clearedAmount, entryOf, entryOf, bursts]
  unfold shares
  congr 1
  funext n
  obtain ⟨struct, condition, demand, limits⟩ := outlets n
  dsimp only
  rw [struct, condition, demand, limits, amounts]
  simp only [profile]

end State

/-- Settles O41 (R32 to R35, R37, R39 to R45, R49): the stages of each round, the close handing out what they give. -/
theorem roundsGrantByTheirStages : Obligations.RoundsGrantByTheirStages := by
  intro s kept
  refine ⟨fun holder => ⟨s.runSteamRound.release, exec_steamRound holder, ?_⟩,
    fun holder => ⟨s.runWaterRound.release, exec_waterRound holder, ?_⟩⟩
  · obtain ⟨-, steam, bursts, units, -, -⟩ := s.runSteamRound_spec
    obtain ⟨-, inputs, -⟩ := s.steamInput_spec
    obtain ⟨-, recharged, -⟩ := s.rechargeStage_spec
    obtain ⟨stages, shares, flag⟩ := s.rechargeStage.steamStages_eq s.steamUsable
    obtain ⟨traces, once, order, members⟩ := s.rechargeStage.steamEnd_spec s.steamUsable
    have input : s.steamInput = (s.rechargeStage.burstStages (s.rechargeStage.upperStages s.steamUsable)).1 := stages
    have granted : ∀ n, s.steamGrantOf n = s.steamInput.steamGrant (s.rechargeStage.steamEnd s.steamUsable) n := fun n => by
      rw [State.steamGrantOf, shares]
      rfl
    have fits := State.revokeUntilFits_fits _ (s.rechargeStage.upperStages s.steamUsable).2 s.rechargeStage.lockoutRevocation le_rfl
    have same : ∀ n, (s.rechargeStage.outlet n).struct = (s.outlet n).struct ∧
        (s.rechargeStage.outlet n).condition = (s.outlet n).condition ∧
        (s.rechargeStage.outlet n).limits = (s.outlet n).limits := fun n => by
      rw [recharged, State.rechargeOutlet_eq]
      exact ⟨rfl, rfl, rfl⟩
    have lastU : s.runSteamRound.release.steam.lastU = s.steamUsable := s.runSteamRound_lastU
    have outcome : s.runSteamRound.release.steam.outcome = roundOutcome s.steamUsable (s.rechargeStage.steamStages s.steamUsable).2.2 :=
      (congrArg SteamPool.outcome steam :)
    have released : s.runSteamRound.release = { s.runSteamRound with arbiter := { s.runSteamRound.arbiter with holder := none } } := rfl
    generalize s.runSteamRound.release = t at *
    generalize s.runSteamRound = v at *
    have outlet : ∀ n, t.outlet n = v.outlet n := fun n => (congrArg (State.outlet · n) released :)
    have listed : t.bursts = s.steamInput.bursts := (congrArg State.bursts released :).trans bursts
    have amount : ∀ n, t.clearedAmount n = s.steamInput.clearedAmount n := fun n => by
      rw [State.clearedAmount, State.clearedAmount, State.entryOf, State.entryOf, listed]
    have grant : ∀ n, (s.outlet n).struct.pool = .steam → (t.outlet n).grant = s.steamGrantOf n := fun n pool => by
      rw [outlet, (units n).1, State.closedOutlet, if_pos (by rw [(inputs n).1, State.rechargeOutlet_eq]; exact pool)]
    have demand : ∀ n, (t.outlet n).demand = (s.rechargeStage.outlet n).demand := fun n => by
      rw [outlet, (units n).1, State.closedOutlet_eq, recharged, (inputs n).1]
    have finals : ∀ x ∈ s.rechargeStage.steamEnd s.steamUsable, (t.outlet x.outlet).grant = x.grant := fun x inside => by
      have pool : (s.outlet x.outlet).struct.pool = .steam := (same x.outlet).1 ▸ (traces x inside).1.1
      rw [grant x.outlet pool, granted, State.steamGrant_of_mem _ once inside]
    dsimp only
    rw [lastU]
    refine ⟨fits, ?_, ?_, finals, fun n pool absent => ?_, ?_⟩
    · rw [listed, input]
      rfl
    · rw [outcome]
      exact State.roundOutcome_of flag
    · rw [grant n pool, granted, amount]
      exact State.steamGrant_of_absent _ absent
    · refine State.tiersInOrder_of order traces finals (fun n pool active before after => ?_) (fun n => (same n).2.2) rfl demand
      rw [amount, input] at after
      refine members n ⟨(same n).1 ▸ pool, (same n).2.1 ▸ active, fun _ => ?_⟩ after
      exact before
  · obtain ⟨-, water, -, outlets, -, -⟩ := s.runWaterRound_spec
    obtain ⟨input, -, trimmed, -⟩ := s.waterInput_spec
    have pointers : s.waterInput.water = s.water := (congrArg State.water input :)
    have shares : s.waterInput.shares .water = s.shares .water :=
      State.shares_congr (congrArg State.profile input :) (congrArg State.bursts input :) fun n => by
        rw [trimmed, State.trimmedBy_eq]
        exact ⟨rfl, rfl, rfl, rfl⟩
    have stages : s.waterInput.waterStages (s.water.flow * s.derate / 100) = s.waterStages (s.water.flow * s.derate / 100) := by
      unfold State.waterStages
      rw [shares, pointers]
    obtain ⟨ends, flag⟩ := s.waterStages_eq (s.water.flow * s.derate / 100)
    obtain ⟨traces, once, order, members⟩ := s.waterEnd_spec (s.water.flow * s.derate / 100)
    have granted : ∀ n, s.waterGrantOf n = State.waterGrant (s.waterEnd (s.water.flow * s.derate / 100)) n := fun n => by
      rw [State.waterGrantOf, stages, ends]
    have lastU : s.runWaterRound.release.water.lastUsable = s.water.flow * s.derate / 100 := (congrArg WaterPool.lastUsable water :)
    have outcome : s.runWaterRound.release.water.outcome = roundOutcome (s.water.flow * s.derate / 100)
        (s.waterStages (s.water.flow * s.derate / 100)).2 := by
      rw [← stages]
      exact (congrArg WaterPool.outcome water :)
    have released : s.runWaterRound.release = { s.runWaterRound with arbiter := { s.runWaterRound.arbiter with holder := none } } := rfl
    generalize s.runWaterRound.release = t at *
    generalize s.runWaterRound = v at *
    have outlet : ∀ n, t.outlet n = v.outlet n := fun n => (congrArg (State.outlet · n) released :)
    have grant : ∀ n, (s.outlet n).struct.pool = .water → (t.outlet n).grant = s.waterGrantOf n := fun n pool => by
      rw [outlet, outlets, State.closedOutlet, if_pos (by rw [State.trimmedBy_struct, pool])]
    have demand : ∀ n, (t.outlet n).demand = (s.outlet n).demand := fun n => by
      rw [outlet, outlets, State.closedOutlet_eq, State.trimmedBy_eq]
    have finals : ∀ x ∈ s.waterEnd (s.water.flow * s.derate / 100), (t.outlet x.outlet).grant = x.grant := fun x inside => by
      rw [grant x.outlet (traces x inside).1.1, granted, State.waterGrant_of_mem once inside]
    dsimp only
    rw [lastU]
    refine ⟨?_, finals, fun n pool absent => ?_, ?_⟩
    · rw [outcome]
      exact State.roundOutcome_of flag
    · rw [grant n pool, granted]
      exact State.waterGrant_of_absent absent
    · refine State.tiersInOrder_of order traces finals (fun n pool active before _ => ?_) (fun _ => rfl) rfl demand
      exact members n ⟨pool, active, fun _ => before⟩

end Sys2Proof.Machine
end

section
set_option Elab.async false
/-! PROOFS. A port's line (its receiver, its link and what is outstanding) and the operations that do not look at it: they commute with writing it, so they leave it as it is (R137, R139, R148). -/

namespace Sys2Proof.Machine

open Sys2Proof.Statements

/-- A rewriting of a port's line: another receiver and, where given, another link and another outstanding command. -/
structure Line where
  receiver : Receiver
  link : Option Link
  outstanding : Option (Option Outstanding)

/-- A port unit with its line rewritten. -/
def Line.put (v : Line) (u : PortUnit) : PortUnit :=
  { u with receiver := v.receiver, link := v.link.getD u.link, outstanding := v.outstanding.getD u.outstanding }

/-- The rewriting that leaves a port unit as it is. -/
def Line.of (u : PortUnit) : Line := { receiver := u.receiver, link := some u.link, outstanding := some u.outstanding }

/-- A rewriting of the receiver alone. -/
def Line.receiving (r : Receiver) : Line := { receiver := r, link := none, outstanding := none }

/-- A rewriting changes at most the receiver of a port unit. -/
def Line.Fits (v : Line) (u : PortUnit) : Prop := (v.put u).link = u.link ∧ (v.put u).outstanding = u.outstanding

theorem Line.receiving_fits (r : Receiver) (u : PortUnit) : (Line.receiving r).Fits u := ⟨rfl, rfl⟩

theorem Line.of_fits (u : PortUnit) : (Line.of u).Fits u := ⟨rfl, rfl⟩

theorem Line.Fits.congr {v : Line} {u w : PortUnit} (h : v.Fits u) (link : w.link = u.link) (out : w.outstanding = u.outstanding) :
    v.Fits w := by
  obtain ⟨fitsLink, fitsOut⟩ := h
  unfold Line.Fits Line.put at *
  dsimp only at *
  rw [link, out]
  exact ⟨fitsLink, fitsOut⟩

namespace State

/-- A state with the line of a port rewritten. -/
def relined (s : State) (p : Port) (v : Line) : State := s.modPort p v.put

theorem relined_of (s : State) (p : Port) : s.relined p (.of (s.port p)) = s := by
  have same : s.ports.set p.val (s.ports[p.val]) = s.ports := Vector.set_getElem_self _
  exact congrArg (fun ports => { s with ports := ports }) same

theorem relined_port (s : State) (p q : Port) (v : Line) :
    (s.relined p v).port q = if q = p then v.put (s.port p) else s.port q := modPort_port s p q v.put

theorem relined_config (s : State) (p q : Port) (v : Line) : ((s.relined p v).port q).config = (s.port q).config := by
  rw [relined_port]
  split
  next own => rw [own]; rfl
  next => rfl

theorem relined_flags (s : State) (p q : Port) (v : Line) : ((s.relined p v).port q).flags = (s.port q).flags := by
  rw [relined_port]
  split
  next own => rw [own]; rfl
  next => rfl

theorem relined_link (s : State) {p : Port} {v : Line} (fits : v.Fits (s.port p)) (q : Port) :
    ((s.relined p v).port q).link = (s.port q).link := by
  rw [relined_port]
  split
  next own => rw [own, fits.1]
  next => rfl

theorem relined_outstanding (s : State) {p : Port} {v : Line} (fits : v.Fits (s.port p)) (q : Port) :
    ((s.relined p v).port q).outstanding = (s.port q).outstanding := by
  rw [relined_port]
  split
  next own => rw [own, fits.2]
  next => rfl

/-! ## Operations that leave lines alone -/

/-- An operation that does not look at the line of a port and leaves it as it is. -/
def LineBlind (f : State → State) : Prop := ∀ (p : Port) (v : Line) (s : State), f (s.relined p v) = (f s).relined p v

/-- The same where the rewriting changes the receiver alone: the operation may look at links and outstanding commands. -/
def ReceiverBlind (f : State → State) : Prop :=
  ∀ (p : Port) (v : Line) (s : State), v.Fits (s.port p) → f (s.relined p v) = (f s).relined p v

theorem LineBlind.receiver {f : State → State} (h : LineBlind f) : ReceiverBlind f := fun p v s _ => h p v s

/-- Such an operation leaves every link and outstanding command. -/
theorem ReceiverBlind.keeps {f : State → State} (h : ReceiverBlind f) (s : State) (p : Port) :
    ((f s).port p).link = (s.port p).link ∧ ((f s).port p).outstanding = (s.port p).outstanding := by
  have same := h p (.of (s.port p)) s (Line.of_fits _)
  rw [relined_of] at same
  have own : (f s).port p = (Line.of (s.port p)).put ((f s).port p) := by
    refine (congrArg (State.port · p) same :).trans ((relined_port (f s) p p _).trans (if_pos rfl))
  rw [own]
  exact ⟨rfl, rfl⟩

theorem ReceiverBlind.fits {f : State → State} (h : ReceiverBlind f) {s : State} {p : Port} {v : Line} (fits : v.Fits (s.port p)) :
    v.Fits ((f s).port p) := fits.congr (h.keeps s p).1 (h.keeps s p).2

theorem LineBlind.comp {f g : State → State} (hf : LineBlind f) (hg : LineBlind g) : LineBlind fun s => f (g s) :=
  fun p v s => (congrArg f (hg p v s)).trans (hf p v (g s))

theorem ReceiverBlind.comp {f g : State → State} (hf : ReceiverBlind f) (hg : ReceiverBlind g) : ReceiverBlind fun s => f (g s) :=
  fun p v s fits => (congrArg f (hg p v s fits)).trans (hf p v (g s) (hg.fits fits))

theorem LineBlind.foldl {ι : Type*} {f : ι → State → State} (h : ∀ i, LineBlind (f i)) : ∀ l : List ι,
    LineBlind fun s => l.foldl (fun t i => f i t) s
  | [] => fun _ _ _ => rfl
  | i :: l => fun p v s => (congrArg (fun t => l.foldl (fun t i => f i t) t) (h i p v s)).trans (LineBlind.foldl h l p v (f i s))

theorem LineBlind.forOutlets {f : OutletId → State → State} (h : ∀ n, LineBlind (f n)) : LineBlind fun s => s.forOutlets f :=
  LineBlind.foldl h _

/-- States that differ in no port and, beside the ports, in nothing. -/
theorem eq_of_ports {s t : State} (frame : s = { t with ports := s.ports }) (ports : ∀ q, s.port q = t.port q) : s = t := by
  have same : s.ports = t.ports := Vector.ext fun i h => ports ⟨i, h⟩
  rw [frame, same]

theorem modPort_relined (s : State) (p q : Port) (v : Line) (f : PortUnit → PortUnit)
    (h : q = p → f (v.put (s.port p)) = v.put (f (s.port p))) : (s.relined p v).modPort q f = (s.modPort q f).relined p v := by
  refine eq_of_ports rfl fun r => ?_
  rw [modPort_port, relined_port, relined_port, relined_port, modPort_port, modPort_port]
  by_cases own : r = q
  · subst own
    by_cases here : r = p
    · subst here
      simp only [if_true]
      exact h rfl
    · simp only [if_true, if_neg here]
  · by_cases here : r = p
    · subst here
      simp only [if_true, if_neg own]
    · simp only [if_neg own, if_neg here]

/-- An operation on a port unit that leaves its line leaves the line of every port. -/
theorem modPort_lineBlind {f : PortUnit → PortUnit} (h : ∀ (v : Line) (u : PortUnit), f (v.put u) = v.put (f u)) (q : Port) :
    LineBlind fun s => s.modPort q f := fun p v s => s.modPort_relined p q v f fun _ => h v _

theorem modPort_blind {f : PortUnit → PortUnit} (h : ∀ (v : Line) (u : PortUnit), v.Fits u → f (v.put u) = v.put (f u)) (q : Port) :
    ReceiverBlind fun s => s.modPort q f := fun p v s fits => s.modPort_relined p q v f fun _ => h v _ fits

theorem mapPorts_lineBlind {f : State → Port → PortUnit → PortUnit} (same : ∀ p v s, f (s.relined p v) = f s)
    (h : ∀ s q (v : Line) u, f s q (v.put u) = v.put (f s q u)) : LineBlind fun s => s.mapPorts (f s) := fun p v s => by
  refine eq_of_ports rfl fun r => ?_
  change ((s.relined p v).mapPorts (f (s.relined p v))).port r = ((s.mapPorts (f s)).relined p v).port r
  rw [same, mapPorts_port, relined_port, relined_port, mapPorts_port, mapPorts_port]
  by_cases here : r = p
  · rw [if_pos here, if_pos here, ← here]
    exact h s r v _
  · rw [if_neg here, if_neg here]

end State

end Sys2Proof.Machine
end

section
set_option Elab.async false
/-! PROOFS. The records' operations leave the lines of the ports alone. -/

namespace Sys2Proof.Machine

open Sys2Proof.Statements

namespace State

theorem LineBlind.ite {c : State → Prop} [∀ s, Decidable (c s)] {f g : State → State}
    (same : ∀ p v s, c (s.relined p v) ↔ c s) (hf : LineBlind f) (hg : LineBlind g) :
    LineBlind fun s => if c s then f s else g s := fun p v s => by
  refine (if_congr (same p v s) (hf p v s) (hg p v s)).trans ?_
  exact (apply_ite (relined · p v) (c s) (f s) (g s)).symm

theorem id_lineBlind : LineBlind fun s => s := fun _ _ _ => rfl

/-! ## Events (R151, R152) -/

theorem relined_rights (s : State) (p q : Port) (v : Line) (n : OutletId) : (s.relined p v).rights q n = s.rights q n :=
  rights_congr (s.relined_config p q v) rfl rfl

theorem relined_globals (s : State) (p q : Port) (v : Line) : (s.relined p v).globals q = s.globals q :=
  congrArg PortConfig.globalRights (s.relined_config p q v)

theorem postTo_lineBlind (q : Port) (e : Event) : LineBlind fun s => s.postTo q e := modPort_lineBlind (fun _ _ => rfl) q

theorem postAll_lineBlind (e : Event) : LineBlind fun s => s.postAll e :=
  mapPorts_lineBlind (f := fun _ _ u => { u with flags := u.flags.post e }) (fun _ _ _ => rfl) fun _ _ _ _ => rfl

theorem postOutlet_lineBlind (n : OutletId) (e : Event) : LineBlind fun s => s.postOutlet n e :=
  mapPorts_lineBlind (f := fun s q u => if (s.rights q n).read then { u with flags := u.flags.post e } else u)
    (fun p v s => funext fun q => funext fun u => by rw [relined_rights]) fun s q v u => by
      split <;> rfl

/-! ## Grants and bursts (R10, R107, R112 to R114) -/

theorem enforceEffective_lineBlind (n : OutletId) : LineBlind fun s => s.enforceEffective n :=
  .ite (fun _ _ _ => Iff.rfl) (fun _ _ _ => rfl) id_lineBlind

theorem removeEntry_lineBlind (n : OutletId) (notice : BurstEntry → Event) : LineBlind fun s => s.removeEntry n notice := fun p v s => by
  cases entry : s.entryOf n with
  | none =>
    have same : (s.relined p v).entryOf n = none := entry
    exact (removeEntry_none _ n notice same).trans (congrArg (relined · p v) (removeEntry_none s n notice entry).symm)
  | some e =>
    have same : (s.relined p v).entryOf n = some e := entry
    simp only [removeEntry, entry, same]
    exact (postTo_lineBlind e.requester (notice e)).comp
      (.ite (c := fun _ => e.isCleared = true) (fun _ _ _ => Iff.rfl) (enforceEffective_lineBlind n) id_lineBlind) p v
      (({ s with bursts := dropEntry s.bursts e } : State).modOutlet n fun o => { o with burstRef := false })

theorem revokeWhere_lineBlind (pick : BurstEntry → Bool) (c : BurstCause) : LineBlind fun s => s.revokeWhere pick c := fun p v s =>
  LineBlind.foldl (f := fun (e : BurstEntry) t => t.removeEntry e.outlet (revoked c)) (fun e => removeEntry_lineBlind e.outlet _)
    (s.bursts.filter pick) p v s

theorem emptyBursts_lineBlind : LineBlind emptyBursts := fun p v s =>
  congrArg (fun t => t.modArbiter fun a => { a with removals := [] }) (revokeWhere_lineBlind (fun _ => true) .reset p v s)

theorem writeLimits_lineBlind (n : OutletId) (l : Limits) : LineBlind fun s => s.writeLimits n l := by
  refine (enforceEffective_lineBlind n).comp (g := fun s => _) ?_
  exact .ite (fun _ _ _ => Iff.rfl) (fun _ _ _ => rfl) fun _ _ _ => rfl

/-! ## Drive (R119, R124, R130 to R132, R136) -/

theorem restartSettle_lineBlind (b : Option BranchId) : LineBlind fun s => s.restartSettle b := fun _ _ _ => by
  cases b <;> rfl

theorem turnOffNow_lineBlind (n : OutletId) : LineBlind fun s => s.turnOffNow n := fun p v s =>
  LineBlind.ite (c := fun _ => (s.channel n).applied = 0) (fun _ _ _ => Iff.rfl) id_lineBlind
    (restartSettle_lineBlind (s.channel n).inUse.branch) p v ((s.modChannel n fun c => Channel.resetWatch
      { c with phase := if s.inPattern then .safePattern else .off, applied := 0,
               output := if (s.channel n).output = .neither then .neither else .off, dwellLeft := 0, override := none,
               heldDuty := 0 }).leaveQueues n)

theorem endSense_lineBlind (n : OutletId) (r : Continuity) : LineBlind fun s => s.endSense n r :=
  (postOutlet_lineBlind n (.senseDone n)).comp fun _ _ _ => rfl

theorem enterPattern_lineBlind (n : OutletId) : LineBlind fun s => s.enterPattern n :=
  .ite (fun _ _ _ => Iff.rfl) id_lineBlind <|
    .ite (fun _ _ _ => Iff.rfl) (fun p v s => restartSettle_lineBlind (s.channel n).inUse.branch p v
      (s.modChannel n (patternChannel (s.engine.state = .safe)))) fun _ _ _ => rfl

theorem mapBranches_lineBlind (f : BranchId → Branch → Branch) : LineBlind fun s => s.mapBranches f := fun _ _ _ => rfl

theorem enterPatternAll_lineBlind : LineBlind enterPatternAll := fun p v s => by
  have outlets := LineBlind.forOutlets enterPattern_lineBlind p v s
  dsimp only at outlets
  rw [enterPatternAll, enterPatternAll, outlets]
  exact mapBranches_lineBlind _ p v _

theorem closing_lineBlind (f : Channel → Channel) (n : OutletId) : LineBlind (closing f n) :=
  .ite (fun _ _ _ => Iff.rfl) (fun p v s => restartSettle_lineBlind (s.channel n).inUse.branch p v (s.modChannel n f))
    fun _ _ _ => rfl

theorem resetDrive_eq (s : State) :
    s.resetDrive = (s.forOutlets (closing resetChannel)).mapBranches fun _ r => { r with queue := [] } := rfl

theorem resetDrive_lineBlind : LineBlind resetDrive := fun p v s => by
  have outlets := LineBlind.forOutlets (closing_lineBlind resetChannel) p v s
  dsimp only at outlets
  rw [resetDrive_eq, resetDrive_eq, outlets]
  exact mapBranches_lineBlind _ p v _

/-! ## Engine Control (R155, R157, R160, R169) -/

theorem setEngine_lineBlind (e : EngineState) : LineBlind fun s => s.setEngine e :=
  .ite (fun _ _ _ => Iff.rfl) id_lineBlind ((postAll_lineBlind .engineState).comp fun _ _ _ => rfl)

theorem endAllSenses_lineBlind : LineBlind endAllSenses :=
  LineBlind.forOutlets (f := fun n t =>
    if isSensing (t.outlet n).condition then (t.endTest n).endSense n .unknown else t) fun n =>
    .ite (fun _ _ _ => Iff.rfl) ((endSense_lineBlind n .unknown).comp fun _ _ _ => rfl) id_lineBlind

theorem writeEngine_lineBlind (w : EngineWrite) : LineBlind fun s => s.writeEngine w := by
  cases w with
  | none | grants => exact fun _ _ _ => rfl
  | grantsAndBursts => exact emptyBursts_lineBlind.comp fun _ _ _ => rfl

theorem abandonHolds_lineBlind : LineBlind abandonHolds := .ite (fun _ _ _ => Iff.rfl) (fun _ _ _ => rfl) fun _ _ _ => rfl

theorem resetEngineState_lineBlind (c : ResetCause) : LineBlind fun s => s.resetEngineState c :=
  resetDrive_lineBlind.comp (LineBlind.comp (f := stopRounds) (fun _ _ _ => rfl)
    ((setEngine_lineBlind .standby).comp fun _ _ _ => rfl))

theorem resetRecords_lineBlind : LineBlind resetRecords := emptyBursts_lineBlind.comp fun _ _ _ => rfl

theorem runEngineReset_lineBlind : LineBlind runEngineReset :=
  .ite (fun _ _ _ => Iff.rfl) (LineBlind.comp (f := fun s => s.modArbiter _) (fun _ _ _ => rfl) (resetEngineState_lineBlind _))
    (resetRecords_lineBlind.comp ((resetEngineState_lineBlind _).comp abandonHolds_lineBlind))

/-! ## The table's writes, which look at the lines (R157, R160) -/

theorem relined_nextLapse (s : State) {p : Port} {v : Line} (fits : v.Fits (s.port p)) : (s.relined p v).nextLapse = s.nextLapse := by
  simp only [nextLapse, s.relined_link fits]

theorem relined_nextWrite (s : State) {p : Port} {v : Line} (fits : v.Fits (s.port p)) : (s.relined p v).nextWrite = s.nextWrite := by
  simp only [nextWrite, s.relined_nextLapse fits]
  rfl

theorem relined_tableFree (s : State) {p : Port} {v : Line} (fits : v.Fits (s.port p)) : (s.relined p v).tableFree = s.tableFree := by
  simp only [tableFree, s.relined_nextWrite fits]
  rfl

theorem ReceiverBlind.ite {c : State → Prop} [∀ s, Decidable (c s)] {f g : State → State}
    (same : ∀ p v s, v.Fits (s.port p) → (c (s.relined p v) ↔ c s)) (hf : ReceiverBlind f) (hg : ReceiverBlind g) :
    ReceiverBlind fun s => if c s then f s else g s := fun p v s fits => by
  refine (if_congr (same p v s fits) (hf p v s fits) (hg p v s fits)).trans ?_
  exact (apply_ite (relined · p v) (c s) (f s) (g s)).symm

theorem id_receiverBlind : ReceiverBlind fun s => s := id_lineBlind.receiver

theorem raiseEngineWrite_blind (w : EngineWrite) : ReceiverBlind fun s => s.raiseEngineWrite w :=
  .ite (fun p v s fits => by rw [s.relined_tableFree fits]) (writeEngine_lineBlind w).receiver
    (LineBlind.receiver fun _ _ _ => rfl)

theorem enterSafe_blind : ReceiverBlind enterSafe :=
  .ite (fun _ _ _ _ => Iff.rfl) id_receiverBlind <|
    (raiseEngineWrite_blind .grantsAndBursts).comp
      (enterPatternAll_lineBlind.comp (endAllSenses_lineBlind.comp
        (LineBlind.comp (f := stopRounds) (fun _ _ _ => rfl) (setEngine_lineBlind .safe)))).receiver

theorem requestSafe_blind : ReceiverBlind requestSafe :=
  .ite (fun _ _ _ _ => Iff.rfl) id_receiverBlind (enterSafe_blind.comp (LineBlind.receiver fun _ _ _ => rfl))

theorem faultEntry_blind (a : FaultAction) : ReceiverBlind fun s => s.faultEntry a := by
  cases a with
  | hold | invalid => exact LineBlind.receiver fun _ _ _ => rfl
  | safe => exact requestSafe_blind

theorem setFaultAction_blind (a : FaultAction) : ReceiverBlind fun s => s.setFaultAction a :=
  .ite (fun _ _ _ _ => Iff.rfl) id_receiverBlind <|
    .ite (fun _ _ _ _ => Iff.rfl)
      ((faultEntry_blind a).comp (LineBlind.receiver fun _ _ _ => rfl)) (LineBlind.receiver fun _ _ _ => rfl)

theorem disableRatio_lineBlind (m : RatioId) : LineBlind fun s => s.disableRatio m :=
  LineBlind.comp (f := fun s => s.reformFor m) (fun _ _ _ => rfl) (.ite (fun _ _ _ => Iff.rfl) (fun _ _ _ => rfl) fun _ _ _ => rfl)

theorem setRatio_lineBlind (m : RatioId) (enable : Bool) (trim : Int) : LineBlind fun s => s.setRatio m enable trim :=
  .ite (fun _ _ _ => Iff.rfl) ((disableRatio_lineBlind m).comp fun _ _ _ => rfl) <|
    .ite (fun _ _ _ => Iff.rfl) (fun _ _ _ => rfl) fun _ _ _ => rfl

theorem runEngineStop_blind : ReceiverBlind runEngineStop :=
  (raiseEngineWrite_blind .grants).comp (enterPatternAll_lineBlind.comp
    (LineBlind.comp (f := stopRounds) (fun _ _ _ => rfl) (setEngine_lineBlind .standby))).receiver

theorem runEngineStart_lineBlind : LineBlind runEngineStart := LineBlind.comp
  (f := fun t =>
    ({ t with
        steam := { t.steam with timer := some 2000 }
        water := { t.water with timer := some 2000, firstRound := true } } : State).mapChannels fun _ c => leavePattern c)
  (fun _ _ _ => rfl) (setEngine_lineBlind .run)

theorem runServiceEnter_lineBlind : LineBlind runServiceEnter :=
  LineBlind.comp (f := withdrawRequests) (fun _ _ _ => rfl) (setEngine_lineBlind .service)

theorem runServiceLeave_lineBlind : LineBlind runServiceLeave := LineBlind.comp
  (f := fun t => ({ t with water := { t.water with firstRound := true } } : State).mapChannels fun _ c => leaveService c)
  (fun _ _ _ => rfl) (setEngine_lineBlind .run)

end State

end Sys2Proof.Machine
end

section
set_option Elab.async false
/-! PROOFS. The commands leave the lines of the ports alone, but for TABLE RESET, which drops lapses (R140, R170). -/

namespace Sys2Proof.Machine

open Sys2Proof.Statements

/-- An answer with the line of a port rewritten in its state. -/
def Answer.relined (a : Answer) (p : Port) (v : Line) : Answer := { a with state := a.state.relined p v }

namespace State

/-- A command that does not look at receivers and leaves the line of every port as it is. -/
def AnswerBlind (f : State → Answer) : Prop :=
  ∀ (p : Port) (v : Line) (s : State), v.Fits (s.port p) → f (s.relined p v) = (f s).relined p v

theorem AnswerBlind.state {f : State → Answer} (h : AnswerBlind f) : ReceiverBlind fun s => (f s).state :=
  fun p v s fits => congrArg Answer.state (h p v s fits)

theorem AnswerBlind.ite {c : State → Prop} [∀ s, Decidable (c s)] {f g : State → Answer}
    (same : ∀ p v s, c (s.relined p v) ↔ c s) (hf : AnswerBlind f) (hg : AnswerBlind g) :
    AnswerBlind fun s => if c s then f s else g s := fun p v s fits => by
  refine (if_congr (same p v s) (hf p v s fits) (hg p v s fits)).trans ?_
  exact (apply_ite (Answer.relined · p v) (c s) (f s) (g s)).symm

theorem refuse_blind (r : Result) : AnswerBlind fun s => refuse s r := fun _ _ _ _ => rfl

theorem done_blind {f : State → State} (h : ReceiverBlind f) {b : State → Bool} (same : ∀ p v s, b (s.relined p v) = b s) :
    AnswerBlind fun s => done (f s) (b s) := fun p v s fits =>
  congrArg₂ done (h p v s fits) (same p v s)

theorem done_lineBlind {f : State → State} (h : LineBlind f) {b : State → Bool} (same : ∀ p v s, b (s.relined p v) = b s) :
    AnswerBlind fun s => done (f s) (b s) := done_blind h.receiver same

theorem reply_blind {pl : State → List Byte} (same : ∀ p v s, v.Fits (s.port p) → pl (s.relined p v) = pl s) :
    AnswerBlind fun s => reply s (pl s) := fun p v s fits =>
  congrArg (reply (s.relined p v)) (same p v s fits)

/-! ## The table commands (R1 to R19, R101 to R110) -/

theorem onOutlet_blind (pl : List Byte) {f : OutletId → State → Answer} (h : ∀ n, AnswerBlind (f n)) :
    AnswerBlind fun s => s.onOutlet pl fun n => f n s := fun p v s fits => by
  unfold onOutlet
  cases outletArg pl with
  | none => rfl
  | some n => exact h n p v s fits

theorem doReadOutlet_blind (n : OutletId) (part : Nat) : AnswerBlind fun s => s.doReadOutlet n part :=
  reply_blind fun _ _ _ _ => rfl

theorem doReadBursts_blind (q : Port) (start : Nat) : AnswerBlind fun s => s.doReadBursts q start := fun p v s _ => by
  simp only [doReadBursts, relined_rights]
  rfl

theorem doSetDemand_blind (q : Port) (n : OutletId) (x : Nat) : AnswerBlind fun s => s.doSetDemand q n x :=
  .ite (fun _ _ _ => Iff.rfl) (refuse_blind _) <| .ite (fun _ _ _ => Iff.rfl) (refuse_blind _) <|
    done_lineBlind ((enforceEffective_lineBlind n).comp fun _ _ _ => rfl) fun _ _ _ => rfl

theorem doSetLimits_blind (n : OutletId) (pl : List Byte) : AnswerBlind fun s => s.doSetLimits n pl := by
  refine .ite (fun _ _ _ => Iff.rfl) (refuse_blind _) <| .ite (fun _ _ _ => Iff.rfl) (refuse_blind _) fun p v s fits => ?_
  change (match parseLimits (s.outlet n).struct.pool pl with
    | none => refuse (s.relined p v) .badIndex
    | some l => done ((s.relined p v).writeLimits n l) (limitsClamped l pl)) = _
  cases parseLimits (s.outlet n).struct.pool pl with
  | none => rfl
  | some l => exact congrArg (done · _) (writeLimits_lineBlind n l p v s)

theorem doSetOutletConfig_blind (n : OutletId) (pl : List Byte) : AnswerBlind fun s => s.doSetOutletConfig n pl := by
  refine .ite (fun _ _ _ => Iff.rfl) (refuse_blind _) fun p v s fits => ?_
  cases parseStructure pl with
  | none => rfl
  | some raw =>
    change (match s.structureRefusal n raw with
      | some r => refuse (s.relined p v) r
      | none => _) = Answer.relined (match s.structureRefusal n raw with
      | some r => refuse s r
      | none => _) p v
    cases s.structureRefusal n raw <;> rfl

theorem doPark_blind (n : OutletId) : AnswerBlind fun s => s.doPark n :=
  .ite (fun _ _ _ => Iff.rfl) (refuse_blind _) <| .ite (fun _ _ _ => Iff.rfl) (refuse_blind _) <|
    done_lineBlind ((turnOffNow_lineBlind n).comp ((removeEntry_lineBlind n _).comp fun _ _ _ => rfl)) fun _ _ _ => rfl

theorem returnActive_blind (n : OutletId) (k : Condition) : AnswerBlind fun s => s.returnActive n k :=
  .ite (fun _ _ _ => Iff.rfl) (refuse_blind _) <| .ite (fun _ _ _ => Iff.rfl) (refuse_blind _) fun _ _ _ _ => rfl

theorem doSenseStart_blind (n : OutletId) : AnswerBlind fun s => s.doSenseStart n := by
  refine .ite (fun _ _ _ => Iff.rfl) (refuse_blind _) <| .ite (fun _ _ _ => Iff.rfl) (refuse_blind _) fun p v s fits => ?_
  change (match priorFor (s.outlet n).condition with
    | none => refuse (s.relined p v) .badState
    | some k => _) = _
  cases priorFor (s.outlet n).condition <;> rfl

theorem doSenseEnd_blind (n : OutletId) : AnswerBlind fun s => s.doSenseEnd n := by
  refine .ite (fun _ _ _ => Iff.rfl) (refuse_blind _) <| .ite (fun _ _ _ => Iff.rfl) (refuse_blind _) fun p v s _ => ?_
  have ended := LineBlind.ite (c := fun s => (s.channel n).phase = .test) (fun _ _ _ => Iff.rfl)
    (f := fun s => s.endTest n) (fun _ _ _ => rfl) id_lineBlind p v s
  exact congrArg (done · false) ((congrArg (fun t : State => t.endSense n _) ended).trans (endSense_lineBlind n _ p v _))

theorem doRequestBurst_blind (q : Port) (n : OutletId) (a d w : Nat) : AnswerBlind fun s => s.doRequestBurst q n a d w :=
  .ite (fun _ _ _ => Iff.rfl) (refuse_blind _) <| .ite (fun _ _ _ => Iff.rfl) (refuse_blind _) <|
    .ite (fun _ _ _ => Iff.rfl) (refuse_blind _) <| .ite (fun _ _ _ => Iff.rfl) (refuse_blind _) <|
    .ite (fun _ _ _ => Iff.rfl) (refuse_blind _) fun _ _ _ _ => rfl

theorem doEndBurst_blind (q : Port) (n : OutletId) : AnswerBlind fun s => s.doEndBurst q n := by
  refine .ite (fun _ _ _ => Iff.rfl) (refuse_blind _) fun p v s _ => ?_
  change (match s.entryOf n with
    | none => refuse (s.relined p v) .badState
    | some e => if e.requester ≠ q then refuse (s.relined p v) .denied
      else done ((s.relined p v).removeEntry n endNotice) false) = _
  cases s.entryOf n with
  | none => rfl
  | some e =>
    by_cases other : e.requester ≠ q
    · simp only [if_pos other]
      rfl
    · simp only [if_neg other]
      exact congrArg (done · false) (removeEntry_lineBlind n endNotice p v s)

theorem doSetProfile_blind (x : Nat) : AnswerBlind fun s => s.doSetProfile x := fun p v s _ => by
  unfold doSetProfile
  cases index? 4 x <;> rfl

theorem runTable_blind (c : Code) (q : Port) (pl : List Byte) : AnswerBlind fun s => s.runTable c q pl := by
  cases c with
  | readOutlet => exact onOutlet_blind pl fun n => doReadOutlet_blind n _
  | readBursts => exact doReadBursts_blind q _
  | setDemand => exact onOutlet_blind pl fun n => doSetDemand_blind q n _
  | setLimits => exact onOutlet_blind pl fun n => doSetLimits_blind n pl
  | setOutletConfig => exact onOutlet_blind pl fun n => doSetOutletConfig_blind n pl
  | parkOutlet => exact onOutlet_blind pl doPark_blind
  | unparkOutlet => exact onOutlet_blind pl fun n => returnActive_blind n .parked
  | clearAbsent => exact onOutlet_blind pl fun n => returnActive_blind n .absent
  | senseStart => exact onOutlet_blind pl doSenseStart_blind
  | senseEnd => exact onOutlet_blind pl doSenseEnd_blind
  | requestBurst => exact onOutlet_blind pl fun n => doRequestBurst_blind q n _ _ _
  | endBurst => exact onOutlet_blind pl fun n => doEndBurst_blind q n
  | setProfile => exact doSetProfile_blind _
  | _ => exact refuse_blind .unknown

end State

end Sys2Proof.Machine
end

section
set_option Elab.async false
/-! PROOFS. The direct commands leave the lines of the ports alone, but for TABLE RESET (R140, R170). -/

namespace Sys2Proof.Machine

open Sys2Proof.Statements

namespace State

/-! ## The reads (R24, R73, R98, R141, R146, R153) -/

theorem doIdentify_blind (q : Port) : AnswerBlind fun s => s.doIdentify q := fun _ _ _ _ => rfl

theorem ports_map_eq {α : Type} (f : PortUnit → α) (s : State) : s.ports.toList.map f = (List.finRange 3).map fun q => f (s.port q) := by
  refine List.ext_getElem (by simp) fun i _ _ => ?_
  simp [port]

theorem doReadStatus_blind : AnswerBlind doReadStatus := reply_blind fun p v s fits => by
  rw [ports_map_eq, ports_map_eq]
  exact List.map_congr_left fun q _ => by rw [s.relined_link fits]

theorem doReadPool_blind (pl : List Byte) : AnswerBlind fun s => s.doReadPool pl := fun p v s _ => by
  unfold doReadPool
  generalize u8At pl 0 = a, u8At pl 1 = b
  rcases a with _ | _ | a <;> rcases b with _ | k
  case zero.succ =>
    cases found : index? 6 k <;> simp only [found] <;> rfl
  all_goals rfl

theorem doReadStore_blind (pl : List Byte) : AnswerBlind fun s => s.doReadStore pl := fun p v s _ => by
  unfold doReadStore
  cases index? 2 (u8At pl 0) <;> rfl

theorem doReadChannel_blind (pl : List Byte) : AnswerBlind fun s => s.doReadChannel pl := fun p v s _ => by
  unfold doReadChannel
  rcases channel? (byteAt pl 0) with _ | _ | _ | _ <;> rfl

theorem doReadEvents_blind (q : Port) : AnswerBlind fun s => s.doReadEvents q := fun p v s _ => by
  have cleared := modPort_lineBlind (f := fun u => { u with flags := .clear }) (fun _ _ => rfl) q p v s
  have flags : ((s.relined p v).port q).flags.payload = (s.port q).flags.payload := congrArg EventFlags.payload (s.relined_flags p q v)
  exact congrArg₂ reply cleared flags

theorem relined_effectivePayload (s : State) (p q : Port) (v : Line) : (s.relined p v).effectivePayload q = s.effectivePayload q := by
  simp only [effectivePayload, relined_rights, relined_globals]

theorem doReadRights_blind (q : Port) (pl : List Byte) : AnswerBlind fun s => s.doReadRights q pl := fun p v s _ => by
  unfold doReadRights
  cases index? 3 (u8At pl 0) with
  | none => rfl
  | some k =>
    refine AnswerBlind.ite (c := fun _ => 1 < u8At pl 1) (fun _ _ _ => Iff.rfl) (refuse_blind _) (AnswerBlind.ite
      (c := fun s => k ≠ q ∧ ¬ (s.globals q).admin) (fun p v s => by rw [relined_globals]) (refuse_blind _)
      (reply_blind (pl := fun s => if u8At pl 1 = 0 then configPayload (s.port k).config else s.effectivePayload k)
        fun p v s _ => by rw [relined_config, relined_effectivePayload])) p v s ‹_›

/-! ## The settings (R52 to R61, R69, R96, R123, R145, R153) -/

theorem doPostCapacity_blind (q : Port) (pl : List Byte) : AnswerBlind fun s => s.doPostCapacity q pl := by
  refine .ite (fun p v s => by rw [relined_globals]) (refuse_blind _) fun p v s _ => ?_
  cases index? 2 (u8At pl 0) <;> rfl

theorem doPostMargin_blind (q : Port) (pl : List Byte) : AnswerBlind fun s => s.doPostMargin q pl :=
  .ite (fun p v s => by rw [relined_globals]) (refuse_blind _) fun _ _ _ _ => rfl

theorem doPostPumpFlow_blind (q : Port) (pl : List Byte) : AnswerBlind fun s => s.doPostPumpFlow q pl :=
  .ite (fun p v s => by rw [relined_globals]) (refuse_blind _) fun _ _ _ _ => rfl

theorem doSetStore_blind (q : Port) (pl : List Byte) : AnswerBlind fun s => s.doSetStore q pl := by
  refine .ite (fun p v s => by rw [relined_globals]) (refuse_blind _) ?_
  rcases index? 2 (u8At pl 0) with _ | i
  · exact refuse_blind _
  rcases optIndex? 6 (byteAt pl 1) with _ | a
  · exact refuse_blind _
  rcases optIndex? 6 (byteAt pl 2) with _ | b
  · exact refuse_blind _
  exact .ite (fun _ _ _ => Iff.rfl) (refuse_blind _) fun _ _ _ _ => rfl

theorem doSetChannel_blind (q : Port) (pl : List Byte) : AnswerBlind fun s => s.doSetChannel q pl := by
  refine .ite (fun p v s => by rw [relined_globals]) (refuse_blind _) ?_
  rcases channel? (byteAt pl 0) with _ | _ | m | f
  · exact refuse_blind _
  · rcases faultAction? (byteAt pl 1) with _ | a
    · exact refuse_blind _
    · exact .ite (fun _ _ _ => Iff.rfl) (refuse_blind _) (done_blind (setFaultAction_blind a) fun _ _ _ => rfl)
  · rcases enable? (byteAt pl 1) with _ | e
    · exact refuse_blind _
    · exact .ite (fun _ _ _ => Iff.rfl) (refuse_blind _) (done_lineBlind (setRatio_lineBlind m e _) fun _ _ _ => rfl)
  · exact .ite (fun _ _ _ => Iff.rfl) (refuse_blind _) fun _ _ _ _ => rfl

theorem doSetBranch_blind (q : Port) (pl : List Byte) : AnswerBlind fun s => s.doSetBranch q pl := by
  refine .ite (fun p v s => by rw [relined_globals]) (refuse_blind _) ?_
  rcases index? 6 (u8At pl 0) with _ | b
  · exact refuse_blind _
  · exact .ite (fun _ _ _ => Iff.rfl) (refuse_blind _) fun _ _ _ _ => rfl

theorem doMaskEvents_blind (q : Port) (pl : List Byte) : AnswerBlind fun s => s.doMaskEvents q pl :=
  done_lineBlind (modPort_lineBlind (fun _ _ => rfl) q) fun _ _ _ => rfl

theorem relined_adminLeft (s : State) (p q : Port) (v : Line) (c : PortConfig) : (s.relined p v).adminLeft q c = s.adminLeft q c := by
  simp only [adminLeft, relined_globals]

theorem silenceAfter_put {v : Line} {u : PortUnit} (fits : v.Fits u) (n : Nat) : silenceAfter (v.put u) n = silenceAfter u n := by
  unfold silenceAfter
  rw [fits.1]
  rfl

theorem writeRights_blind (q k : Port) (w : RightsWrite) : ReceiverBlind fun s => s.writeRights q k w :=
  modPort_blind (fun v u fits => by rw [silenceAfter_put fits]; rfl) k

theorem doSetWindow_blind (q : Port) (pl : List Byte) : AnswerBlind fun s => s.doSetWindow q pl := by
  refine .ite (fun p v s => by rw [relined_globals]) (refuse_blind _) fun p v s fits => ?_
  rcases index? 3 (u8At pl 0) with _ | k
  · rfl
  · dsimp only
    rw [relined_config]
    rcases parseWindow (s.port k).config pl with _ | w
    · rfl
    · have written : AnswerBlind fun s => if s.engine.state ≠ .standby then refuse s .badState
          else if ¬ s.adminLeft k w.config then refuse s .denied else done (s.writeRights q k w) w.clamped :=
        .ite (fun _ _ _ => Iff.rfl) (refuse_blind _) (.ite (fun p v s => by rw [relined_adminLeft]) (refuse_blind _)
          (done_blind (writeRights_blind q k w) fun _ _ _ => rfl))
      exact written p v s fits

/-! ## The engine commands and SERVICE DRIVE (R135, R155) -/

theorem relined_checkEngine (s : State) (p q : Port) (v : Line) (c : Code) : (s.relined p v).checkEngine c q = s.checkEngine c q := by
  unfold checkEngine
  rw [relined_globals]
  rfl

theorem engineOk_blind (c : Code) (q : Port) {f : State → State} (h : ReceiverBlind f) : AnswerBlind fun s => s.engineOk c q f := fun p v s fits => by
  change (s.relined p v).engineOk c q f = (s.engineOk c q f).relined p v
  rw [engineOk, engineOk, relined_checkEngine]
  cases s.checkEngine c q with
  | some r => rfl
  | none => exact done_blind h (b := fun _ => false) (fun _ _ _ => rfl) p v s fits

theorem engineAccepted_blind (c : Code) (q : Port) {f : State → State} (h : ReceiverBlind f) :
    AnswerBlind fun s => s.engineAccepted c q f := fun p v s fits => by
  change (s.relined p v).engineAccepted c q f = (s.engineAccepted c q f).relined p v
  rw [engineAccepted, engineAccepted, relined_checkEngine]
  cases s.checkEngine c q with
  | some r => rfl
  | none => exact congrArg (fun t : State => ({ state := t, result := .accepted, payload := [] } : Answer)) (h p v s fits)

theorem doServiceDrive_blind (q : Port) (pl : List Byte) : AnswerBlind fun s => s.doServiceDrive q pl := by
  refine .ite (fun p v s => by rw [relined_globals]) (refuse_blind _) ?_
  rcases outletArg pl with _ | n
  · exact refuse_blind _
  · refine .ite (fun _ _ _ => Iff.rfl) (refuse_blind _) fun p v s fits => ?_
    have same : (s.relined p v).serviceRefusal n = s.serviceRefusal n := rfl
    have driven : AnswerBlind fun s => if u8At pl 1 = 0 then s.driveSet n (u16At pl 2) else s.driveRelease n :=
      .ite (fun _ _ _ => Iff.rfl) (fun _ _ _ _ => rfl) fun _ _ _ _ => rfl
    rw [same]
    cases s.serviceRefusal n with
    | some r => rfl
    | none => exact driven p v s fits

theorem runDirect_blind {c : Code} (other : c ≠ .tableReset) (q : Port) (pl : List Byte) : AnswerBlind fun s => s.runDirect c q pl := by
  cases c with
  | tableReset => exact absurd rfl other
  | identify => exact doIdentify_blind q
  | readStatus => exact doReadStatus_blind
  | readPool => exact doReadPool_blind pl
  | readStore => exact doReadStore_blind pl
  | readChannel => exact doReadChannel_blind pl
  | readEvents => exact doReadEvents_blind q
  | readRights => exact doReadRights_blind q pl
  | postCapacity => exact doPostCapacity_blind q pl
  | postMargin => exact doPostMargin_blind q pl
  | postPumpFlow => exact doPostPumpFlow_blind q pl
  | setStore => exact doSetStore_blind q pl
  | setChannel => exact doSetChannel_blind q pl
  | setBranch => exact doSetBranch_blind q pl
  | maskEvents => exact doMaskEvents_blind q pl
  | setWindow => exact doSetWindow_blind q pl
  | engineStart => exact engineOk_blind _ q runEngineStart_lineBlind.receiver
  | engineStop => exact engineOk_blind _ q runEngineStop_blind
  | serviceEnter => exact engineOk_blind _ q runServiceEnter_lineBlind.receiver
  | serviceLeave => exact engineOk_blind _ q runServiceLeave_lineBlind.receiver
  | serviceDrive => exact doServiceDrive_blind q pl
  | engineReset => exact engineOk_blind _ q runEngineReset_lineBlind.receiver
  | testTable | saveConfig => exact engineAccepted_blind _ q (LineBlind.receiver fun _ _ _ => rfl)
  | _ => exact refuse_blind .unknown

/-! ## TABLE RESET (R170) -/

theorem enterTableReset_lineBlind : LineBlind enterTableReset :=
  LineBlind.comp (f := fun t => t.modEngine fun e => { e with op := .load, opLeft := 100 }) (fun _ _ _ => rfl) (resetEngineState_lineBlind _)

/-- The drop of the lapses looks at no receiver. -/
theorem dropLapses_receiving (s : State) (p : Port) (r : Receiver) :
    (s.relined p (.receiving r)).dropLapses = s.dropLapses.relined p (.receiving r) := by
  refine eq_of_ports rfl fun q => ?_
  rw [dropLapses, mapPorts_port, relined_port, relined_port, dropLapses, mapPorts_port, mapPorts_port]
  by_cases own : q = p
  · subst own
    rw [if_pos rfl, if_pos rfl]
    by_cases lapsing : (s.port q).link = .lapsing
    · rw [if_pos lapsing]
      exact if_pos lapsing
    · rw [if_neg lapsing]
      exact if_neg lapsing
  · rw [if_neg own, if_neg own]

theorem startTableLoad_receiving (s : State) (p : Port) (r : Receiver) :
    (s.relined p (.receiving r)).startTableLoad = s.startTableLoad.relined p (.receiving r) := by
  have emptied := emptyBursts_lineBlind p (.receiving r) s
  have dropped := dropLapses_receiving s.emptyBursts.zeroDriveGrants p r
  unfold startTableLoad
  rw [emptied, show (s.emptyBursts.relined p (.receiving r)).zeroDriveGrants = s.emptyBursts.zeroDriveGrants.relined p (.receiving r) from rfl,
    dropped]
  rfl

theorem modArbiter_lineBlind (f : Arbiter → Arbiter) : LineBlind fun s => s.modArbiter f := fun _ _ _ => rfl

theorem runTableReset_receiving (s : State) (p : Port) (r : Receiver) :
    (s.relined p (.receiving r)).runTableReset = s.runTableReset.relined p (.receiving r) := by
  have entered := enterTableReset_lineBlind p (.receiving r)
  unfold runTableReset
  by_cases held : s.portHolds = true
  · rw [if_pos held]
    refine (if_pos held).trans ?_
    rw [entered]
    exact modArbiter_lineBlind (fun a => { a with deferred := .table }) p _ _
  · rw [if_neg held]
    refine (if_neg held).trans ?_
    rw [abandonHolds_lineBlind p _ s, entered, startTableLoad_receiving]

end State

end Sys2Proof.Machine
end

section
set_option Elab.async false
/-! PROOFS. A frame is taken without a look at the receivers, and a frame of one port leaves the lines of the others (R139, R140, R148). -/

namespace Sys2Proof.Machine

open Sys2Proof.Statements

/-- A rewriting that a frame of a port does not see: it changes a receiver alone, and at the frame's own port it says nothing of link and outstanding command, which the frame changes. -/
def Line.Suits (v : Line) (p q : Port) (s : State) : Prop :=
  v.Fits (s.port p) ∧ (q = p → v.link = none ∧ v.outstanding = none)

theorem Line.fits_of_none {v : Line} (h : v.link = none ∧ v.outstanding = none) (u : PortUnit) : v.Fits u := by
  obtain ⟨link, out⟩ := h
  unfold Line.Fits Line.put
  rw [link, out]
  exact ⟨rfl, rfl⟩

theorem Line.Suits.of_fits {v : Line} {p q : Port} {s t : State} (h : v.Suits p q s) (fits : v.Fits (t.port p)) : v.Suits p q t :=
  ⟨fits, h.2⟩

theorem Line.Suits.of_other {v : Line} {p q : Port} {s t : State} (h : v.Suits p q s) (other : p ≠ q → t.port p = s.port p) :
    v.Suits p q t := by
  refine ⟨?_, h.2⟩
  by_cases own : q = p
  · exact Line.fits_of_none (h.2 own) _
  · rw [other (Ne.symm own)]
    exact h.1

namespace State

theorem relined_mask (s : State) (p q : Port) (v : Line) : ((s.relined p v).port q).mask = (s.port q).mask := by
  rw [relined_port]
  split
  next own => rw [own]; rfl
  next => rfl

/-! ## Responses (R139, R141) -/

theorem relined_statusWord (s : State) {p : Port} {v : Line} (fits : v.Fits (s.port p)) (q : Port) (revived : Bool) :
    (s.relined p v).statusWord q revived = s.statusWord q revived := by
  have attention : ((s.relined p v).port q).attention = (s.port q).attention := by
    rw [PortUnit.attention, PortUnit.attention, relined_flags, relined_mask]
  unfold statusWord
  rw [attention, s.relined_link fits]
  rfl

theorem modPort_suits {v : Line} {p q : Port} {s : State} (suits : v.Suits p q s) (f : PortUnit → PortUnit) :
    v.Suits p q (s.modPort q f) :=
  suits.of_other fun other => modPort_port_ne s f other

/-- Writing what is outstanding at the frame's port. -/
theorem outstanding_relined (s : State) {p q : Port} {v : Line} (suits : v.Suits p q s) (o : Option Outstanding) :
    (s.relined p v).modPort q (fun u => { u with outstanding := o }) = (s.modPort q fun u => { u with outstanding := o }).relined p v :=
  s.modPort_relined p q v _ fun own => by
    unfold Line.put
    rw [(suits.2 own).1, (suits.2 own).2]
    rfl

theorem answer_relined (s : State) {p q : Port} {v : Line} (suits : v.Suits p q s) (code : Byte) (revived : Bool) (r : Result)
    (pl : List Byte) : (s.relined p v).answer q code revived r pl = (s.answer q code revived r pl).relined p v := by
  unfold answer
  rw [s.relined_statusWord suits.1]
  exact s.outstanding_relined suits _

theorem respond_relined (a : Answer) {p q : Port} {v : Line} (suits : v.Suits p q a.state) (code : Byte) (revived : Bool) :
    respond (a.relined p v) q code revived = (respond a q code revived).relined p v :=
  answer_relined a.state suits code revived a.result a.payload

/-! ## Table commands at the arbiter (R20) -/

theorem relined_nextRequester (s : State) {p : Port} {v : Line} (fits : v.Fits (s.port p)) :
    (s.relined p v).nextRequester = s.nextRequester := by
  have waiting : (s.relined p v).waits = s.waits := funext fun r => by
    cases r with
    | port q =>
      change (s.relined p v).portWaits q = s.portWaits q
      unfold portWaits
      rw [s.relined_outstanding fits]
    | _ => rfl
  unfold nextRequester
  rw [waiting]
  rfl

theorem serve_relined (s : State) {p q : Port} {v : Line} (suits : v.Suits p q s) :
    (s.relined p v).serve q = (s.serve q).relined p v := by
  unfold serve
  rw [s.relined_outstanding suits.1]
  rcases (s.port q).outstanding with _ | out
  · rfl
  · cases out with
    | held _ _ | answered _ _ => rfl
    | waiting code pl revived =>
      dsimp only
      have held : (s.relined p v).hold (.port q) = (s.hold (.port q)).relined p v := rfl
      rw [held]
      cases Code.ofByte code with
      | none => exact answer_relined (s.hold (.port q)) suits code revived .unknown []
      | some c =>
        have ran := runTable_blind c q pl
        have same : ((s.hold (.port q)).relined p v).runTable c q pl = ((s.hold (.port q)).runTable c q pl).relined p v :=
          ran p v (s.hold (.port q)) suits.1
        dsimp only
        rw [same]
        exact respond_relined _ (suits.of_fits (ran.state.fits (s := s.hold (.port q)) suits.1)) code revived

theorem askTable_relined (s : State) {p q : Port} {v : Line} (suits : v.Suits p q s) (code : Byte) (pl : List Byte) (revived : Bool) :
    (s.relined p v).askTable q code pl revived = (s.askTable q code pl revived).relined p v := by
  have waits := modPort_suits suits fun u => { u with outstanding := some (.waiting code pl revived) }
  unfold askTable
  rw [s.outstanding_relined suits]
  dsimp only
  rw [relined_tableFree _ waits.1, relined_nextRequester _ waits.1]
  split
  · exact serve_relined _ waits
  · rfl

/-! ## Good frames (R138 to R140, R148) -/

theorem relined_checkTable (s : State) (p q : Port) (v : Line) (c : Code) (pl : List Byte) :
    (s.relined p v).checkTable c q pl = s.checkTable c q pl := by
  have outlet : ∀ need : OutletRights → Bool, (s.relined p v).checkOutlet q pl need = s.checkOutlet q pl need := fun need => by
    simp only [checkOutlet, relined_rights]
  have rights : (s.relined p v).checkRights c q pl = s.checkRights c q pl := by
    unfold checkRights
    simp only [outlet, relined_globals]
  unfold checkTable
  rw [rights]
  rfl

/-- A command that is carried out at once does not see a rewriting. -/
def DirectBlind (s : State) (c : Code) (p q : Port) (v : Line) (pl : List Byte) : Prop :=
  (s.relined p v).runDirect c q pl = (s.runDirect c q pl).relined p v ∧ v.Fits ((s.runDirect c q pl).state.port p)

theorem takeCommand_relined (s : State) {p q : Port} {v : Line} (suits : v.Suits p q s) (c : Code) (pl : List Byte) (revived : Bool)
    (direct : DirectBlind s c p q v pl) :
    (s.relined p v).takeCommand q c pl revived = (s.takeCommand q c pl revived).relined p v := by
  unfold takeCommand
  rw [relined_checkTable]
  split
  · cases s.checkTable c q pl with
    | some r => exact answer_relined s suits c.byte revived r []
    | none => exact askTable_relined s suits c.byte pl revived
  · rw [direct.1]
    exact respond_relined _ (suits.of_fits direct.2) c.byte revived

/-- A frame's port, its timer reloaded and its link revived. -/
def heardFrom (s : State) (q : Port) : State := (s.reloadSilence q).revive q

theorem heardFrom_relined (s : State) {p q : Port} {v : Line} (suits : v.Suits p q s) :
    (s.relined p v).heardFrom q = (s.heardFrom q).relined p v := by
  have reloaded : (s.relined p v).reloadSilence q = (s.reloadSilence q).relined p v := modPort_lineBlind (fun _ _ => rfl) q p v s
  unfold heardFrom
  rw [reloaded]
  exact (s.reloadSilence q).modPort_relined p q v _ fun own => by
    unfold Line.put
    rw [(suits.2 own).1, (suits.2 own).2]
    rfl

theorem heardFrom_suits {v : Line} {p q : Port} {s : State} (suits : v.Suits p q s) : v.Suits p q (s.heardFrom q) :=
  modPort_suits (modPort_suits suits _) _

theorem takeFrame_eq (s : State) (q : Port) (code : Byte) (pl : List Byte) :
    s.takeFrame q code pl = match Code.ofByte code with
      | none => (s.heardFrom q).answer q code (s.revives q) .unknown []
      | some c => if c.lengthOk pl then (s.heardFrom q).takeCommand q c pl (s.revives q)
        else (s.heardFrom q).answer q code (s.revives q) .badLength [] := rfl

theorem takeFrame_relined (s : State) {p q : Port} {v : Line} (suits : v.Suits p q s) (code : Byte) (pl : List Byte)
    (direct : ∀ c, Code.ofByte code = some c → DirectBlind (s.heardFrom q) c p q v pl) :
    (s.relined p v).takeFrame q code pl = (s.takeFrame q code pl).relined p v := by
  have heard := heardFrom_suits suits
  have revived : (s.relined p v).revives q = s.revives q := by
    unfold revives
    rw [s.relined_link suits.1]
  rw [takeFrame_eq, takeFrame_eq, s.heardFrom_relined suits, revived]
  cases named : Code.ofByte code with
  | none => exact answer_relined _ heard code _ .unknown []
  | some c =>
    dsimp only
    split
    · exact takeCommand_relined _ heard c pl _ (direct c named)
    · exact answer_relined _ heard code _ .badLength []

/-! ## A frame looks at no receiver -/

theorem receiving_suits (r : Receiver) (p q : Port) (s : State) : (Line.receiving r).Suits p q s :=
  ⟨Line.receiving_fits r _, fun _ => ⟨rfl, rfl⟩⟩

theorem directBlind_of_ne {c : Code} (other : c ≠ .tableReset) {s : State} {p q : Port} {v : Line} (fits : v.Fits (s.port p))
    (pl : List Byte) : DirectBlind s c p q v pl :=
  ⟨runDirect_blind other q pl p v s fits, (runDirect_blind other q pl).state.fits fits⟩

theorem directBlind_receiving (s : State) (c : Code) (p q : Port) (r : Receiver) (pl : List Byte) :
    DirectBlind s c p q (.receiving r) pl := by
  by_cases reset : c = .tableReset
  · subst reset
    refine ⟨?_, Line.receiving_fits r _⟩
    change (s.relined p (.receiving r)).engineAccepted .tableReset q runTableReset =
      (s.engineAccepted .tableReset q runTableReset).relined p (.receiving r)
    rw [engineAccepted, engineAccepted, relined_checkEngine, runTableReset_receiving]
    cases s.checkEngine .tableReset q <;> rfl
  · exact directBlind_of_ne reset (Line.receiving_fits r _) pl

/-- A frame is taken without a look at a receiver. -/
theorem takeFrame_receiving (s : State) (p q : Port) (r : Receiver) (code : Byte) (pl : List Byte) :
    (s.relined p (.receiving r)).takeFrame q code pl = (s.takeFrame q code pl).relined p (.receiving r) :=
  s.takeFrame_relined (receiving_suits r p q s) code pl fun c _ => directBlind_receiving _ c p q r pl

theorem takeHeldOf_receiving (s : State) (p q : Port) (r : Receiver) :
    (s.relined p (.receiving r)).takeHeldOf q = (s.takeHeldOf q).relined p (.receiving r) := by
  have fits := Line.receiving_fits r (s.port p)
  unfold takeHeldOf
  rw [s.relined_outstanding fits, s.relined_link fits, s.outstanding_relined (receiving_suits r p q s)]
  rcases (s.port q).outstanding with _ | out
  · rfl
  · cases out with
    | waiting _ _ _ | answered _ _ => rfl
    | held code pl =>
      dsimp only
      split
      · rfl
      · exact takeFrame_receiving _ p q r code pl

theorem takeHeld_receiving (s : State) (p : Port) (r : Receiver) :
    (s.relined p (.receiving r)).takeHeld = s.takeHeld.relined p (.receiving r) := by
  have once : ∀ t : State, (t.relined p (.receiving r)).takeHeldOnce = t.takeHeldOnce.relined p (.receiving r) := fun t => by
    change ((((t.relined p (.receiving r)).takeHeldOf 0).takeHeldOf 1).takeHeldOf 2) =
      (((t.takeHeldOf 0).takeHeldOf 1).takeHeldOf 2).relined p (.receiving r)
    rw [takeHeldOf_receiving, takeHeldOf_receiving, takeHeldOf_receiving]
  rw [takeHeld, takeHeld, once, once]

end State

end Sys2Proof.Machine
end

section
set_option Elab.async false
/-! PROOFS. Frames held for a lapse that is no longer pending (R148; log 24). -/

namespace Sys2Proof.Machine

open Sys2Proof.Statements

namespace State

/-! ## What a frame leaves -/

/-- Only a TABLE RESET that is taken touches the lines of other ports; while an operation LOAD is in progress none is. -/
def LeavesOthers (s : State) (code : Byte) : Prop := code ≠ Code.tableReset.byte ∨ s.engine.op = .load

theorem checkEngine_of_load {s : State} (load : s.engine.op = .load) (c : Code) (q : Port) : ∃ r, s.checkEngine c q = some r := by
  unfold checkEngine
  rw [load]
  split
  · exact ⟨_, rfl⟩
  · exact ⟨.busy, rfl⟩

theorem directBlind_of_load {s : State} (load : s.engine.op = .load) (c : Code) {p q : Port} {v : Line} (fits : v.Fits (s.port p))
    (pl : List Byte) : DirectBlind s c p q v pl := by
  by_cases reset : c = .tableReset
  · subst reset
    obtain ⟨r, refused⟩ := checkEngine_of_load load .tableReset q
    have stays : s.runDirect .tableReset q pl = refuse s r := by
      change s.engineAccepted .tableReset q runTableReset = _
      rw [engineAccepted, refused]
    refine ⟨?_, by rw [stays]; exact fits⟩
    change (s.relined p v).engineAccepted .tableReset q runTableReset = _
    rw [stays, engineAccepted, relined_checkEngine, refused]
    rfl
  · exact directBlind_of_ne reset fits pl

/-- A frame of one port leaves the lines of the others. -/
theorem takeFrame_others {s : State} {q : Port} {code : Byte} (leaves : s.LeavesOthers code) (pl : List Byte) {p : Port} (other : p ≠ q) :
    ((s.takeFrame q code pl).port p).link = (s.port p).link ∧
    ((s.takeFrame q code pl).port p).outstanding = (s.port p).outstanding := by
  have suits : (Line.of (s.port p)).Suits p q s := ⟨Line.of_fits _, fun same => absurd same.symm other⟩
  have heard := heardFrom_suits suits
  have same := s.takeFrame_relined suits code pl fun c named => by
    rcases leaves with reset | load
    · refine directBlind_of_ne (fun isReset => reset ?_) heard.1 pl
      rw [← isReset]
      exact (byte_of_ofByte named).symm
    · exact directBlind_of_load (s := s.heardFrom q) load c heard.1 pl
  rw [relined_of] at same
  have own : (s.takeFrame q code pl).port p = (Line.of (s.port p)).put ((s.takeFrame q code pl).port p) :=
    (congrArg (State.port · p) same :).trans ((relined_port (s.takeFrame q code pl) p p _).trans (if_pos rfl))
  rw [own]
  exact ⟨rfl, rfl⟩

/-- A port holds no frame. -/
def HoldsNone (s : State) (q : Port) : Prop := ∀ code pl, (s.port q).outstanding ≠ some (.held code pl)

theorem answer_holdsNone (s : State) (q : Port) (code : Byte) (revived : Bool) (r : Result) (pl : List Byte) :
    (s.answer q code revived r pl).HoldsNone q := fun _ _ held => by
  rw [answer, modPort_port_self] at held
  exact nomatch held

theorem askTable_holdsNone (s : State) (q : Port) (code : Byte) (pl : List Byte) (revived : Bool) :
    (s.askTable q code pl revived).HoldsNone q := by
  unfold askTable
  dsimp only
  split
  · unfold serve
    rw [modPort_port_self]
    dsimp only
    split
    · exact answer_holdsNone _ q _ _ _ _
    · exact answer_holdsNone _ q _ _ _ _
  · intro _ _ held
    rw [modPort_port_self] at held
    exact nomatch held

/-- After its frame a port holds none. -/
theorem takeFrame_holdsNone (s : State) (q : Port) (code : Byte) (pl : List Byte) : (s.takeFrame q code pl).HoldsNone q := by
  rw [takeFrame_eq]
  split
  · exact answer_holdsNone _ q _ _ _ _
  · split
    · unfold takeCommand
      split
      · split
        · exact answer_holdsNone _ q _ _ _ _
        · exact askTable_holdsNone _ q _ _ _
      · exact answer_holdsNone _ q _ _ _ _
    · exact answer_holdsNone _ q _ _ _ _

/-! ## While a load is in progress -/

theorem engineOk_of_load {s : State} (load : s.engine.op = .load) (c : Code) (q : Port) (f : State → State) :
    (s.engineOk c q f).state = s := by
  obtain ⟨r, refused⟩ := checkEngine_of_load load c q
  rw [engineOk, refused]
  rfl

theorem engineAccepted_of_load {s : State} (load : s.engine.op = .load) (c : Code) (q : Port) (f : State → State) :
    (s.engineAccepted c q f).state = s := by
  obtain ⟨r, refused⟩ := checkEngine_of_load load c q
  rw [engineAccepted, refused]
  rfl

theorem doSetWindow_engine (s : State) (q : Port) (pl : List Byte) : (s.doSetWindow q pl).state.engine = s.engine := by
  unfold doSetWindow
  repeat' split
  all_goals rfl

/-- A direct command leaves a load in progress. -/
theorem runDirect_load {s : State} (load : s.engine.op = .load) (c : Code) (q : Port) (pl : List Byte) :
    (s.runDirect c q pl).state.engine.op = .load := by
  cases c with
  | readPool => exact (congrArg (·.engine.op) (doReadPool_state s pl)).trans load
  | readStore => exact (congrArg (·.engine.op) (doReadStore_state s pl)).trans load
  | readChannel => exact (congrArg (·.engine.op) (doReadChannel_state s pl)).trans load
  | readRights => exact (congrArg (·.engine.op) (doReadRights_state s q pl)).trans load
  | postCapacity => exact (doPostCapacity_calm s q pl).op.trans load
  | postMargin => exact (doPostMargin_calm s q pl).op.trans load
  | postPumpFlow => exact (doPostPumpFlow_calm s q pl).op.trans load
  | setStore => exact (doSetStore_calm s q pl).op.trans load
  | setChannel => exact (doSetChannel_calm s q pl).op.trans load
  | setBranch => exact (doSetBranch_calm s q pl).op.trans load
  | setWindow => exact (congrArg EngineControl.op (s.doSetWindow_engine q pl)).trans load
  | serviceDrive => exact (doServiceDrive_calm s q pl).op.trans load
  | engineStart | engineStop | serviceEnter | serviceLeave | engineReset =>
    exact (congrArg (·.engine.op) (engineOk_of_load load _ q _)).trans load
  | tableReset | testTable | saveConfig => exact (congrArg (·.engine.op) (engineAccepted_of_load load _ q _)).trans load
  | _ => exact load

/-- A frame leaves a load in progress. -/
theorem takeFrame_load {s : State} (load : s.engine.op = .load) (q : Port) (code : Byte) (pl : List Byte) :
    (s.takeFrame q code pl).engine.op = .load := by
  have heard : (s.heardFrom q).engine.op = .load := load
  rw [takeFrame_eq]
  split
  · exact load
  · split
    · unfold takeCommand
      split
      · split
        · exact load
        next c _ _ _ passed =>
          have busy : (s.heardFrom q).busy = true := decide_eq_true (by rw [heard]; decide)
          unfold checkTable at passed
          split at passed
          · exact nomatch passed
          · rw [if_pos busy] at passed
            exact nomatch passed
      · exact runDirect_load heard _ q pl
    · exact load

/-! ## Going through the ports (log 24) -/

/-- A port has no frame to be taken: it holds none, or its lapse is pending still. -/
def Settled (s : State) (q : Port) : Prop := ∀ code pl, (s.port q).outstanding = some (.held code pl) → (s.port q).link = .lapsing

theorem takeHeldOf_settled {s : State} {q : Port} (settled : s.Settled q) : s.takeHeldOf q = s := by
  by_cases lapsing : (s.port q).link = .lapsing
  · exact takeHeldOf_lapsing s q lapsing
  · exact takeHeldOf_none s q fun code pl held => lapsing (settled code pl held)

theorem takeHeld_settled {s : State} (settled : ∀ q, s.Settled q) : s.takeHeld = s :=
  s.takeHeld_eq_self fun q code pl held => settled q code pl held

theorem takeHeldOf_held {s : State} {q : Port} {code : Byte} {pl : List Byte} (held : (s.port q).outstanding = some (.held code pl))
    (past : (s.port q).link ≠ .lapsing) :
    s.takeHeldOf q = (s.modPort q fun u => { u with outstanding := none }).takeFrame q code pl := by
  rw [takeHeldOf, held]
  exact if_neg past

/-- A port is settled, or it holds a frame that can be taken. -/
theorem settled_or_held (s : State) (q : Port) :
    s.Settled q ∨ ∃ code pl, (s.port q).outstanding = some (.held code pl) ∧ (s.port q).link ≠ .lapsing := by
  by_cases lapsing : (s.port q).link = .lapsing
  · exact .inl fun _ _ _ => lapsing
  · rcases out : (s.port q).outstanding with _ | o
    · exact .inl fun _ _ held => nomatch out.symm.trans held
    · cases o with
      | held code pl => exact .inr ⟨code, pl, rfl, lapsing⟩
      | waiting _ _ _ | answered _ _ => exact .inl fun _ _ held => nomatch out.symm.trans held

theorem takeHeldOf_settles (s : State) (q : Port) : (s.takeHeldOf q).Settled q := by
  rcases s.settled_or_held q with settled | ⟨code, pl, held, past⟩
  · rw [takeHeldOf_settled settled]
    exact settled
  · rw [takeHeldOf_held held past]
    exact fun code' pl' still => absurd still (takeFrame_holdsNone _ q code pl code' pl')

theorem takeHeldOf_load {s : State} (load : s.engine.op = .load) (q : Port) : (s.takeHeldOf q).engine.op = .load := by
  rcases s.settled_or_held q with settled | ⟨code, pl, held, past⟩
  · rw [takeHeldOf_settled settled]
    exact load
  · rw [takeHeldOf_held held past]
    exact takeFrame_load (s := s.modPort q fun u => { u with outstanding := none }) load q code pl

/-- While a load is in progress the frame of one port leaves the others as they are. -/
theorem takeHeldOf_keeps_settled {s : State} (load : s.engine.op = .load) {p q : Port} (other : p ≠ q) (settled : s.Settled p) :
    (s.takeHeldOf q).Settled p := by
  rcases s.settled_or_held q with free | ⟨code, pl, held, past⟩
  · rw [takeHeldOf_settled free]
    exact settled
  · have frame := takeFrame_others (s := s.modPort q fun u => { u with outstanding := none }) (q := q) (code := code)
      (.inr load) pl other
    rw [modPort_port_ne s _ other] at frame
    rw [takeHeldOf_held held past]
    intro code' pl' still
    rw [frame.1]
    exact settled code' pl' (frame.2.symm.trans still)

theorem takeHeldOnce_eq (s : State) : s.takeHeldOnce = ((s.takeHeldOf 0).takeHeldOf 1).takeHeldOf 2 := rfl

theorem settled_of_ports {s : State} (h0 : s.Settled 0) (h1 : s.Settled 1) (h2 : s.Settled 2) (q : Port) : s.Settled q := by
  fin_cases q
  · exact h0
  · exact h1
  · exact h2

theorem takeHeldOnce_settled {s : State} (load : s.engine.op = .load) (q : Port) : s.takeHeldOnce.Settled q := by
  rw [takeHeldOnce_eq]
  have load0 := takeHeldOf_load load 0
  have load1 := takeHeldOf_load load0 1
  exact settled_of_ports
    (takeHeldOf_keeps_settled load1 (by decide) (takeHeldOf_keeps_settled load0 (by decide) (s.takeHeldOf_settles 0)))
    (takeHeldOf_keeps_settled load1 (by decide) ((s.takeHeldOf 0).takeHeldOf_settles 1))
    (takeHeldOf_settles _ 2) q

theorem takeHeldOnce_of_settled {s : State} (settled : ∀ q, s.Settled q) : s.takeHeldOnce = s := by
  rw [takeHeldOnce_eq, takeHeldOf_settled (settled 0), takeHeldOf_settled (settled 1), takeHeldOf_settled (settled 2)]

/-- While a load is in progress one pass takes every frame there is to take. -/
theorem takeHeld_of_load {s : State} (load : s.engine.op = .load) : s.takeHeld = s.takeHeldOnce :=
  takeHeldOnce_of_settled (takeHeldOnce_settled load)

/-! ## The frames as the statements take them -/

theorem heldFrameTaken_settled {s : State} {q : Port} (settled : s.Settled q) : HeldFrameTaken s s q := by
  unfold HeldFrameTaken
  split
  next code pl held => rw [if_pos (settled code pl held)]
  next => rfl

/-- A good frame at a port that receives. -/
theorem goodFrame_taken {s : State} {q : Port} (started : s.engine.starting = false) (free : (s.port q).outstanding = none)
    (past : (s.port q).link ≠ .lapsing) (code : Byte) (pl : List Byte) :
    s.goodFrame q code pl =
      if code = Code.tableReset.byte then ((s.relined q (.receiving .idle)).takeFrame q code pl).takeHeld
      else (s.relined q (.receiving .idle)).takeFrame q code pl := by
  have silent : s.transmitting q = false := by rw [transmitting, free]
  unfold goodFrame
  rw [started, silent, free]
  cases link : (s.port q).link with
  | lapsing => exact absurd link past
  | active | lapsed => rfl

/-- An operation that looks at no receiver leaves it. -/
theorem receiver_kept {f : State → State} {q : Port}
    (blind : ∀ (r : Receiver) (s : State), f (s.relined q (.receiving r)) = (f s).relined q (.receiving r)) (s : State) :
    ((f s).port q).receiver = (s.port q).receiver := by
  have same : s.relined q (.receiving (s.port q).receiver) = s := s.relined_of q
  have commuted := blind (s.port q).receiver s
  rw [same] at commuted
  exact (congrArg (fun t : State => (t.port q).receiver) commuted :).trans
    (by rw [relined_port, if_pos rfl]; rfl)

theorem relined_restored (s : State) (q : Port) (r : Receiver) :
    (s.relined q (.receiving r)).modPort q (fun u => { u with receiver := (s.port q).receiver }) = s := by
  refine eq_of_ports rfl fun k => ?_
  rw [modPort_port, relined_port, relined_port]
  by_cases own : k = q
  · rw [if_pos own, if_pos rfl, own]
    rfl
  · rw [if_neg own, if_neg own]

/-- The frame that a port holds, taken like one that completes now. -/
theorem heldFrameTaken_of_held {s t : State} {q : Port} {code : Byte} {pl : List Byte}
    (held : (s.port q).outstanding = some (.held code pl)) (past : (s.port q).link ≠ .lapsing)
    (taken : t = if code = Code.tableReset.byte then (s.takeHeldOf q).takeHeld else s.takeHeldOf q) : HeldFrameTaken s t q := by
  unfold HeldFrameTaken
  rw [held]
  dsimp only
  rw [if_neg past]
  intro started
  refine ⟨_, exec_frameRow _ q code pl, ?_⟩
  rw [takeHeldOf_held held past] at taken
  have link : ((s.modPort q fun u => { u with outstanding := none }).port q).link ≠ .lapsing := by rw [modPort_port_self]; exact past
  have free : ((s.modPort q fun u => { u with outstanding := none }).port q).outstanding = none := by rw [modPort_port_self]
  have receiver : ((s.modPort q fun u => { u with outstanding := none }).port q).receiver = (s.port q).receiver := by
    rw [modPort_port_self]
  rw [goodFrame_taken (s := s.modPort q fun u => { u with outstanding := none }) started free link]
  generalize (s.modPort q fun u => { u with outstanding := none }) = m at *
  have frame := fun r => m.takeFrame_receiving q q r code pl
  have kept := receiver_kept (f := fun m => m.takeFrame q code pl) (fun r m => m.takeFrame_receiving q q r code pl) m
  have kept' := receiver_kept (q := q) (fun r m => takeHeld_receiving m q r) (m.takeFrame q code pl)
  by_cases reset : code = Code.tableReset.byte
  · rw [if_pos reset] at taken ⊢
    rw [frame, takeHeld_receiving, taken, ← receiver, ← kept, ← kept', relined_restored]
  · rw [if_neg reset] at taken ⊢
    rw [frame, taken, ← receiver, ← kept, relined_restored]

/-- The frames that the ports hold are taken while a load is in progress. -/
theorem heldFramesTaken_takeHeld {m : State} (load : m.engine.op = .load) : HeldFramesTaken m m.takeHeld := by
  have load0 := takeHeldOf_load load 0
  have load1 := takeHeldOf_load load0 1
  have settled := takeHeldOnce_settled load
  have done : ∀ q, HeldFrameTaken m.takeHeldOnce m.takeHeldOnce q := fun q => heldFrameTaken_settled (settled q)
  have first : (m.takeHeldOf 0).takeHeld = m.takeHeldOnce := by
    rw [takeHeld_of_load load0, takeHeldOnce_eq, takeHeldOf_settled (m.takeHeldOf_settles 0), ← takeHeldOnce_eq]
  have second : ((m.takeHeldOf 0).takeHeldOf 1).takeHeld = m.takeHeldOnce := by
    rw [takeHeld_of_load load1, takeHeldOnce_eq,
      takeHeldOf_settled (takeHeldOf_keeps_settled load0 (by decide) (m.takeHeldOf_settles 0)),
      takeHeldOf_settled ((m.takeHeldOf 0).takeHeldOf_settles 1), ← takeHeldOnce_eq]
  have third : m.takeHeldOnce.takeHeld = m.takeHeldOnce := takeHeld_settled settled
  /- one step: the model's, or the rest of the pass with it -/
  have step : ∀ (s : State) (q : Port), ∃ t, HeldFrameTaken s t q ∧ (t = s.takeHeldOf q ∨ t = (s.takeHeldOf q).takeHeld) := fun s q => by
    rcases s.settled_or_held q with free | ⟨code, pl, held, past⟩
    · exact ⟨s, heldFrameTaken_settled free, .inl (takeHeldOf_settled free).symm⟩
    · refine ⟨_, heldFrameTaken_of_held held past rfl, ?_⟩
      split
      · exact .inr rfl
      · exact .inl rfl
  rw [takeHeld_of_load load]
  obtain ⟨a, takenA, a0 | aDone⟩ := step m 0
  · obtain ⟨b, takenB, b1 | bDone⟩ := step a 1
    · obtain ⟨t, takenT, t2 | tDone⟩ := step b 2
      · refine ⟨a, b, takenA, takenB, ?_⟩
        rw [takeHeldOnce_eq, ← a0, ← b1, ← t2]
        exact takenT
      · refine ⟨a, b, takenA, takenB, ?_⟩
        rw [b1, a0, ← takeHeldOnce_eq, third] at tDone
        exact tDone ▸ takenT
    · rw [a0, second] at bDone
      exact ⟨a, b, takenA, takenB, bDone ▸ done 2⟩
  · rw [first] at aDone
    exact ⟨a, a, takenA, aDone ▸ done 1, aDone ▸ done 2⟩

end State

end Sys2Proof.Machine
end

section
set_option Elab.async false
/-! PROOFS. The steps of a reset that wait for a port's release: those of ENGINE RESET, and the load that a TABLE RESET starts (R114, R169, R170). -/

namespace Sys2Proof.Machine

open Sys2Proof.Statements

namespace State

/-! ## The start of a table load (R170 steps 3 and 4) -/

/-- What is left of an outlet whose entry has left the list, said by its cleared amount. -/
theorem unlisted_entryOf (s : State) (n : OutletId) (o : Outlet) :
    unlisted (s.entryOf n) o = { o with
      grant := if s.clearedAmount n = none then o.grant else lowered o.grant o.demand
      burstRef := o.burstRef && (s.entryOf n).isNone } := by
  rw [clearedAmount]
  cases s.entryOf n with
  | none => simp [unlisted]
  | some e => cases cleared : e.isCleared <;> simp [unlisted, cleared]

theorem unlistedChannel_zeroed (entry : Option BurstEntry) (o : Outlet) (c : Channel) :
    { unlistedChannel entry o c with grant := 0 } = { c with grant := 0 } := by
  cases entry with
  | none => rfl
  | some e =>
    simp only [unlistedChannel, loweredChannel]
    split
    · split <;> rfl
    · rfl

/-- The list emptied, the drive grants 0, the lapses dropped, and the table with the store for the load. -/
theorem startTableLoad_spec (s : State) :
    let t := s.startTableLoad
    t = { s with
      outlets := t.outlets, channels := t.channels, bursts := [], ports := t.ports
      arbiter := { s.arbiter with removals := [], holder := some .store, lastHolder := .store }
      engine := { s.engine with op := .load, opLeft := 100 } } ∧
    (∀ n, t.outlet n = unlisted (s.entryOf n) (s.outlet n) ∧ t.channel n = { s.channel n with grant := 0 }) ∧
    (∀ q, t.port q = { s.port q with
      link := if (s.port q).link = .lapsing then .lapsed else (s.port q).link
      flags := { (s.port q).flags with burstRevoked := (t.port q).flags.burstRevoked } }) ∧
    ∀ r : State, s.bursts = r.bursts → (∀ q, (s.port q).flags.burstRevoked = (r.port q).flags.burstRevoked) →
      EmptiedForReset r t := by
  intro t
  have frame := s.emptyBursts_frame
  have outlets := s.emptyBursts_outlet
  have notices := s.emptyBursts_port
  have emptied : ∀ r : State, s.bursts = r.bursts → (∀ q, (s.port q).flags.burstRevoked = (r.port q).flags.burstRevoked) →
      ∀ w : State, w.bursts = [] → (∀ q, (w.port q).flags.burstRevoked = (s.emptyBursts.port q).flags.burstRevoked) →
      EmptiedForReset r w := fun r same before w gone after => emptiedForReset_emptyBursts (u := s) same before gone after
  have written : t = (s.emptyBursts.zeroDriveGrants.dropLapses.modArbiter
      fun a => { a with holder := some .store, lastHolder := .store }).modEngine
        fun e => { e with op := .load, opLeft := 100 } := rfl
  clear_value t
  generalize s.emptyBursts = u at *
  have outlet : ∀ n, t.outlet n = u.outlet n := fun n => (congrArg (State.outlet · n) written :)
  have channel : ∀ n, t.channel n = { u.channel n with grant := 0 } := fun n =>
    (congrArg (State.channel · n) written).trans (mapChannels_channel u (fun _ c => { c with grant := 0 }) n)
  have port : ∀ q, t.port q = if (u.port q).link = .lapsing then { u.port q with link := .lapsed } else u.port q := fun q =>
    (congrArg (State.port · q) written :).trans (mapPorts_port u.zeroDriveGrants _ q)
  have revoked : ∀ q, (t.port q).flags.burstRevoked = (u.port q).flags.burstRevoked := fun q => by
    rw [port]
    split <;> rfl
  have bursts : t.bursts = [] := (congrArg State.bursts written :).trans (congrArg State.bursts frame :)
  refine ⟨?_, fun n => ⟨(outlet n).trans (outlets n).1, ?_⟩, fun q => ?_, fun r same before => emptied r same before t bursts revoked⟩
  · have kept : t = { u with
        channels := t.channels, ports := t.ports
        arbiter := { u.arbiter with holder := some .store, lastHolder := .store }
        engine := { u.engine with op := .load, opLeft := 100 } } := by
      rw [written]
      rfl
    have records : t.outlets = u.outlets := (congrArg State.outlets kept :)
    rw [records, kept, frame]
  · rw [channel, (outlets n).2, unlistedChannel_zeroed]
  · rw [revoked, port, notices]
    split <;> rfl

/-! ## At the release of the table (R169, R170) -/

/-- Nobody holds the table after its release, and what a reset abandons is gone. -/
theorem abandonHolds_releasePort {s : State} (release : s.atRelease = true) :
    s.releasePort.abandonHolds = { s with
      arbiter := { s.arbiter with
        steamRequest := false, waterRequest := false, engineWrite := .none, deferred := .none, holder := none }
      engine := if s.engine.op = .selfTest then { s.engine with op := .none, opLeft := 0 } else s.engine } := by
  rw [abandonHolds_eq, releasePort_of_atRelease release]
  rfl

/-- The waiting steps of an ENGINE RESET. -/
theorem finishEngineReset_spec {s : State} (release : s.atRelease = true) :
    let t := s.finishEngineReset
    t = { s with
      outlets := t.outlets, channels := t.channels, bursts := [], ports := t.ports
      arbiter := { s.arbiter with
        steamRequest := false, waterRequest := false, engineWrite := .none, deferred := .none, holder := none, removals := [] }
      engine := if s.engine.op = .selfTest then { s.engine with op := .none, opLeft := 0 } else s.engine } ∧
    EmptiedForReset s t ∧
    (∀ n, t.outlet n = { resetRecord (s.outlet n) with burstRef := (s.outlet n).burstRef && (s.entryOf n).isNone } ∧
      t.channel n = resetCopies (resetRecord (s.outlet n)) (s.channel n)) ∧
    ∀ q, t.port q = { s.port q with flags := { (s.port q).flags with burstRevoked := (t.port q).flags.burstRevoked } } := by
  intro t
  have shape : t = s.releasePort.abandonHolds.resetRecords := rfl
  have abandons := abandonHolds_releasePort release
  obtain ⟨frame, views, notices, emptied⟩ := s.releasePort.abandonHolds.resetRecords_spec
  rw [← shape] at frame views notices emptied
  clear_value t
  rw [abandons] at frame views notices emptied
  exact ⟨frame, emptied s rfl fun _ => rfl, views, notices⟩

/-- The waiting steps of a TABLE RESET. -/
theorem finishTableReset_spec {s : State} (release : s.atRelease = true) :
    let t := s.finishTableReset
    t = { s with
      outlets := t.outlets, channels := t.channels, bursts := [], ports := t.ports
      arbiter := { holder := some .store, lastHolder := .store, steamRequest := false, waterRequest := false,
                   removals := [], engineWrite := .none, deferred := .none }
      engine := { s.engine with op := .load, opLeft := 100 } } ∧
    EmptiedForReset s t ∧
    (∀ n, t.outlet n = unlisted (s.entryOf n) (s.outlet n) ∧ t.channel n = { s.channel n with grant := 0 }) ∧
    ∀ q, t.port q = { s.port q with
      link := if (s.port q).link = .lapsing then .lapsed else (s.port q).link
      flags := { (s.port q).flags with burstRevoked := (t.port q).flags.burstRevoked } } := by
  intro t
  have shape : t = s.releasePort.abandonHolds.startTableLoad := rfl
  have abandons := abandonHolds_releasePort release
  obtain ⟨frame, views, notices, emptied⟩ := s.releasePort.abandonHolds.startTableLoad_spec
  rw [← shape] at frame views notices emptied
  clear_value t
  have engine : { s.releasePort.abandonHolds.engine with op := .load, opLeft := 100 } =
      { s.engine with op := .load, opLeft := 100 } := by
    rw [abandons]
    dsimp only
    split <;> rfl
  rw [engine] at frame
  rw [abandons] at frame views notices emptied
  exact ⟨frame, emptied s rfl fun _ => rfl, views, notices⟩

end State

/-- Settles O59 (R169, R170): the waiting steps of an ENGINE RESET write the records, those of a TABLE RESET start the load, and the frames held for the lapses it drops follow. -/
theorem deferredResetsAreFinished : Obligations.DeferredResetsAreFinished := by
  intro s release
  refine ⟨fun waits => ?_, fun waits => ?_⟩
  · obtain ⟨frame, emptied, views, notices⟩ := State.finishEngineReset_spec release
    have row : exec .engineResetDeferred s = .next s.finishEngineReset :=
      congrArg Host.Outcome.next (if_pos ⟨waits, release⟩)
    generalize s.finishEngineReset = t at *
    have arbiter := (congrArg State.arbiter frame :)
    refine ⟨t, row, by rw [arbiter], by rw [arbiter], emptied, by rw [arbiter], by rw [arbiter], by rw [arbiter], notices,
      by rw [arbiter], ⟨(congrArg State.steam frame :), (congrArg State.water frame :)⟩,
      ⟨(congrArg State.stores frame :), (congrArg State.reference frame :), (congrArg State.ratio frame :),
        (congrArg State.pulse frame :), (congrArg State.scan frame :)⟩,
      ⟨(congrArg State.inputs frame :), (congrArg State.store frame :), (congrArg State.pending frame :)⟩,
      (congrArg State.profile frame :), (congrArg State.branches frame :), (congrArg State.engine frame :), fun n => ?_⟩
    obtain ⟨outlet, channel⟩ := views n
    rw [outlet, channel]
    exact ⟨rfl, rfl, rfl, rfl, rfl, rfl, rfl⟩
  · obtain ⟨frame, emptied, views, notices⟩ := State.finishTableReset_spec release
    have row : exec .tableResetLoadStart s = .next s.finishTableReset.takeHeld :=
      congrArg Host.Outcome.next (if_pos ⟨waits, release⟩)
    generalize s.finishTableReset = m at *
    have engine := (congrArg State.engine frame :)
    refine ⟨m, m.takeHeld, row, State.heldFramesTaken_takeHeld (by rw [engine]), (congrArg State.arbiter frame :), emptied,
      fun q => ?_, engine, fun q => ?_, ⟨(congrArg State.steam frame :), (congrArg State.water frame :)⟩,
      ⟨(congrArg State.stores frame :), (congrArg State.reference frame :), (congrArg State.ratio frame :),
        (congrArg State.pulse frame :), (congrArg State.scan frame :)⟩,
      ⟨(congrArg State.inputs frame :), (congrArg State.store frame :), (congrArg State.pending frame :)⟩,
      (congrArg State.profile frame :), (congrArg State.branches frame :), fun n => ⟨(views n).2, ?_⟩⟩
    · rw [notices]
    · rw [notices]
    · rw [(views n).1, State.unlisted_entryOf]

end Sys2Proof.Machine
end

section
set_option Elab.async false
/-! PROOFS. TABLE RESET: the engine in STANDBY with the load to come, and what of it waits while a port holds the table (R136, R170). -/

namespace Sys2Proof.Machine

open Sys2Proof.Statements

namespace State

/-! ## TABLE RESET (R170) -/

/-- The engine and the drive of a reset, with the operation LOAD. -/
theorem enterTableReset_spec (s : State) :
    let t := s.enterTableReset
    t = { s with
      engine := { s.engine with state := .standby, cause := .tableReset, op := .load, opLeft := 100 }
      steam := { s.steam with timer := none }, water := { s.water with timer := none }
      arbiter := { s.arbiter with steamRequest := false, waterRequest := false }
      ports := t.ports, channels := t.channels, branches := t.branches } ∧
    (∀ n, t.channel n = resetChannel (s.channel n)) ∧
    (∀ b, t.branch b = closes s (fun n => decide (resetDuty (s.channel n) = 0)) b { s.branch b with queue := [] }) ∧
    ∀ q, t.port q = { s.port q with flags := { (s.port q).flags with
      engineState := (s.port q).flags.engineState || decide (s.engine.state ≠ .standby) } } := by
  intro t
  have written : t = (s.resetEngineState .tableReset).modEngine fun e => { e with op := .load, opLeft := 100 } := rfl
  obtain ⟨frame, channels, branches, ports⟩ := s.resetEngineState_spec .tableReset
  clear_value t
  generalize s.resetEngineState .tableReset = u at *
  refine ⟨?_, fun n => (congrArg (State.channel · n) written :).trans (channels n),
    fun b => (congrArg (State.branch · b) written :).trans (branches b),
    fun q => (congrArg (State.port · q) written :).trans (ports q)⟩
  rw [written]
  change ({ u with engine := { u.engine with op := .load, opLeft := 100 } } : State) = _
  rw [frame]
  rfl

/-- What a TABLE RESET does whoever holds the table. -/
def TableResetCommon (s t : State) : Prop :=
  t.engine = { s.engine with state := .standby, cause := .tableReset, op := .load, opLeft := 100 } ∧
  t.steam = { s.steam with timer := none } ∧ t.water = { s.water with timer := none } ∧ MeasureKept s t ∧ RestKept s t ∧
  t.profile = s.profile ∧
  (∀ q, t.port q = { s.port q with
    flags := (t.port q).flags
    link := if s.portHolds = false ∧ (s.port q).link = .lapsing then .lapsed else (s.port q).link }) ∧
  FlagsOfReset s t ∧
  (∀ n, t.channel n = resetChannel (s.channel n)) ∧
  (∀ b, t.branch b = closes s (fun n => decide (resetDuty (s.channel n) = 0)) b { s.branch b with queue := [] }) ∧
  ∀ n, (t.outlet n).struct = (s.outlet n).struct ∧ (t.outlet n).limits = (s.outlet n).limits ∧
    (t.outlet n).demand = (s.outlet n).demand ∧ (t.outlet n).owner = (s.outlet n).owner

theorem runTableReset_held {s : State} (holds : s.portHolds = true) :
    let t := s.runTableReset
    TableResetCommon s t ∧
    t.arbiter = { s.arbiter with steamRequest := false, waterRequest := false, deferred := .table } ∧
    t.bursts = s.bursts ∧ t.outlets = s.outlets ∧
    ∀ q, (t.port q).flags.burstRevoked = (s.port q).flags.burstRevoked := by
  intro t
  have shape : t = s.enterTableReset.modArbiter fun a => { a with deferred := .table } := if_pos holds
  clear_value t
  obtain ⟨frame, channels, branches, ports⟩ := s.enterTableReset_spec
  generalize s.enterTableReset = w at *
  have channel : ∀ n, t.channel n = w.channel n := fun n => (congrArg (State.channel · n) shape :)
  have port : ∀ q, t.port q = w.port q := fun q => (congrArg (State.port · q) shape :)
  have branch : ∀ b, t.branch b = w.branch b := fun b => (congrArg (State.branch · b) shape :)
  have held : ¬ s.portHolds = false := by rw [holds]; decide
  rw [frame] at shape
  have outlet : ∀ n, t.outlet n = s.outlet n := fun n => (congrArg (State.outlet · n) shape :)
  refine ⟨⟨(congrArg State.engine shape :), (congrArg State.steam shape :), (congrArg State.water shape :),
    ⟨(congrArg State.stores shape :), (congrArg State.reference shape :), (congrArg State.ratio shape :),
      (congrArg State.pulse shape :), (congrArg State.scan shape :)⟩,
    ⟨(congrArg State.inputs shape :), (congrArg State.store shape :), (congrArg State.pending shape :)⟩,
    (congrArg State.profile shape :), fun q => ?_, fun q => by rw [port, ports],
    fun n => by rw [channel, channels], fun b => (branch b).trans (branches b), fun n => ?_⟩,
    (congrArg State.arbiter shape :), (congrArg State.bursts shape :), (congrArg State.outlets shape :),
    fun q => by rw [port, ports]⟩
  · rw [if_neg fun h => held h.1, port, ports]
  · rw [outlet]
    exact ⟨rfl, rfl, rfl, rfl⟩

theorem runTableReset_free {s : State} (holds : s.portHolds = false) :
    let t := s.runTableReset
    TableResetCommon s t ∧ EmptiedForReset s t ∧
    t.arbiter = { holder := some .store, lastHolder := .store, steamRequest := false, waterRequest := false,
                  removals := [], engineWrite := .none, deferred := .none } ∧
    ∀ n, t.outlet n = unlisted (s.entryOf n) (s.outlet n) := by
  intro t
  have shape : t = s.abandonHolds.enterTableReset.startTableLoad := if_neg (by rw [holds]; decide)
  have abandons := s.abandonHolds_eq
  obtain ⟨entered, channels, branches, ports⟩ := s.abandonHolds.enterTableReset_spec
  obtain ⟨frame, views, notices, emptied⟩ := s.abandonHolds.enterTableReset.startTableLoad_spec
  rw [← shape] at frame views notices emptied
  clear_value t
  generalize s.abandonHolds.enterTableReset = w at *
  generalize s.abandonHolds = v at *
  have vChannel : ∀ n, v.channel n = s.channel n := fun n => (congrArg (State.channel · n) abandons :)
  have vBranch : ∀ b, v.branch b = s.branch b := fun b => (congrArg (State.branch · b) abandons :)
  have vPort : ∀ q, v.port q = s.port q := fun q => (congrArg (State.port · q) abandons :)
  have vState : v.engine.state = s.engine.state := by
    rw [abandons]
    dsimp only
    split <;> rfl
  have engine : { v.engine with state := .standby, cause := .tableReset, op := .load, opLeft := 100 } =
      { s.engine with state := .standby, cause := .tableReset, op := .load, opLeft := 100 } := by
    rw [abandons]
    dsimp only
    split <;> rfl
  rw [engine] at entered
  have wOutlet : ∀ n, w.outlet n = s.outlet n := fun n =>
    (congrArg (State.outlet · n) entered :).trans (congrArg (State.outlet · n) abandons :)
  have bursts : w.bursts = s.bursts := (congrArg State.bursts entered :).trans (congrArg State.bursts abandons :)
  have entry : ∀ n, w.entryOf n = s.entryOf n := fun n => by rw [entryOf, entryOf, bursts]
  have wPort : ∀ q, w.port q = { s.port q with flags := { (s.port q).flags with
      engineState := (s.port q).flags.engineState || decide (s.engine.state ≠ .standby) } } := fun q => by
    rw [ports, vPort, vState]
  have branch : ∀ b, t.branch b = w.branch b := fun b => (congrArg (State.branch · b) frame :)
  have outlet : ∀ n, t.outlet n = unlisted (s.entryOf n) (s.outlet n) := fun n => by rw [(views n).1, wOutlet, entry]
  have arbiter : t.arbiter = { holder := some .store, lastHolder := .store, steamRequest := false, waterRequest := false,
                               removals := [], engineWrite := .none, deferred := .none } := by
    rw [frame, entered, abandons]
  have kept : t = { v with
      engine := { s.engine with state := .standby, cause := .tableReset, op := .load, opLeft := 100 }
      steam := { v.steam with timer := none }, water := { v.water with timer := none }, arbiter := t.arbiter
      outlets := t.outlets, channels := t.channels, branches := t.branches, ports := t.ports, bursts := t.bursts } := by
    rw [entered] at frame
    rw [frame]
  rw [abandons] at kept
  refine ⟨⟨(congrArg State.engine kept :), (congrArg State.steam kept :), (congrArg State.water kept :),
    ⟨(congrArg State.stores kept :), (congrArg State.reference kept :), (congrArg State.ratio kept :),
      (congrArg State.pulse kept :), (congrArg State.scan kept :)⟩,
    ⟨(congrArg State.inputs kept :), (congrArg State.store kept :), (congrArg State.pending kept :)⟩,
    (congrArg State.profile kept :), fun q => ?_, fun q => ?_, fun n => ?_, fun b => ?_, fun n => ?_⟩,
    emptied s bursts fun q => by rw [wPort], arbiter, outlet⟩
  · rw [notices, wPort, if_congr (and_iff_right holds) rfl rfl]
  · rw [notices, wPort]
  · rw [(views n).2, channels, vChannel, resetChannel_eq]
  · rw [branch, branches]
    simp only [closes, vChannel, vBranch]
  · rw [outlet, unlisted_entryOf]
    exact ⟨rfl, rfl, rfl, rfl⟩

theorem runTableReset_common (s : State) : TableResetCommon s s.runTableReset := by
  cases holds : s.portHolds with
  | true => exact (runTableReset_held holds).1
  | false => exact (runTableReset_free holds).1

/-- A TABLE RESET that is carried out, and then the frames that are held. -/
theorem exec_tableReset {s : State} {p : Port} (receives : Receives s p) (check : (s.heard p).checkEngine .tableReset p = none) :
    exec (.tableReset p []) s = .next (respond { state := (s.heard p).runTableReset, result := .accepted, payload := [] } p 0x46
      (decide ((s.port p).link = .lapsed))).takeHeld := by
  refine congrArg Host.Outcome.next ((frameOf_tableReset s p [] receives).trans ?_)
  rw [if_pos List.length_nil]
  have answered : (s.heard p).runDirect .tableReset p [] = _ := engineAccepted_ok runTableReset check
  rw [answered]

end State

/-- Settles O26 (R136, R170): the engine and the drive at once, the list, the lapses and the store's hold at once or at the release of a port, then the frames held for the lapses dropped. -/
theorem tableResetStartsTheLoad : Obligations.TableResetStartsTheLoad := by
  intro s p receives right op
  have check : (s.heard p).checkEngine .tableReset p = none :=
    State.checkEngine_none (by simpa using right) (State.engineBusy_eq_false op nofun nofun) rfl
  have row := State.exec_tableReset receives check
  have common := (s.heard p).runTableReset_common
  have free := State.runTableReset_free (s := s.heard p)
  have held := State.runTableReset_held (s := s.heard p)
  generalize (s.heard p).runTableReset = u at *
  obtain ⟨engine, steam, water, measure, rest, profile, units, flags, channels, branches, records⟩ := common
  let m := State.respond { state := u, result := .accepted, payload := [] } p 0x46 (decide ((s.port p).link = .lapsed))
  have flag : ∀ q, (m.port q).flags = (u.port q).flags := fun q => State.respond_port_flags _ p q _ _
  have ported : PortAnswered s m p (fun q => { s.port q with
      flags := (m.port q).flags
      link := if s.portHolds = false ∧ (s.port q).link = .lapsing then .lapsed else (s.port q).link }) 0x46 .accepted [] := by
    refine State.portAnswered_respond s _ p _ _ ?_ fun q hq => ?_
    · rw [units, flag, State.heard_port]
      rw [if_neg fun h => nomatch h.2]
      rfl
    · rw [units, flag, State.heard_port_ne s p q hq]
      rfl
  obtain ⟨own, others⟩ := id ported
  refine ⟨m, m.takeHeld, row, State.heldFramesTaken_takeHeld (congrArg EngineControl.op engine), engine, steam, water, measure,
    rest, profile, ?_, fun q => ?_, ported, fun q => ?_, ⟨fun n => ?_, branches⟩, records, fun holds => ?_, fun holds => ?_⟩
  · rw [own]
  · by_cases mine : q = p
    · rw [mine, own]
      exact ⟨rfl, rfl⟩
    · rw [others q mine]
      exact ⟨rfl, rfl⟩
  · rw [flag, flags, State.heard_flags]
    rfl
  · refine (channels n).trans ?_
    rw [State.resetChannel_eq]
    rfl
  · obtain ⟨-, emptied, arbiter, outlets⟩ := free holds
    refine ⟨⟨emptied.1, fun kept q => ?_⟩, arbiter, fun n => (outlets n).trans (State.unlisted_entryOf _ n _), fun q hq => ?_⟩
    · rw [flag, emptied.2 kept, revokedNotices, revokedNotices, State.heard_flags]
      rfl
    · rw [others q hq]
      exact if_congr (and_iff_right holds) rfl rfl
  · obtain ⟨-, arbiter, bursts, outlets, revoked⟩ := held holds
    exact ⟨arbiter, bursts, outlets, fun q => by rw [flag, revoked, State.heard_flags]⟩

end Sys2Proof.Machine
end

section
set_option Elab.async false
/-! PROOFS. The lapse of a port: its demands, its bursts and its link (R10, R149), and the events that bring it (R62, R147, R148). -/

namespace Sys2Proof.Machine

open Sys2Proof.Statements

namespace State

/-! ## Grants that are lowered, with their channels (R10, R116) -/

/-- A grant has not risen, and its drive channel was handed it where it changed. -/
def Lowers (g g' : Nat) (c c' : Channel) : Prop := g' ≤ g ∧ c' = if g' = g then c else { c with grant := g' }

theorem Lowers.refl (g : Nat) (c : Channel) : Lowers g g c c := ⟨le_rfl, (if_pos rfl).symm⟩

theorem Lowers.trans {g₁ g₂ g₃ : Nat} {c₁ c₂ c₃ : Channel} (first : Lowers g₁ g₂ c₁ c₂) (next : Lowers g₂ g₃ c₂ c₃) :
    Lowers g₁ g₃ c₁ c₃ := by
  obtain ⟨le, rfl⟩ := first
  obtain ⟨le', rfl⟩ := next
  refine ⟨le'.trans le, ?_⟩
  by_cases same : g₃ = g₁
  · have middle : g₂ = g₁ := by omega
    rw [if_pos same, if_pos (same.trans middle.symm), if_pos middle]
  · rw [if_neg same]
    split
    next equal => rw [equal, if_neg fun h => same (equal.trans h)]
    next => split <;> rfl

theorem lowers_lowered (g limit : Nat) (c : Channel) : Lowers g (lowered g limit) c (loweredChannel c g limit) := by
  unfold Lowers lowered loweredChannel
  by_cases less : limit < g
  · rw [if_pos less, if_pos less, if_neg less.ne]
    exact ⟨less.le, rfl⟩
  · rw [if_neg less, if_neg less, if_pos rfl]
    exact ⟨le_rfl, rfl⟩

/-- The entry of an outlet that leaves the list lowers its grant. -/
theorem lowers_unlisted (entry : Option BurstEntry) (o : Outlet) (c : Channel) :
    Lowers o.grant (unlisted entry o).grant c (unlistedChannel entry o c) := by
  cases entry with
  | none => exact .refl _ c
  | some e =>
    cases cleared : e.isCleared
    · simp only [unlisted, unlistedChannel, cleared, Bool.false_eq_true, if_false]
      exact .refl _ c
    · simp only [unlisted, unlistedChannel, cleared, if_true]
      exact lowers_lowered _ _ c

/-! ## The demands that a port owns (R149) -/

theorem lapseDemand_eq (o : Outlet) :
    lapseDemand o = { o with
      demand := (match o.limits.lapseAction with
        | .hold => o.demand
        | .fallback => min o.limits.fallback o.limits.ceiling
        | .zero => 0)
      owner := .none } := by
  cases action : o.limits.lapseAction <;> rw [lapseDemand, action]

/-- An outlet after the lapse action of a port, with its cleared amount. -/
def disowned (p : Port) (cleared : Option Nat) (o : Outlet) : Outlet :=
  if o.owner = .port p then
    { lapseDemand o with grant := lowered o.grant (cleared.getD (lapseDemand o).demand) }
  else o

/-- The drive channel of an outlet after the lapse action of a port. -/
def disownedChannel (p : Port) (cleared : Option Nat) (o : Outlet) (c : Channel) : Channel :=
  if o.owner = .port p then loweredChannel c o.grant (cleared.getD (lapseDemand o).demand) else c

/-- Nothing but outlet records and drive channels has changed. -/
def GrantsOnly (s t : State) : Prop := t = { s with outlets := t.outlets, channels := t.channels }

/-- The lapse action of a port at one outlet. -/
def disownAt (p : Port) (n : OutletId) (s : State) : State :=
  if (s.outlet n).owner = .port p then (s.modOutlet n lapseDemand).enforceEffective n else s

section

variable (p : Port) (n : OutletId) (s : State)

theorem disownAt_frame : GrantsOnly s (disownAt p n s) := by
  unfold GrantsOnly disownAt
  split
  · rw [enforceEffective_frame]
    rfl
  · rfl

theorem disownAt_view :
    (disownAt p n s).outlet n = disowned p (s.clearedAmount n) (s.outlet n) ∧
    (disownAt p n s).channel n = disownedChannel p (s.clearedAmount n) (s.outlet n) (s.channel n) := by
  unfold disownAt disowned disownedChannel
  by_cases owned : (s.outlet n).owner = .port p
  · obtain ⟨outlet, channel⟩ := enforceEffective_lowers (s.modOutlet n lapseDemand) n
    have grant : (lapseDemand (s.outlet n)).grant = (s.outlet n).grant := by rw [lapseDemand_eq]
    have limit : (s.modOutlet n lapseDemand).effectiveDemand n =
        (s.clearedAmount n).getD (lapseDemand (s.outlet n)).demand := by
      rw [effectiveDemand, modOutlet_outlet_self]
      rfl
    rw [limit, modOutlet_outlet_self, grant] at outlet channel
    rw [if_pos owned, if_pos owned, if_pos owned]
    exact ⟨outlet, channel⟩
  · rw [if_neg owned, if_neg owned, if_neg owned]
    exact ⟨rfl, rfl⟩

theorem disownAt_view_ne {n m : OutletId} (h : n ≠ m) :
    (disownAt p m s).outlet n = s.outlet n ∧ (disownAt p m s).channel n = s.channel n := by
  unfold disownAt
  split
  · rw [enforceEffective_outlet_ne _ m n h, enforceEffective_channel_ne _ m n h]
    exact ⟨modOutlet_outlet_ne s lapseDemand h, rfl⟩
  · exact ⟨rfl, rfl⟩

/-- The lapse actions of a port at all outlets. -/
theorem forOutlets_disownAt :
    let t := s.forOutlets (disownAt p)
    GrantsOnly s t ∧
    ∀ n, t.outlet n = disowned p (s.clearedAmount n) (s.outlet n) ∧
      t.channel n = disownedChannel p (s.clearedAmount n) (s.outlet n) (s.channel n) := by
  have frame : GrantsOnly s (s.forOutlets (disownAt p)) :=
    forOutlets_induct (GrantsOnly s) (disownAt p) s rfl fun n t same => by
      have frame := disownAt_frame p n t
      generalize disownAt p n t = u at *
      rw [GrantsOnly] at *
      rw [frame, same]
  have listed : ∀ n (s : State), clearedAmount (disownAt p n s) = clearedAmount s := fun n s => by
    have bursts : (disownAt p n s).bursts = s.bursts := (congrArg State.bursts (disownAt_frame p n s) :)
    funext k
    rw [clearedAmount, clearedAmount, entryOf, entryOf, bursts]
  have views := (forOutlets_view (f := disownAt p) (C := clearedAmount) (g := fun n s => (s.outlet n, s.channel n))
    (φ := fun n cleared v => (disowned p (cleared n) v.1, disownedChannel p (cleared n) v.1 v.2)) s listed
    (fun n s => Prod.ext_iff.mpr (disownAt_view p n s)) fun n m s h => Prod.ext_iff.mpr (disownAt_view_ne p s h)).2
  generalize s.forOutlets (disownAt p) = t at *
  exact ⟨frame, fun n => Prod.ext_iff.mp (views n)⟩

end

theorem disowned_eq_of_owner {p : Port} {o : Outlet} (owned : o.owner = .port p) (cleared : Option Nat) :
    disowned p cleared o = { lapseDemand o with grant := min o.grant (cleared.getD (lapseDemand o).demand) } := by
  rw [disowned, if_pos owned, lowered_eq_min]

theorem lowers_disowned (p : Port) (cleared : Option Nat) (o : Outlet) (c : Channel) :
    Lowers o.grant (disowned p cleared o).grant c (disownedChannel p cleared o c) := by
  unfold disowned disownedChannel
  split
  · exact lowers_lowered _ _ c
  · exact .refl _ c

/-! ## The table part of a lapse (R149) -/

/-- The entries of a port, and no others, leave the list at its lapse. -/
theorem unlisted_pickedOf (s : State) (p : Port) (n : OutletId) (o : Outlet) :
    unlisted (s.pickedOf (fun e => decide (e.requester = p)) n) o = { o with
      burstRef := o.burstRef && !entryOfPort s n p
      grant := if entryOfPort s n p ∧ s.clearedAmount n ≠ none then min o.grant o.demand else o.grant } := by
  rw [pickedOf, entryOfPort, clearedAmount]
  cases s.entryOf n with
  | none => simp [unlisted]
  | some e =>
    by_cases own : e.requester = p
    · rw [Option.filter_some_pos (p := fun e : BurstEntry => decide (e.requester = p)) (decide_eq_true own)]
      cases cleared : e.isCleared <;> simp [unlisted, own, cleared, lowered_eq_min]
    · rw [Option.filter_some_neg (p := fun e : BurstEntry => decide (e.requester = p)) (decide_eq_false own)]
      simp [unlisted, own]

/-- The notices of a lapse go to the port that lapses. -/
theorem revokedNotices_lapse (s : State) (p q : Port) :
    revokedNotices s q (fun e => decide (e.requester = p)) .lapse =
      if q = p then revokedNotices s p (fun _ => true) .lapse else (s.port q).flags.burstRevoked := by
  by_cases own : q = p
  · rw [if_pos own, own]
    simp [revokedNotices]
  · rw [if_neg own, revokedNotices]
    have noOwn : (s.bursts.filter fun e => decide (e.requester = p) && decide (e.requester = q)) = [] :=
      List.filter_eq_nil_iff.mpr fun e _ both => by
        simp only [Bool.and_eq_true, decide_eq_true_eq] at both
        exact own (both.2.symm.trans both.1)
    rw [noOwn]
    rfl

theorem writeLapse_spec (s : State) (once : (s.bursts.map BurstEntry.outlet).Nodup) (p : Port) :
    let t := s.writeLapse p
    t = { s with outlets := t.outlets, channels := t.channels, bursts := t.bursts, ports := t.ports } ∧
    t.bursts = withoutAll s.bursts (fun e => decide (e.requester = p)) ∧
    t.bursts.map BurstEntry.outlet = (s.bursts.filter fun e => decide (e.requester ≠ p)).map BurstEntry.outlet ∧
    t.port p = { s.port p with
      link := .lapsed
      flags := { (s.port p).flags with burstRevoked := revokedNotices s p (fun _ => true) .lapse } } ∧
    OtherPortsKept s t p ∧
    ∀ n,
      t.outlet n = unlisted (s.pickedOf (fun e => decide (e.requester = p)) n) (disowned p (s.clearedAmount n) (s.outlet n)) ∧
      t.channel n = unlistedChannel (s.pickedOf (fun e => decide (e.requester = p)) n) (disowned p (s.clearedAmount n) (s.outlet n))
        (disownedChannel p (s.clearedAmount n) (s.outlet n) (s.channel n)) := by
  intro t
  let pick : BurstEntry → Bool := fun e => decide (e.requester = p)
  have written : t = ((s.forOutlets (disownAt p)).revokeWhere pick .lapse).modPort p fun u => { u with link := .lapsed } := rfl
  clear_value t
  obtain ⟨disowns, views⟩ := forOutlets_disownAt p s
  generalize s.forOutlets (disownAt p) = u at *
  have bursts : u.bursts = s.bursts := (congrArg State.bursts disowns :)
  have port : ∀ q, u.port q = s.port q := fun q => (congrArg (State.port · q) disowns :)
  have picked : ∀ n, u.pickedOf pick n = s.pickedOf pick n := fun n => by rw [pickedOf, pickedOf, entryOf, entryOf, bursts]
  have frame := u.revokeWhere_frame pick .lapse
  obtain ⟨left, notices, unlists⟩ := u.revokeWhere_spec (bursts ▸ once) pick .lapse
  have outlets := u.revokeWhere_outlets (bursts ▸ once) pick .lapse
  generalize u.revokeWhere pick .lapse = v at *
  have own : t.port p = { v.port p with link := .lapsed } := by rw [written, modPort_port_self]
  have revoked : ∀ q, revokedNotices u q pick .lapse =
      if q = p then revokedNotices s p (fun _ => true) .lapse else (s.port q).flags.burstRevoked := fun q => by
    rw [← revokedNotices_lapse, revokedNotices, revokedNotices, bursts, port]
  refine ⟨?_, ?_, ?_, ?_, fun q other => ?_, fun n => ⟨?_, ?_⟩⟩
  · have kept : t = { v with ports := t.ports } := by
      rw [written]
      rfl
    rw [frame, disowns] at kept
    have tOutlets : t.outlets = v.outlets := (congrArg State.outlets kept :)
    have tChannels : t.channels = v.channels := (congrArg State.channels kept :)
    have tBursts : t.bursts = v.bursts := (congrArg State.bursts kept :)
    rw [tOutlets, tChannels, tBursts]
    exact kept
  · rw [written, modPort_bursts, left, bursts]
  · rw [written, modPort_bursts, outlets, bursts]
    congr 1
    exact List.filter_congr fun e _ => (decide_not).symm
  · rw [own, notices, port, revoked, if_pos rfl]
  · rw [written, modPort_port_ne v _ other, notices, port, revoked, if_neg other]
  · rw [← (views n).1, ← picked]
    exact (congrArg (State.outlet · n) written :).trans (unlists n).1
  · rw [← (views n).1, ← (views n).2, ← picked]
    exact (congrArg (State.channel · n) written :).trans (unlists n).2

/-- The state on which the table part of a lapse is carried out stands, in what that part looks at, as the one before. -/
structure LapseReady (s u : State) (p : Port) : Prop where
  outlets : u.outlets = s.outlets
  channels : u.channels = s.channels
  branches : u.branches = s.branches
  bursts : u.bursts = s.bursts
  profile : u.profile = s.profile
  notices : ∀ q, (u.port q).flags.burstRevoked = (s.port q).flags.burstRevoked
  others : ∀ q, q ≠ p → (u.port q).link = (s.port q).link ∧ (u.port q).outstanding = (s.port q).outstanding

theorem lapseApplied_writeLapse {s u : State} {p : Port} (ready : LapseReady s u p)
    (once : (s.bursts.map BurstEntry.outlet).Nodup) : LapseApplied s (u.writeLapse p) p := by
  obtain ⟨frame, left, outlets, own, others, views⟩ := u.writeLapse_spec (ready.bursts ▸ once) p
  generalize u.writeLapse p = t at *
  have outlet : ∀ n, u.outlet n = s.outlet n := fun n => by rw [State.outlet, State.outlet, ready.outlets]
  have channel : ∀ n, u.channel n = s.channel n := fun n => by rw [State.channel, State.channel, ready.channels]
  have entry : ∀ n, u.entryOf n = s.entryOf n := fun n => by rw [entryOf, entryOf, ready.bursts]
  have cleared : ∀ n, u.clearedAmount n = s.clearedAmount n := fun n => by rw [clearedAmount, clearedAmount, entry]
  have listed : ∀ n, entryOfPort u n p = entryOfPort s n p := fun n => by rw [entryOfPort, entryOfPort, entry]
  rw [ready.bursts] at left outlets
  refine ⟨by rw [own], (congrArg State.profile frame).trans ready.profile, (congrArg State.branches frame).trans ready.branches,
    left, outlets, ?_, fun q other => ?_, fun n => ?_⟩
  · rw [own, revokedNotices, revokedNotices, ready.bursts, ready.notices]
  · rw [others q other, ready.notices]
    exact ⟨(ready.others q other).1, (ready.others q other).2, rfl⟩
  · obtain ⟨record, drive⟩ := views n
    have lowers := (lowers_disowned p (u.clearedAmount n) (u.outlet n) (u.channel n)).trans
      (lowers_unlisted (u.pickedOf (fun e => decide (e.requester = p)) n) (disowned p (u.clearedAmount n) (u.outlet n)) _)
    rw [← record, ← drive, outlet, channel] at lowers
    rw [unlisted_pickedOf, cleared, outlet, listed] at record
    refine ⟨fun owned => ?_, fun foreign => ?_, ?_, lowers.2⟩
    · rw [record, disowned_eq_of_owner owned, lapseDemand_eq]
      exact ⟨rfl, rfl⟩
    · rw [record, disowned, if_neg foreign]
      exact ⟨rfl, rfl⟩
    · rw [record, lapsedGrant]
      by_cases owned : (s.outlet n).owner = .port p
      · rw [disowned_eq_of_owner owned, lapseDemand_eq]
        simp only [if_pos owned]
      · rw [disowned, if_neg owned]
        simp only [if_neg owned]

end State

end Sys2Proof.Machine
end

section
set_option Elab.async false
/-! PROOFS. The silence of a port: the warning, the expiry with the capacity it withdraws, and the lapse that waited for the table (R62, R147 to R150). -/

namespace Sys2Proof.Machine

open Sys2Proof.Statements

namespace State

/-! ## The capacity a port posted (R62) -/

/-- Whether a port posted the capacity of a boiler or the pump flow. -/
def Posted (s : State) (p : Port) : Prop := (∃ b, (s.boiler b).poster = some p) ∨ s.water.poster = some p

theorem lapseCapacity_spec (s : State) (p : Port) :
    let t := s.lapseCapacity p
    t = { s with
      steam := { s.steam with boilers := t.steam.boilers }, ports := t.ports
      water := if s.water.poster = some p then { s.water with flow := s.water.lapseFlow, poster := none } else s.water } ∧
    (∀ b, t.boiler b = if (s.boiler b).poster = some p
      then { s.boiler b with postedKw := (s.boiler b).lapseCapacity, poster := none } else s.boiler b) ∧
    (∀ q, t.port q = { s.port q with flags := { (s.port q).flags with
      capacityChange := (t.port q).flags.capacityChange } }) ∧
    (Posted s p → ∀ q, (t.port q).flags.capacityChange = true) := by
  intro t
  let drop := fun r : Boiler => if r.poster = some p then { r with postedKw := r.lapseCapacity, poster := none } else r
  let u : State := { s with
    steam := { s.steam with boilers := s.steam.boilers.map drop }
    water := if s.water.poster = some p then { s.water with flow := s.water.lapseFlow, poster := none } else s.water }
  let hit := decide ((s.boiler 0).poster = some p) || decide ((s.boiler 1).poster = some p) ||
    decide (s.water.poster = some p)
  have written : t = if hit then u.postAll .capacityChange else u := rfl
  have boiler : ∀ b, u.boiler b = drop (s.boiler b) := fun b => Vector.getElem_map drop b.isLt
  have hits : Posted s p → hit = true := by
    rintro (⟨b, own⟩ | own)
    · fin_cases b
      · simp [hit, show (s.boiler 0).poster = some p from own]
      · simp [hit, show (s.boiler 1).poster = some p from own]
    · simp [hit, own]
  clear_value t hit
  cases hit with
  | true =>
    rw [if_pos rfl] at written
    have port : ∀ q, t.port q = withEvent (s.port q) .capacityChange := fun q => by
      rw [written, postAll_port]
      rfl
    refine ⟨?_, fun b => ?_, fun q => ?_, fun _ q => ?_⟩
    · rw [written]
      rfl
    · exact (congrArg (State.boiler · b) written :).trans (boiler b)
    · rw [port]
      rfl
    · rw [port]
      rfl
  | false =>
    rw [if_neg (by decide)] at written
    have port : ∀ q, t.port q = s.port q := fun q => (congrArg (State.port · q) written :)
    refine ⟨?_, fun b => ?_, fun q => ?_, fun posted => absurd (hits posted) (by decide)⟩
    · rw [written]
    · exact (congrArg (State.boiler · b) written :).trans (boiler b)
    · rw [port]

/-! ## The expiry of the silence timer (R148) -/

/-- The state in which the lapse of a port is raised. -/
def silenced (s : State) (p : Port) : State := (s.modPort p fun u => { u with silence := none }).lapseCapacity p

/-- The expiry withdraws the capacity and leaves the timer stopped. -/
theorem silenced_spec (s : State) (p : Port) :
    let t := s.silenced p
    t = { s with
      steam := { s.steam with boilers := t.steam.boilers }, ports := t.ports
      water := if s.water.poster = some p then { s.water with flow := s.water.lapseFlow, poster := none } else s.water } ∧
    (∀ b, t.boiler b = if (s.boiler b).poster = some p
      then { s.boiler b with postedKw := (s.boiler b).lapseCapacity, poster := none } else s.boiler b) ∧
    (∀ q, t.port q = { s.port q with
      silence := (t.port q).silence
      flags := { (s.port q).flags with capacityChange := (t.port q).flags.capacityChange } }) ∧
    (t.port p).silence = none ∧
    (Posted s p → ∀ q, (t.port q).flags.capacityChange = true) := by
  intro t
  obtain ⟨frame, boilers, ports, posted⟩ := (s.modPort p fun u => { u with silence := none }).lapseCapacity_spec p
  have written : t = (s.modPort p fun u => { u with silence := none }).lapseCapacity p := rfl
  rw [← written] at frame boilers ports posted
  clear_value t
  refine ⟨frame, boilers, fun q => ?_, ?_, posted⟩
  · rw [ports, modPort_port]
    split
    next own => rw [own]
    next => rfl
  · rw [ports, modPort_port_self]

theorem raiseLapse_of_free {s : State} (free : s.tableFree = true) (p : Port) :
    s.raiseLapse p = (s.modPort p fun u => { u with link := .lapsing }).writeLapse p := if_pos free

theorem raiseLapse_of_held {s : State} (held : s.tableFree = false) (p : Port) :
    s.raiseLapse p = s.modPort p fun u => { u with link := .lapsing } := if_neg (by rw [held]; decide)

/-! ## The frame held for a lapse (R148, log 24) -/

/-- The frame of a port whose lapse is applied, where no other port holds one that can be taken. -/
theorem heldFrameTaken_after_lapse {m : State} {p : Port} (settled : ∀ q, q ≠ p → m.Settled q) :
    HeldFrameTaken m (m.takeHeldOf p).takeHeld p := by
  rcases m.settled_or_held p with free | ⟨code, pl, held, past⟩
  · have all : ∀ q, m.Settled q := fun q => if own : q = p then own ▸ free else settled q own
    rw [takeHeldOf_settled free, takeHeld_settled all]
    exact heldFrameTaken_settled free
  · refine heldFrameTaken_of_held held past ?_
    split
    next => rfl
    next reset =>
      have frame := fun q (other : q ≠ p) => takeFrame_others (s := m.modPort p fun u => { u with outstanding := none }) (q := p)
        (code := code) (.inl reset) pl other
      refine takeHeld_settled fun q => ?_
      by_cases own : q = p
      · rw [own]
        exact m.takeHeldOf_settles p
      · obtain ⟨link, outstanding⟩ := frame q own
        rw [modPort_port_ne m _ own] at link outstanding
        rw [takeHeldOf_held held past]
        intro code' pl' still
        rw [link]
        exact settled q own code' pl' (outstanding.symm.trans still)

/-! ## The events (R147 to R149) -/

/-- The warning is posted once per reload. -/
theorem exec_lapseWarning {s : State} {p : Port} {tm : SilenceTimer} (runs : s.silenceRuns p = true)
    (timer : (s.port p).silence = some tm) (fresh : tm.warned = false) :
    ∃ t, exec (.lapseWarning p) s = .next t ∧ AllKept s t ∧ OtherPortsKept s t p ∧
      t.port p = { s.port p with flags := (s.port p).flags.post .lapseWarning, silence := some { tm with warned := true } } := by
  have due : (s.silenceRuns p && (s.port p).silence.any fun t => !t.warned) = true := by rw [runs, timer]; simp [fresh]
  refine ⟨_, congrArg Host.Outcome.next (if_pos due), allKept_of_parts, fun q other => ?_, ?_⟩
  · rw [modPort_port_ne _ _ other, postTo, modPort_port_ne _ _ other]
  · rw [modPort_port_self, postTo, modPort_port_self, timer]
    rfl

/-- The expiry of the silence timer, up to where the table part goes. -/
theorem raiseLapse_silenced {s : State} {p : Port} (once : (s.bursts.map BurstEntry.outlet).Nodup) :
    let t := (s.silenced p).raiseLapse p
    t = { s.silenced p with
      outlets := t.outlets, channels := t.channels, bursts := t.bursts, ports := t.ports } ∧
    (∀ q, (t.port q).silence = ((s.silenced p).port q).silence ∧
      (t.port q).flags.capacityChange = ((s.silenced p).port q).flags.capacityChange) ∧
    (s.tableFree = true → LapseApplied s t p) ∧
    (s.tableFree = false → RecordsKept s t ∧ DriveKept s t ∧ (t.port p).link = .lapsing) := by
  intro t
  obtain ⟨frame, -, ports, -, -⟩ := s.silenced_spec p
  have written : t = (s.silenced p).raiseLapse p := rfl
  clear_value t
  generalize s.silenced p = v at *
  have outlets : v.outlets = s.outlets := (congrArg State.outlets frame :)
  have channels : v.channels = s.channels := (congrArg State.channels frame :)
  have branches : v.branches = s.branches := (congrArg State.branches frame :)
  have bursts : v.bursts = s.bursts := (congrArg State.bursts frame :)
  have profile : v.profile = s.profile := (congrArg State.profile frame :)
  have arbiter : v.arbiter = s.arbiter := (congrArg State.arbiter frame :)
  have alike : HeldAlike s v :=
    { holder := by rw [arbiter]
      deferred := by rw [arbiter]
      removals := by rw [arbiter]
      engineWrite := by rw [arbiter]
      bursts := bursts
      pending := fun n => by
        rw [State.channel, State.channel, channels]
        exact ⟨rfl, rfl⟩
      lapsing := fun q => by rw [ports] }
  cases free : s.tableFree with
  | true =>
    rw [raiseLapse_of_free (alike.tableFree.trans free)] at written
    have ready : LapseReady s (v.modPort p fun u => { u with link := .lapsing }) p :=
      { outlets := outlets, channels := channels, branches := branches, bursts := bursts, profile := profile
        notices := fun q => by
          rw [modPort_port]
          split
          next own => rw [own, ports]
          next => rw [ports]
        others := fun q other => by
          rw [modPort_port_ne _ _ other, ports]
          exact ⟨rfl, rfl⟩ }
    have applied := lapseApplied_writeLapse ready once
    obtain ⟨kept, -, -, own, others, -⟩ :=
      (v.modPort p fun u => { u with link := .lapsing }).writeLapse_spec (bursts ▸ once) p
    rw [← written] at applied kept own others
    refine ⟨kept, fun q => ?_, fun _ => applied, nofun⟩
    by_cases mine : q = p
    · rw [mine, own, modPort_port_self]
      exact ⟨rfl, rfl⟩
    · rw [others q mine, modPort_port_ne _ _ mine]
      exact ⟨rfl, rfl⟩
  | false =>
    rw [raiseLapse_of_held (alike.tableFree.trans free)] at written
    refine ⟨?_, fun q => ?_, nofun, fun _ => ⟨?_, ?_, ?_⟩⟩
    · rw [written]
      rfl
    · rw [written, modPort_port]
      split
      next own =>
        rw [own]
        exact ⟨rfl, rfl⟩
      next => exact ⟨rfl, rfl⟩
    · rw [written]
      exact ⟨outlets, profile, bursts⟩
    · rw [written]
      exact ⟨channels, branches⟩
    · rw [written, modPort_port_self]

end State

/-- Settles O43 (R62, R147 to R149): what waits at the expiry of the silence is the table part alone. -/
theorem lapseWithdrawsWhatThePortAskedFor : Obligations.LapseWithdrawsWhatThePortAskedFor := by
  intro s p bounded
  have once := bounded.2
  refine ⟨fun tm => State.exec_lapseWarning, fun runs => ?_, fun lapsing may others => ?_⟩
  · obtain ⟨frame, boilers, -, silence, posted⟩ := s.silenced_spec p
    obtain ⟨raised, units, free, held⟩ := State.raiseLapse_silenced (p := p) once
    have row : exec (.silenceTimerExpiry p) s = .next ((s.silenced p).raiseLapse p) :=
      congrArg Host.Outcome.next (if_pos runs)
    generalize (s.silenced p).raiseLapse p = t at *
    generalize s.silenced p = v at *
    have boiler : ∀ b, t.boiler b = v.boiler b := fun b => (congrArg (State.boiler · b) raised :)
    have steam : t.steam = v.steam := (congrArg State.steam raised :)
    rw [frame] at raised
    refine ⟨t, row, (units p).1.trans silence, ?_, fun b => (boiler b).trans (boilers b), (congrArg State.water raised :),
      ⟨(congrArg State.stores raised :), (congrArg State.reference raised :), (congrArg State.ratio raised :),
        (congrArg State.pulse raised :), (congrArg State.scan raised :)⟩,
      ⟨(congrArg State.inputs raised :), (congrArg State.store raised :), (congrArg State.pending raised :)⟩,
      (congrArg State.engine raised :), (congrArg State.arbiter raised :), free, held,
      fun capacity q => (units q).2.trans (posted capacity q)⟩
    rw [steam]
    exact (congrArg State.steam frame :)
  · have released := State.mayApply_release may
    have ready : State.LapseReady s s.releasePort p := by
      rw [released]
      exact ⟨rfl, rfl, rfl, rfl, rfl, fun _ => rfl, fun _ _ => ⟨rfl, rfl⟩⟩
    have applied := State.lapseApplied_writeLapse ready once
    obtain ⟨frame, -, -, own, kept, -⟩ := s.releasePort.writeLapse_spec (ready.bursts ▸ once) p
    have row : exec (.applyLapse p) s = .next (((s.releasePort.writeLapse p).takeHeldOf p).takeHeld) :=
      congrArg Host.Outcome.next (if_pos ⟨lapsing, may⟩)
    generalize s.releasePort.writeLapse p = m at *
    rw [released] at frame own kept
    have units : ∀ q, q ≠ p → m.port q = s.port q := kept
    have settled : ∀ q, q ≠ p → m.Settled q := fun q other code pl heldFrame => by
      rw [units q other] at heldFrame ⊢
      exact others q code pl other heldFrame
    refine ⟨m, _, row, State.heldFrameTaken_after_lapse settled,
      ⟨(congrArg State.steam frame :), (congrArg State.water frame :)⟩,
      ⟨(congrArg State.stores frame :), (congrArg State.reference frame :), (congrArg State.ratio frame :),
        (congrArg State.pulse frame :), (congrArg State.scan frame :)⟩,
      ⟨(congrArg State.inputs frame :), (congrArg State.store frame :), (congrArg State.pending frame :)⟩,
      (congrArg State.engine frame :), applied, (congrArg State.arbiter frame :), units, ?_⟩
    rw [own]
    rfl

end Sys2Proof.Machine
end
